-- ==== Sys2Proof/Word.lean ====
section
/-! DEFINITION. The word types of the AS614's wires and registers, and the moment and timer types of its timebase.
Only the plainest notions stand here; everything that computes an effect stands under Machine/. -/

namespace Sys2Proof

/-- One byte on the roof line, on the command port or in the configuration block (chapter 11). -/
abbrev Byte := BitVec 8

/-- A two-byte quantity, sent most significant byte first (chapter 11). -/
abbrev Word16 := BitVec 16

/-- A metre or millimetre count of the odometer, which wraps from 4,294,967,295 to 0 (R78, R90). -/
abbrev Word32 := BitVec 32

/-- A moment of the one timebase of R77, in microseconds since the end of the last full reset. -/
abbrev Moment := Nat

/-- A timer: stopped (`none`), or running and due at a moment (`some due`). -/
abbrev Timer := Option Moment

/-- One value for each of the station's two pantographs, P0 and P1. -/
structure Pair (α : Type) where
  p0 : α
  p1 : α
deriving DecidableEq, Repr

/-- The two pantographs of a station (section 0.6). -/
inductive Pan where
  | p0
  | p1
deriving DecidableEq, Repr

/-- The value a pair holds for a pantograph. -/
def Pair.get {α : Type} (x : Pair α) : Pan → α
  | .p0 => x.p0
  | .p1 => x.p1

/-- The pair with the value for one pantograph replaced. -/
def Pair.set {α : Type} (x : Pair α) (p : Pan) (v : α) : Pair α :=
  match p with
  | .p0 => { x with p0 := v }
  | .p1 => { x with p1 := v }

/-- The same value for both pantographs. -/
def Pair.both {α : Type} (v : α) : Pair α := ⟨v, v⟩

end Sys2Proof
end

