-- ==== Sys2Proof/Syntax.lean ====
section
/-! DEFINITION. The commands of the AS614: one constructor of `Instr` for each row of spec/opcode_table.json, in the
table's order. Every command carries `t`, the moment of the timebase at which it happens (R77; notes/assumptions/1.md):
a command that names a moment already past happens now. The command of a filtered input carries as its `t` how long its pins
have held the levels it names (R77; notes/assumptions/29.md). -/

namespace Sys2Proof

/-- A host request as it stands on the command port after its command byte: the argument bytes, whose number is the
length byte, and the check byte (R170). -/
structure Request where
  args : List Byte
  check : Byte
deriving DecidableEq, Repr

/-- How long input pins have held the levels a command names (R77): they took them at `since`, and have held them without
interruption until `moment`, the moment of the command. -/
structure Held where
  since : Moment
  moment : Moment
deriving DecidableEq, Repr

/-- The pulse-interval channels (chapter 4). -/
inductive PulseChan where
  | lv
  | frc0
  | frc1
deriving DecidableEq, Repr

/-- The channels that make captures (R83). -/
inductive CaptureChan where
  | lv
  | zx
  | frc0
  | frc1
deriving DecidableEq, Repr

/-- The levels of the three feedback contacts of the selector, true when closed (R96). -/
structure SelContacts where
  ac : Bool
  opn : Bool
  dc : Bool
deriving DecidableEq, Repr

/-- The levels of the two feedback contacts of an isolator, true when closed (R100). -/
structure IsoContacts where
  opn : Bool
  closed : Bool
deriving DecidableEq, Repr

/-- The levels of the pins of the measurement inputs, true when high (R77). -/
structure MuLevels where
  odo : Bool
  lv : Bool
  zx : Bool
  posA : Pair Bool
  posB : Pair Bool
  frc : Pair Bool
  arc : Pair Bool
deriving DecidableEq, Repr

/-- What the pins show at the end of a full reset (R187): the straps (R180), the housed inputs (R49), the drop lines
(R53), the measurement inputs (R77), the switchgear contacts (R96, R100, R105) and the supply monitor. -/
structure ResetPins where
  strap : BitVec 5
  housed : Pair Bool
  dropLine : Pair Bool
  levels : MuLevels
  selector : SelContacts
  isolators : Pair IsoContacts
  breakerOpen : Bool
  supplyLow : Bool
deriving DecidableEq, Repr

/-- The kinds of contestable notice (section 2.6). -/
inductive ContestKind where
  | claim
  | regime
  | heatTake
deriving DecidableEq, Repr

/-- The target of a contest record: origin station, origin sequence and kind of the contestable notice (R39). -/
structure Target where
  station : Nat
  seq : Byte
  kind : ContestKind
deriving DecidableEq, Repr

/-- The commands. The constructors stand in the order of spec/opcode_table.json. -/
inductive Instr where
  | fullReset (pins : ResetPins)
  | supplyFall (t : Moment)
  | supplyRise (t : Moment)
  | lineIdle (t : Moment)
  | transmissionAttempt (t : Moment)
  | transmissionComplete (t : Moment)
  | collision (t : Moment)
  | frameReceived (t : Moment) (bytes : List Byte) (endValid : Bool)
  | presenceTimerExpiry (t : Moment)
  | settlingEnd (t : Moment)
  | silenceTimerExpiry (t : Moment) (station : Nat)
  | dropClearTimerExpiry (t : Moment) (station : Nat)
  | windowTimerExpiry (t : Moment) (target : Target)
  | deadIntervalEnd (t : Moment) (pan : Pan)
  | pulseEnd (t : Moment) (pan : Pan)
  | housing (t : Held) (pan : Pan)
  | housedInputInactive (t : Moment) (pan : Pan)
  | dropLineActive (t : Moment) (pan : Pan)
  | dropLineInactive (t : Moment) (pan : Pan)
  | raiseTimeout (t : Moment) (pan : Pan)
  | regulationPeriod (t : Moment) (pan : Pan)
  | lowerTimerExpiry (t : Moment) (pan : Pan)
  | pulseIntervalEdge (t : Held) (ch : PulseChan) (level : Bool)
  | captureCounterOverflow (t : Moment) (ch : CaptureChan)
  | zeroCrossingEdge (t : Held) (level : Bool)
  | noSignalTimerExpiry (t : Moment) (ch : CaptureChan)
  | captureTake (t : Moment) (ch : CaptureChan)
  | encoderEdge (t : Held) (pan : Pan) (a b : Bool)
  | arcPulse (t : Held) (pan : Pan) (level : Bool)
  | axlePulse (t : Held) (level : Bool)
  | classifierWindowEnd (t : Moment)
  | selectorFeedbackChange (t : Held) (contacts : SelContacts)
  | selectorLegTimeout (t : Moment)
  | isolatorFeedbackChange (t : Held) (pan : Pan) (contacts : IsoContacts)
  | isolatorMoveTimeout (t : Moment) (pan : Pan)
  | breakerInputChange (t : Held) (active : Bool)
  | breakerTimerExpiry (t : Moment)
  | deadLineTimerExpiry (t : Moment)
  | roundTimerExpiry (t : Moment)
  | probeWaitTimerExpiry (t : Moment)
  | probeRetryTimerExpiry (t : Moment)
  | scraperRetryTimerExpiry (t : Moment)
  | heatRetryTimerExpiry (t : Moment)
  | releaseTimerExpiry (t : Moment)
  | heaterPeriod (t : Moment) (pan : Pan) (thermal : Bool)
  | heaterDutyEnd (t : Moment) (pan : Pan)
  | thermalTrip (t : Moment) (pan : Pan)
  | writeConfig (t : Moment) (req : Request) (housed : Pair Bool)
  | readConfig (t : Moment) (req : Request)
  | join (t : Moment) (req : Request)
  | leave (t : Moment) (req : Request)
  | raise (t : Moment) (req : Request)
  | lower (t : Moment) (req : Request)
  | block (t : Moment) (req : Request)
  | unblock (t : Moment) (req : Request)
  | setRegime (t : Moment) (req : Request)
  | announceSection (t : Moment) (req : Request)
  | proposeChangeover (t : Moment) (req : Request)
  | abortChangeover (t : Moment) (req : Request)
  | forget (t : Moment) (req : Request)
  | setIce (t : Moment) (req : Request)
  | heat (t : Moment) (req : Request)
  | unblockHeater (t : Moment) (req : Request)
  | readStatus (t : Moment) (req : Request)
  | readEvent (t : Moment) (req : Request)
  | readEventResponseComplete (t : Moment)
  | readPeer (t : Moment) (req : Request)
  | readPanEntry (t : Moment) (req : Request)
  | readDrive (t : Moment) (req : Request)
  | readRound (t : Moment) (req : Request)
  | readSection (t : Moment) (req : Request)
  | readGrants (t : Moment) (req : Request)
  | readChannel (t : Moment) (req : Request)
  | readLine (t : Moment) (req : Request)
  | clearFaults (t : Moment) (req : Request)
  | unknownCommand (t : Moment) (code : Byte) (req : Request)
  | transactionAbandoned (t : Moment) (received : List Byte)
  | startSymbolHeard (t : Moment)
deriving DecidableEq, Repr

end Sys2Proof
end

