-- ==== Sys2Proof/Decode.lean ====
section
/-! DEFINITION. Commands as words. No row of spec/opcode_table.json gives its command any bits: a command is a happening at
one of the part's faces, not a word (notes/assumptions/33.md). -/

namespace Sys2Proof

/-- The command a word spells by the table's bits: none, since no row gives bits. -/
def decodeTableWord (_nbits _w : Nat) : Option Instr := none

end Sys2Proof
end

