-- ==== Sys2Proof/Machine/State.lean ====
section
/-! DEFINITION. The state of the AS614, unit by unit as section 0.3 names them, as plain data, with the values after full
reset. Every timer is held as the moment at which it is due; counts that the timebase alone moves (the millisecond
counter, a running capture counter, remaining times) are views of `now` (Machine/Ops.lean, Machine/Reads.lean). -/

namespace Sys2Proof.Machine

/-! ## Enumerations of the spec -/

/-- The four supply systems (section 0.7). The regime value NONE is `none : Option Supply` (R22). -/
inductive Supply where
  | ac25
  | ac15
  | dc3
  | dc15
deriving DecidableEq, Repr

/-- The classes a line can be given (R94, R95). -/
inductive LineClass where
  | dead
  | live (s : Supply)
  | unclear
deriving DecidableEq, Repr

/-- Direction of travel (section 0.7). -/
inductive Direction where
  | aForward
  | bForward
deriving DecidableEq, Repr

/-- Ice levels and observations (R22, R152). -/
inductive Ice where
  | clear
  | watch
  | scrape
deriving DecidableEq, Repr

/-- The kind of a pantograph (R21). -/
inductive PanKind where
  | ac
  | dc
deriving DecidableEq, Repr

/-- The roles of a raised pantograph (R21). -/
inductive Role where
  | collector
  | scraper
  | probe
deriving DecidableEq, Repr

/-- Port states (section 1.8). -/
inductive PortState where
  | offline
  | joining
  | online
  | listenOnly
deriving DecidableEq, Repr

/-- The 18 notice kinds (R1, table 11.2). -/
inductive NoticeKind where
  | drop
  | object
  | fault
  | leave
  | coPropose
  | coReady
  | coProbe
  | coAbort
  | claim
  | raised
  | yield
  | regime
  | sectionAhead
  | ice
  | heatTake
  | heatGive
  | present
  | join
deriving DecidableEq, Repr

/-- The eleven local faults, in the order of their bits (R178, section 11.4). -/
inductive FaultKind where
  | raiseTimeout
  | noWire
  | stuckUp
  | sensorConflict
  | heaterTrip
  | breakerLate
  | selectorTimeout
  | isolatorTimeout
  | voltageMismatch
  | busCollisions
  | duplicateStation
deriving DecidableEq, Repr

/-- The reasons an OBJECT carries (section 11.4). -/
inductive ObjectReason where
  | notReady
  | foreign
  | state
  | round
  | system
  | count
  | spacing
  | scraper
  | budget
deriving DecidableEq, Repr

/-! ## Input pins (R50, R77, R96, R100, R105) -/

/-- The input pins that pass through a filter: those of the measurement unit, the switchgear contacts, the breaker input and
the housed inputs. -/
inductive InputPin where
  | odo
  | lv
  | zx
  | frc (pan : Pan)
  | posA (pan : Pan)
  | posB (pan : Pan)
  | arc (pan : Pan)
  | selAc
  | selOpn
  | selDc
  | isoOpn (pan : Pan)
  | isoClosed (pan : Pan)
  | breaker
  | housed (pan : Pan)
deriving DecidableEq, Repr

/-- The level at a pin before its filter, and the moment since which the pin has held it. -/
structure PinLevel where
  level : Bool
  since : Moment
deriving DecidableEq, Repr

/-- The levels at the filtered pins. A pin whose level is not its filtered level has a change pending; the filtered levels
stand in the records of the units that use them. -/
structure Pins where
  odo : PinLevel
  lv : PinLevel
  zx : PinLevel
  frc : Pair PinLevel
  posA : Pair PinLevel
  posB : Pair PinLevel
  arc : Pair PinLevel
  selAc : PinLevel
  selOpn : PinLevel
  selDc : PinLevel
  isoOpn : Pair PinLevel
  isoClosed : Pair PinLevel
  breaker : PinLevel
  housed : Pair PinLevel
deriving DecidableEq, Repr

/-- The levels of a pair of pins held since the end of a full reset. -/
def restingPair (x : Pair Bool) : Pair PinLevel := ⟨⟨x.p0, 0⟩, ⟨x.p1, 0⟩⟩

/-- The pins at the end of a full reset, as they stand (R49, R77, R96, R100, R105). -/
def Pins.reset (pins : ResetPins) : Pins where
  odo := ⟨pins.levels.odo, 0⟩
  lv := ⟨pins.levels.lv, 0⟩
  zx := ⟨pins.levels.zx, 0⟩
  frc := restingPair pins.levels.frc
  posA := restingPair pins.levels.posA
  posB := restingPair pins.levels.posB
  arc := restingPair pins.levels.arc
  selAc := ⟨pins.selector.ac, 0⟩
  selOpn := ⟨pins.selector.opn, 0⟩
  selDc := ⟨pins.selector.dc, 0⟩
  isoOpn := restingPair ⟨pins.isolators.p0.opn, pins.isolators.p1.opn⟩
  isoClosed := restingPair ⟨pins.isolators.p0.closed, pins.isolators.p1.closed⟩
  breaker := ⟨pins.breakerOpen, 0⟩
  housed := restingPair pins.housed

/-! ## Notices -/

/-- The eight payload bytes of PRESENT and JOIN (table 11.3). -/
structure Report where
  fingerprint : Byte
  pan0 : Word16
  pan1 : Word16
  regime : Byte
  heatFault : Byte
  round : Byte
deriving DecidableEq, Repr

/-- A notice with its payload fields as they stand on the line (table 11.2); codes are read by the unit that applies
the notice, since a code outside the tables is delivered too (R188). -/
inductive Notice where
  | drop (pan phase : Byte)
  | object (station seq kind reason : Byte)
  | fault (code pan detail : Byte)
  | leave (flags : Byte)
  | coPropose (number target keyOrigin keyId : Byte) (distance length : Word16)
  | coReady (number target : Byte)
  | coProbe (number target measured : Byte)
  | coAbort (number target reason : Byte)
  | claim (pan role : Byte)
  | raised (pan role : Byte)
  | yield (pan : Byte)
  | regime (band direction : Byte)
  | sectionAhead (keyOrigin keyId kind target : Byte) (distance length : Word16)
  | ice (observation : Byte)
  | heatTake (units : Byte)
  | heatGive (units : Byte)
  | present (r : Report)
  | join (r : Report)
deriving DecidableEq, Repr

/-- A notice in the transmit queue (R12). `inAttempt` marks the notice of the attempt in progress, and `withdrawn` one
whose withdrawal was taken during its attempt (R15). -/
structure QueuedNotice where
  notice : Notice
  host : Bool
  inAttempt : Bool
  withdrawn : Bool
deriving DecidableEq, Repr

/-! ## Roof line port (chapter 1) -/

/-- What the presence slot holds (R16); the fields are taken when the attempt begins. -/
inductive SlotNotice where
  | present
  | join
deriving DecidableEq, Repr

/-- A transmission attempt in progress (R5): the notice as fixed at its start, its sequence, where it came from, and the
moment its last bit will have been sent. -/
structure Attempt where
  fromSlot : Bool
  notice : Notice
  seq : Byte
  doneAt : Moment
deriving DecidableEq, Repr

/-- The RLP's view of the line (R2): busy, busy with the jam of a collided frame until the end of the last frame
(`lastEnd`), ended but not yet idle, or idle. -/
inductive LineView where
  | busy
  | jam
  | ended
  | idle
deriving DecidableEq, Repr

/-- The deference point the RLP has computed (R3), with what it was computed from: the class offered, the recent-sender
flag and the end of the last frame. -/
structure Deference where
  cls : Nat
  flagged : Bool
  frameEnd : Moment
  point : Moment
deriving DecidableEq, Repr

/-- The roof line port. `expected` has one place for each station 1 to 24. -/
structure Rlp where
  port : PortState
  queue : List QueuedNotice
  slot : Option SlotNotice
  attempt : Option Attempt
  nextSeq : Byte
  expected : List (Option Byte)
  collisions : Nat
  recentSender : Bool
  line : LineView
  lastEnd : Moment
  deference : Option Deference
  presenceTimer : Timer
  settleTimer : Timer
deriving DecidableEq, Repr

/-- The RLP after full reset (R2, R5, R7, R11, R12, R16, section 1.8). -/
def Rlp.reset : Rlp where
  port := .offline
  queue := []
  slot := none
  attempt := none
  nextSeq := 0
  expected := List.replicate 24 none
  collisions := 0
  recentSender := false
  line := .ended
  lastEnd := 0
  deference := none
  presenceTimer := none
  settleTimer := none

/-! ## Roster unit (chapter 2) -/

/-- What a station knows of a station number (R20). -/
inductive PeerStatus where
  | absent
  | live
  | silent
  | foreign
  | left
deriving DecidableEq, Repr

/-- The four fault groups of a fault summary and of the fault nibble (R36). -/
structure FaultGroups where
  drop : Bool
  breaker : Bool
  switchgear : Bool
  voltage : Bool
deriving DecidableEq, Repr

/-- One peer record (R20). -/
structure Peer where
  status : PeerStatus
  doubtful : Bool
  fingerprint : Option Byte
  regimeByte : Option Byte
  heatUnits : Option Nat
  roundByte : Option Byte
  faults : FaultGroups
  silence : Timer
  dropClear : Timer
deriving DecidableEq, Repr

/-- A peer record after full reset and on entry to OFFLINE (R20). -/
def Peer.reset : Peer where
  status := .absent
  doubtful := false
  fingerprint := none
  regimeByte := none
  heatUnits := none
  roundByte := none
  faults := ⟨false, false, false, false⟩
  silence := none
  dropClear := none

/-- States of a pan roster entry (R21). -/
inductive EntryState where
  | down
  | claimed
  | withdrawn
  | up
  | dropping
  | blocked
  | unknown
deriving DecidableEq, Repr

/-- One pan roster entry, keyed by station and pantograph (R21). -/
structure Entry where
  station : Nat
  pan : Pan
  position : Nat
  kind : PanKind
  state : EntryState
  role : Option Role
  claimSeq : Option Byte
  windowOpen : Bool
deriving DecidableEq, Repr

/-- The regime record (R22). -/
structure Regime where
  system : Option Supply
  band : Fin 4
  direction : Direction
  ice : Ice
  settled : Bool
deriving DecidableEq, Repr

/-- The regime record after full reset and on entry to OFFLINE (R22). -/
def Regime.reset : Regime where
  system := none
  band := 0
  direction := .aForward
  ice := .clear
  settled := false

/-- What a contest record holds beside its target (R39): the claimed pantograph, the band and direction before a REGIME,
or the sender's units before and as carried by a HEAT-TAKE. -/
inductive ContestBody where
  | claim (pan : Pan)
  | regime (band : Fin 4) (direction : Direction)
  | heatTake (saved carried : Nat)
deriving DecidableEq, Repr

/-- One contest record (R39). The window timer always runs; `due` is its end. -/
structure Contest where
  target : Target
  body : ContestBody
  due : Moment
  objected : Bool
deriving DecidableEq, Repr

/-- The roster unit. `peers` has one record for each station 1 to 24; `roster` stands in key order; `contests` stands
oldest first. -/
structure Ru where
  peers : List Peer
  roster : List Entry
  regime : Regime
  contests : List Contest
deriving DecidableEq, Repr

/-- The roster unit after full reset (R20, R21, R22, R39). -/
def Ru.reset : Ru where
  peers := List.replicate 24 Peer.reset
  roster := []
  regime := Regime.reset
  contests := []

/-! ## Pantograph drives (chapter 3) -/

/-- Drive states (R49). -/
inductive DriveState where
  | down
  | raising
  | up
  | lowering
  | dropped
  | blocked
deriving DecidableEq, Repr

/-- Why a drive left service (R49). -/
inductive BlockCause where
  | dropLine
  | sensorConflict
  | host
  | supply
deriving DecidableEq, Repr

/-- A block that waits for housing (R49). -/
inductive PendingBlock where
  | host
  | sensorConflict
deriving DecidableEq, Repr

/-- Where the drive's own claim stands (R49, section 3.4). -/
inductive ClaimStage where
  | idle
  | queued
  | standing
  | cancelled
deriving DecidableEq, Repr

/-- Valve states and valve targets (R51, R52). -/
inductive Valve where
  | fill
  | vent
  | closed
deriving DecidableEq, Repr

/-- The pulse a target belongs to (R52): none, one still waiting for its valve to open, or one that runs out at a
moment. -/
inductive Pulse where
  | idle
  | waiting
  | running (due : Moment)
deriving DecidableEq, Repr

/-- A drive notice the transmit queue had to drop (R76). -/
inductive Outstanding where
  | raised
  | yield
  | dropFalling
  | dropBlocked
deriving DecidableEq, Repr

/-- One drive record (R49), with the state the rules of chapter 3 imply beside its fields: the housed indication (R50),
the pulse in progress and a decision held behind an open pulse (R52, R66), the qualifying runs of R63 and R67, the most
recent valid reading of the period (R66), and a cancellation that came during the claim's attempt (R60). -/
structure Drive where
  state : DriveState
  blockCause : Option BlockCause
  pendingBlock : Option PendingBlock
  enable : Bool
  raiseRequest : Bool
  role : Option Role
  claimStage : ClaimStage
  claimSeq : Option Byte
  cancelPending : Bool
  valve : Valve
  target : Valve
  pulse : Pulse
  heldDecision : Option Valve
  deadTimer : Timer
  active : Nat
  shadow : Nat
  raiseTimer : Timer
  lowerTimer : Timer
  regulationTimer : Timer
  episode : Bool
  lowSince : Option Moment
  contactSince : Option Moment
  reading : Option Nat
  outstanding : Option Outstanding
  housed : Bool
deriving DecidableEq, Repr

/-- A drive record from its reset values (R49, R51): the housed input as it stands, the moment, and the dead interval,
lower timeout and COLLECTOR band 0 setpoint of the configuration (µs, µs, N). The housed indication starts clear, so that a drive
that finds its pantograph housed at reset takes its first housing 30 ms later (R88); at a write that fits the pantograph it starts
so by the model's choice (notes/assumptions/16.md). -/
def Drive.reset (housedInput : Bool) (now dead lowerTimeout setpoint : Nat) : Drive where
  state := if housedInput then .down else .lowering
  blockCause := none
  pendingBlock := none
  enable := false
  raiseRequest := false
  role := none
  claimStage := .idle
  claimSeq := none
  cancelPending := false
  valve := .closed
  target := .vent
  pulse := .idle
  heldDecision := none
  deadTimer := some (now + dead)
  active := setpoint
  shadow := setpoint
  raiseTimer := none
  lowerTimer := if housedInput then none else some (now + lowerTimeout)
  regulationTimer := none
  episode := false
  lowSince := none
  contactSince := none
  reading := none
  outstanding := none
  housed := false

/-! ## Measurement unit (chapter 4) -/

/-- Validity of a capture (R78). -/
inductive Validity where
  | valid
  | over
  | noSignal
deriving DecidableEq, Repr

/-- A capture (R78): interval in µs, frequency in Hz, converted quantity, level after the edge; `none` where the rules
give the capture no such value. -/
structure Capture where
  validity : Validity
  interval : Option Nat
  frequency : Option Nat
  quantity : Option Nat
  level : Option Bool
deriving DecidableEq, Repr

/-- What the four capturing channels share (R78): the filtered level, the signal status, the no-signal timer, the capture
counter (the moment it was set to 0 while it runs, else the value at which it stands) with its overflow count, the
capture and its two flags. -/
structure CaptureRecord where
  level : Bool
  signal : Bool
  noSignal : Timer
  counterFrom : Option Moment
  counterHeld : Nat
  overflow : Nat
  capture : Option Capture
  fresh : Bool
  overrun : Bool
deriving DecidableEq, Repr

/-- A capturing channel after full reset (R78), its filtered level taken from the pin (R77). -/
def CaptureRecord.reset (level : Bool) : CaptureRecord where
  level := level
  signal := false
  noSignal := none
  counterFrom := none
  counterHeld := 0
  overflow := 0
  capture := none
  fresh := false
  overrun := false

/-- A measurement in progress: its opening stamp and its period count (R78, R79). -/
structure Measurement where
  opened : Moment
  periods : Nat
deriving DecidableEq, Repr

/-- LV, FRC0 or FRC1 (R78). -/
structure PulseChannel where
  cap : CaptureRecord
  measurement : Option Measurement
deriving DecidableEq, Repr

/-- ZX (R78). -/
structure ZxChannel where
  cap : CaptureRecord
  previous : Option Moment
deriving DecidableEq, Repr

/-- POS0 or POS1 (R78, R87): the filtered phases, the two counts and the skip count. -/
structure PosChannel where
  a : Bool
  b : Bool
  count : Int
  housingCount : Int
  skips : Nat
deriving DecidableEq, Repr

/-- A last window result (R78, R91). -/
inductive ArcResult where
  | count (n : Nat)
  | over
deriving DecidableEq, Repr

/-- ARC0 or ARC1 (R78). -/
structure ArcChannel where
  level : Bool
  count : Word16
  overflow : Nat
  last : Option ArcResult
deriving DecidableEq, Repr

/-- The odometer record (R78, R89, R90, R92). -/
structure Odo where
  level : Bool
  pulses : Word16
  millimetres : Word32
  fraction : Nat
  metres : Word32
  windowMetres : Nat
deriving DecidableEq, Repr

/-- The measurement unit. -/
structure Mu where
  lv : PulseChannel
  frc : Pair PulseChannel
  zx : ZxChannel
  pos : Pair PosChannel
  arc : Pair ArcChannel
  odo : Odo
deriving DecidableEq, Repr

/-- The measurement unit after full reset (R77, R78). -/
def Mu.reset (l : MuLevels) : Mu where
  lv := ⟨CaptureRecord.reset l.lv, none⟩
  frc := ⟨⟨CaptureRecord.reset l.frc.p0, none⟩, ⟨CaptureRecord.reset l.frc.p1, none⟩⟩
  zx := ⟨CaptureRecord.reset l.zx, none⟩
  pos := ⟨⟨l.posA.p0, l.posB.p0, 0, 0, 0⟩, ⟨l.posA.p1, l.posB.p1, 0, 0, 0⟩⟩
  arc := ⟨⟨l.arc.p0, 0, 0, none⟩, ⟨l.arc.p1, 0, 0, none⟩⟩
  odo := ⟨l.odo, 0, 0, 0, 0, 0⟩

/-! ## Switchgear unit (chapter 5) -/

/-- The accumulators of the classifier window in progress (R93). -/
structure Accumulators where
  voltageSum : Nat
  voltageCount : Nat
  lvInvalid : Bool
  highSum : Nat
  highCount : Nat
  lowSum : Nat
  lowCount : Nat
  zxOverrun : Bool
deriving DecidableEq, Repr

/-- The accumulators emptied (R93). -/
def Accumulators.empty : Accumulators where
  voltageSum := 0
  voltageCount := 0
  lvInvalid := false
  highSum := 0
  highCount := 0
  lowSum := 0
  lowCount := 0
  zxOverrun := false

/-- The line class record (R95). -/
structure LineRecord where
  lastResult : Option LineClass
  runClass : Option LineClass
  runLength : Nat
  stable : LineClass
deriving DecidableEq, Repr

/-- Positions of the selector; the position NONE is `none` (R96). -/
inductive SelPos where
  | opn
  | ac
  | dc
deriving DecidableEq, Repr

/-- The selector record (R96), with its filtered contacts and the position last confirmed before the leg (R98). -/
structure Selector where
  contacts : SelContacts
  confirmed : Option SelPos
  target : Option SelPos
  leg : Option SelPos
  before : Option SelPos
  busy : Bool
  legTimer : Timer
deriving DecidableEq, Repr

/-- Positions of an isolator; the position NONE is `none` (R100). -/
inductive IsoPos where
  | opn
  | closed
deriving DecidableEq, Repr

/-- One isolator record (R100), with its filtered contacts and the units that wait for an answer (R101, R102). -/
structure Isolator where
  contacts : IsoContacts
  confirmed : Option IsoPos
  requested : Option IsoPos
  moving : Option IsoPos
  moveTimer : Timer
  askedIu : Bool
  askedCu : Bool
deriving DecidableEq, Repr

/-- The breaker reason set (R103). -/
structure Reasons where
  neutral : Bool
  round : Bool
  fault : Bool
  host : Bool
deriving DecidableEq, Repr

/-- The position the selector's contacts show: the one whose contact alone is closed (R96). -/
def selShows (c : SelContacts) : Option SelPos :=
  match c.ac, c.opn, c.dc with
  | true, false, false => some .ac
  | false, true, false => some .opn
  | false, false, true => some .dc
  | _, _, _ => none

/-- The position an isolator's contacts show (R100). -/
def isoShows (c : IsoContacts) : Option IsoPos :=
  match c.opn, c.closed with
  | true, false => some .opn
  | false, true => some .closed
  | _, _ => none

/-- An isolator record from its reset values (R100). -/
def Isolator.reset (c : IsoContacts) : Isolator where
  contacts := c
  confirmed := isoShows c
  requested := some .closed
  moving := none
  moveTimer := none
  askedIu := false
  askedCu := false

/-- The switchgear unit. `breakerOpen` is the filtered breaker input (R105); `mismatchHeld` and `deadHeld` say what the
previous tests of R107 and R108 found. -/
structure Sg where
  acc : Accumulators
  windowTimer : Timer
  line : LineRecord
  selector : Selector
  iso : Pair Isolator
  reasons : Reasons
  breakerOpen : Bool
  breakerTimer : Timer
  mismatchHeld : Bool
  deadHeld : Bool
  deadLineTimer : Timer
deriving DecidableEq, Repr

/-- The switchgear unit after full reset (R93, R95, R96, R100, R103, R105, R106, R108). -/
def Sg.reset (pins : ResetPins) : Sg where
  acc := Accumulators.empty
  windowTimer := some 160000
  line := ⟨none, none, 0, .dead⟩
  selector := ⟨pins.selector, selShows pins.selector, none, none, none, false, none⟩
  iso := ⟨Isolator.reset pins.isolators.p0, Isolator.reset pins.isolators.p1⟩
  reasons := ⟨false, false, false, true⟩
  breakerOpen := pins.breakerOpen
  breakerTimer := none
  mismatchHeld := false
  deadHeld := false
  deadLineTimer := none

/-! ## Section unit (chapter 6) -/

/-- Kind and target of a section entry: a neutral section has no target (R110). -/
inductive SectionKind where
  | neutral
  | system (target : Supply)
deriving DecidableEq, Repr

/-- The key of a section: the announcing station and its number for the section (R110). -/
structure SectionKey where
  origin : Byte
  localId : Byte
deriving DecidableEq, Repr

/-- One section entry (R110). -/
structure SectionEntry where
  key : SectionKey
  kind : SectionKind
  rewritten : Bool
  start : Word32
  finish : Word32
  late : Pair Bool
  proposed : Bool
deriving DecidableEq, Repr

/-- What the events of R114 change: the metre count, the entries held, the states and roles of the drives, the filtered
breaker input, and the regime's system and direction; and the port state, for the test at the entry to ONLINE
(notes/assumptions/67.md). -/
structure SectionView where
  port : PortState
  metres : Word32
  keys : List SectionKey
  drives : Pair (DriveState × Option Role)
  breakerOpen : Bool
  system : Option Supply
  direction : Direction
deriving DecidableEq, Repr

/-- The section unit (R110). `tested` is the view at the last test of R121, none since a round has opened or closed: an event
of R114 is a change of it. -/
structure Sq where
  entries : List SectionEntry
  nextId : Byte
  raiseHold : Pair Bool
  tested : Option SectionView
deriving DecidableEq, Repr

/-- The section unit after full reset (R110). -/
def Sq.reset : Sq := ⟨[], 0, ⟨false, false⟩, none⟩

/-! ## Changeover unit (chapter 7) -/

/-- The section key of a round record (R123). -/
inductive RoundKey where
  | none
  | unknown
  | key (k : SectionKey)
deriving DecidableEq, Repr

/-- Outcome of the last round (R123). -/
inductive RoundOutcome where
  | none
  | done
  | aborted
deriving DecidableEq, Repr

/-- Close reasons of a round; the reason "none" is `none` (R123). -/
inductive CloseReason where
  | wrongSystem
  | noVoltage
  | unclear
  | timeout
  | host
  | peerUnknown
deriving DecidableEq, Repr

/-- A station's phase in a round (R123). -/
inductive RoundPhase where
  | none
  | gather
  | lower
  | switch
  | ready
  | probe
  | adopted
deriving DecidableEq, Repr

/-- How the CU's selector request of the present phase stands (R130, R145): not made, declined, taken, or failed. -/
inductive SelRequest where
  | idle
  | declined
  | asked
  | failed
deriving DecidableEq, Repr

/-- What the events of R135 change: the metre count, the ready set, the roster, the peer table without its timers, the phase,
the drive states, the confirmed isolator positions, and whether the probe retry timer runs. -/
structure ProbeView where
  metres : Word32
  ready : List Nat
  roster : List Entry
  peers : List Peer
  phase : RoundPhase
  drives : Pair DriveState
  isolators : Pair (Option IsoPos)
  retrying : Bool
deriving DecidableEq, Repr

/-- The round record (R123), with the state the rules of chapter 7 imply beside it: how the selector request stands and
the SG's answer not yet acted on (R130), the isolators that failed in this round (R135), whether a CO-PROBE has been
queued for the round (R137), and the view at the last test of R135. The probe candidate is a view (R133, `probeCandidate`). -/
structure Cu where
  number : Byte
  mod64 : Bool
  isOpen : Bool
  key : RoundKey
  target : Option Supply
  start : Option Word32
  finish : Option Word32
  ready : List Nat
  outcome : RoundOutcome
  closeReason : Option CloseReason
  phase : RoundPhase
  catchUp : Bool
  breakerLate : Bool
  roundTimer : Timer
  probeWait : Timer
  probeRetry : Timer
  lost : Option Notice
  selRequest : SelRequest
  selAnswer : Option Bool
  isoFailed : Pair Bool
  probeReported : Bool
  tested : Option ProbeView
deriving DecidableEq, Repr

/-- The round record after full reset and on entry to OFFLINE (R123). -/
def Cu.reset : Cu where
  number := 0
  mod64 := false
  isOpen := false
  key := .none
  target := none
  start := none
  finish := none
  ready := []
  outcome := .none
  closeReason := none
  phase := .none
  catchUp := false
  breakerLate := false
  roundTimer := none
  probeWait := none
  probeRetry := none
  lost := none
  selRequest := .idle
  selAnswer := none
  isoFailed := ⟨false, false⟩
  probeReported := false
  tested := none

/-! ## Ice unit (chapter 8) -/

/-- Phases of the scraper record (R157). -/
inductive ScraperPhase where
  | none
  | opening
  | claiming
  | raising
  | working
  | lowering
  | closing
deriving DecidableEq, Repr

/-- The scraper record (R157). -/
structure Scraper where
  phase : ScraperPhase
  pan : Option Pan
  retry : Timer
  barred : Pair Bool
deriving DecidableEq, Repr

/-- One entry of the heat grant list (R162). -/
structure Grant where
  station : Nat
  units : Nat
deriving DecidableEq, Repr

/-- One heater record (R167). `trips` are the trip times; the period began at `periodStart`; `cut` is set when the own grant
ceases to be usable and holds the output off until the next period start. -/
structure Heater where
  inService : Bool
  enable : Bool
  cut : Bool
  active : Nat
  shadow : Nat
  trips : List Moment
  periodStart : Moment
  periodTimer : Timer
deriving DecidableEq, Repr

/-- A heater record from its reset values (R167), its period timer started at a moment. -/
def Heater.reset (now : Moment) : Heater := ⟨true, false, false, 0, 0, [], now, some (now + 1000000)⟩

/-- What R165 tests at each change of: demand, need, own grant and port state. -/
structure HeatView where
  demand : Bool
  need : Nat
  grant : Nat
  port : PortState
deriving DecidableEq, Repr

/-- What the events of R158 change: the port state, the regime with its ice level, the roster, the candidate's key, the drive
states, whether a round is open, the confirmed isolator positions, and whether the retry timer runs. -/
structure ScraperView where
  port : PortState
  regime : Regime
  roster : List Entry
  candidate : Option (Nat × Pan)
  drives : Pair DriveState
  isOpen : Bool
  isolators : Pair (Option IsoPos)
  retrying : Bool
deriving DecidableEq, Repr

/-- The ice unit (chapter 8). `demand` and `usable` are what the last tests of R165 and R164 found, `asked` what the last
test of a HEAT-TAKE's conditions saw (R165; none at the retry timer's expiry), `tested` the view at the last test of R158 (none
since a round has opened or closed); `table` has one place for each station 1 to 24. -/
structure Iu where
  history : Pair (List Nat)
  tally : Pair Nat
  observation : Ice
  forced : Bool
  noCollector : Nat
  table : List (Option Ice)
  scraper : Scraper
  grants : List Grant
  takePending : Bool
  heatRetry : Timer
  release : Timer
  demand : Bool
  usable : Bool
  asked : Option HeatView
  tested : Option ScraperView
  hostHeat : Bool
  giveLost : Option Nat
  heaters : Pair Heater
deriving DecidableEq, Repr

/-- The ice unit after full reset (R150, R152, R154, R157, R162, R165, R166, R167, R169). -/
def Iu.reset : Iu where
  history := ⟨[], []⟩
  tally := ⟨0, 0⟩
  observation := .clear
  forced := false
  noCollector := 0
  table := List.replicate 24 none
  scraper := ⟨.none, none, none, ⟨false, false⟩⟩
  grants := []
  takePending := false
  heatRetry := none
  release := none
  demand := false
  usable := false
  asked := none
  tested := none
  hostHeat := false
  giveLost := none
  heaters := ⟨Heater.reset 0, Heater.reset 0⟩

/-! ## Local command port (chapter 9) -/

/-- The detail a fault event carries (R75, R109, R118, R129, R168). -/
inductive FaultDetail where
  | drive (pan : Pan) (detail : Byte)
  | heater (pan : Pan)
  | selector (leg before : Option SelPos)
  | isolator (pan : Pan) (destination : Option IsoPos)
  | breakerTimer (reasons : Reasons)
  | breakerSection (pan : Pan) (key : SectionKey)
  | breakerRound (number : Byte)
  | voltage (pan : Option Pan) (stable : LineClass) (system : Option Supply)
  | bare
deriving DecidableEq, Repr

/-- Why a proposal was ignored (R126). -/
inductive IgnoredReason where
  | roundOpen
  | sameSystem
deriving DecidableEq, Repr

/-- An event with the values its raising rule says it carries (sections 3.10, 5.6, 7.10, 8.8, R176). -/
inductive Event where
  | fault (kind : FaultKind) (detail : FaultDetail)
  | txDiscarded (kind : NoticeKind)
  | txLost (kind : NoticeKind)
  | peerStatus (station : Nat) (status : PeerStatus) (doubtful : Bool)
  | peerFault (station : Nat) (code pan detail : Byte)
  | regimeChanged (system : Option Supply) (band : Fin 4) (direction : Direction)
  | regimeRefused (reason : Byte)
  | claimRefused (pan : Pan) (role : Option Role) (reason : Byte) (begun : Bool)
  | driveState (pan : Pan) (state : DriveState) (cause : Option BlockCause)
  | contactLoss (pan : Pan)
  | lineClass (stable before : LineClass)
  | selectorState (confirmed leg : Option SelPos)
  | isolatorState (pan : Pan) (confirmed moving : Option IsoPos)
  | selectorFeedback (confirmed : Option SelPos)
  | isolatorFeedback (pan : Pan) (confirmed : Option IsoPos)
  | breakerReasons (reasons : Reasons)
  | breakerConfirm (isOpen : Bool)
  | lineDead (metres : Word32)
  | sectionConflict (new held : SectionKey)
  | sectionRefused (key : SectionKey)
  | sectionFlush (removed : Nat)
  | roundOpened (number : Byte) (target : Option Supply) (key : RoundKey) (adopted : Bool)
  | roundPhase (number : Byte) (phase : RoundPhase)
  | roundClosed (number : Byte) (outcome : RoundOutcome) (reason : Option CloseReason)
  | proposalIgnored (key : SectionKey) (reason : IgnoredReason)
  | iceObservation (observation : Ice) (forced : Bool)
  | iceLevel (level : Ice)
  | scraperState (pan : Option Pan) (phase : ScraperPhase)
  | heatGrant (units : Nat)
  | heatState (usable : Bool)
  | heatRefused (reason : Byte)
  | heaterState (pan : Pan)
  | supplyState (low : Bool)
deriving DecidableEq, Repr

/-- An event record (R176): the event and the millisecond counter at the moment it was raised. -/
structure EventRecord where
  event : Event
  timestamp : Word16
deriving DecidableEq, Repr

/-- Result codes (R171, section 11.5). -/
inductive ResultCode where
  | ok
  | busy
  | refused
  | badArg
  | badCheck
  | notJoined
  | queueFull
  | locked
deriving DecidableEq, Repr

/-- READ-STATUS part 0 (R174). -/
structure StationStatus where
  strap : BitVec 5
  port : PortState
  regime : Regime
  supplyLow : Bool
  locked : Bool
  fingerprint : Byte
  reasons : Reasons
  breakerOutput : Bool
  breakerConfirmed : Bool
  breakerRemaining : Option Nat
  faults : Word16
  eventCount : Nat
  overflow : Bool
  milliseconds : Word16
deriving DecidableEq, Repr

/-- READ-STATUS part 2 (R174). -/
structure LineStatus where
  line : LineRecord
  acc : Accumulators
  windowRemaining : Option Nat
  selector : Selector
  deadLineRemaining : Option Nat
deriving DecidableEq, Repr

/-- READ-STATUS part 3 (R174), for each fitted pantograph where it says so. -/
structure IceStatus where
  history : Pair (Option (List Nat))
  tally : Pair (Option Nat)
  score : Nat
  observation : Ice
  forced : Bool
  noCollector : Nat
  table : List (Option Ice)
  scraper : Scraper
deriving DecidableEq, Repr

/-- READ-GRANTS (R175). -/
structure GrantStatus where
  grants : List Grant
  budget : Nat
  effective : Nat
  activeCount : Nat
  need : Nat
  demand : Bool
  takePending : Bool
  releaseRemaining : Option Nat
  retryRemaining : Option Nat
deriving DecidableEq, Repr

/-- READ-LINE (R175). -/
structure PortStatus where
  port : PortState
  queued : Nat
  queuedHost : Nat
  slot : Option SlotNotice
  collisions : Nat
  recentSender : Bool
  nextSeq : Byte
  presenceRemaining : Option Nat
  settlingRemaining : Option Nat
deriving DecidableEq, Repr

/-- READ-SECTION (R175). -/
structure SectionStatus where
  held : Nat
  nextId : Byte
  raiseHold : Pair Bool
  neutralHeld : Bool
  entry : Option SectionEntry
deriving DecidableEq, Repr

/-- READ-CHANNEL (R175), by the channel's mode (R78); a capturing channel comes with its capture counter. -/
inductive ChannelStatus where
  | odo (r : Odo)
  | pulse (r : PulseChannel) (counter : Nat)
  | zx (r : ZxChannel) (counter : Nat)
  | pos (r : PosChannel)
  | arc (r : ArcChannel)
deriving DecidableEq, Repr

/-- The data of a response (sections 9.2 to 9.4). A record is returned as a copy in which every timer field holds its
remaining time in µs. -/
inductive ResponseData where
  | empty
  | fingerprint (f : Byte)
  | config (bytes : List Byte) (locked : Bool) (fingerprint : Byte)
  | localId (id : Byte)
  | faults (summary : Word16)
  | event (head : Option EventRecord) (count : Nat) (overflow : Bool)
  | station (r : StationStatus)
  | contests (r : List Contest)
  | line (r : LineStatus)
  | ice (r : IceStatus)
  | peer (r : Peer) (expected : Option Byte)
  | panEntry (r : Option Entry)
  | drive (d : Drive) (i : Isolator) (h : Heater) (intoPeriod : Nat)
  | round (r : Cu) (candidate : Option (Nat × Pan))
  | sections (r : SectionStatus)
  | grants (r : GrantStatus)
  | channel (r : ChannelStatus)
  | port (r : PortStatus)
deriving DecidableEq, Repr

/-- The transaction whose response the port is shifting out (R170): the command's code, its result and its data. -/
structure Transaction where
  code : Byte
  result : ResultCode
  data : ResponseData
deriving DecidableEq, Repr

/-- The local command port (chapter 9). `faults` is the sticky fault summary, one bit for each fault (R178). -/
structure Lcp where
  events : List EventRecord
  overflow : Bool
  faults : BitVec 11
  transaction : Option Transaction
deriving DecidableEq, Repr

/-- The command port after full reset (R177, R178). -/
def Lcp.reset : Lcp := ⟨[], false, 0, none⟩

/-! ## Supply and configuration (chapter 10) -/

/-- How the LEAVE of a pending host LEAVE stands (R184): waiting for the drives, queued, or dropped with TX_LOST. -/
inductive LeaveStage where
  | waiting
  | queued
  | lost
deriving DecidableEq, Repr

/-- The configuration block as an addressed buffer: the bytes that differ from their defaults, by rising offset
(R181; Machine/Ops.lean). -/
abbrev Memory := List Host.Cell

/-- The supply and configuration unit (chapter 10). `leaving` is the leave-pending flag: set exactly when it is `some`. -/
structure Sc where
  strap : BitVec 5
  config : Memory
  locked : Bool
  fingerprint : Byte
  leaving : Option LeaveStage
  supplyLow : Bool
deriving DecidableEq, Repr

/-- The fingerprint of the default configuration block: the CRC-8 of its first 28 bytes (R181, R182). -/
def defaultFingerprint : Byte := 0xEF

/-- The supply and configuration unit after full reset (R180, R181, R187). -/
def Sc.reset (pins : ResetPins) : Sc := ⟨pins.strap, [], false, defaultFingerprint, none, pins.supplyLow⟩

/-! ## The whole part -/

/-- The state of the AS614: the commands that wait, first in first out; the timebase (R77); the drop line levels (R53);
the levels at the filtered pins (R77); and the ten units of section 0.3 (the two drives as one pair). -/
structure State where
  pending : List Instr
  now : Moment
  dropLine : Pair Bool
  pins : Pins
  rlp : Rlp
  ru : Ru
  pd : Pair Drive
  mu : Mu
  sg : Sg
  sq : Sq
  cu : Cu
  iu : Iu
  lcp : Lcp
  sc : Sc
deriving DecidableEq, Repr

/-- The state at the end of a full reset, from what the pins show then (R187). The drives take the default dead interval
of 20 ms, lower timeout of 6 s and COLLECTOR band 0 setpoint of 70 N (R181). -/
def State.resetOf (pins : ResetPins) : State where
  pending := []
  now := 0
  dropLine := pins.dropLine
  pins := Pins.reset pins
  rlp := Rlp.reset
  ru := Ru.reset
  pd := ⟨Drive.reset pins.housed.p0 0 20000 6000000 70, Drive.reset pins.housed.p1 0 20000 6000000 70⟩
  mu := Mu.reset pins.levels
  sg := Sg.reset pins
  sq := Sq.reset
  cu := Cu.reset
  iu := Iu.reset
  lcp := Lcp.reset
  sc := Sc.reset pins

/-- The pins of `State.reset`, which the spec leaves to the car: station 1, both pantographs housed, drop lines inactive,
measurement inputs low, selector OPEN, isolators CLOSED, breaker open, supply sound (DESIGN CHOICE,
notes/assumptions/4.md). -/
def resetPins : ResetPins where
  strap := 1
  housed := ⟨true, true⟩
  dropLine := ⟨false, false⟩
  levels := ⟨false, false, false, ⟨false, false⟩, ⟨false, false⟩, ⟨false, false⟩, ⟨false, false⟩⟩
  selector := ⟨false, true, false⟩
  isolators := ⟨⟨false, true⟩, ⟨false, true⟩⟩
  breakerOpen := true
  supplyLow := false

/-- The state right after full reset. -/
def State.reset : State := State.resetOf resetPins

/-- The reasons a command can stop the part with a fault: none. Every command of the table ends in a next state, so this
type has no constructor. -/
inductive Fault : Type
deriving DecidableEq, Repr

/-- The reasons a command can be refused. -/
inductive Refusal where
  /-- Raised by an arm of `exec` whose command has no meaning yet; safe, since nothing can be proved of it. No arm raises
  it now. -/
  | notModelled (mnemonic : String)
deriving DecidableEq, Repr

end Sys2Proof.Machine
end

