-- ==== Sys2Proof/Config.lean ====
section
/-! DEFINITION. The free values of the spec: quantities a rule gives an effect to without giving their value. Each is an
opaque constant, so that nothing can be proved of its value. -/

namespace Sys2Proof

/-- The detail byte of a FAULT notice of the SG: R109 names its content (leg destination and position before the leg;
destination; the reason set; stable class and regime system) and no rule gives its coding. DESIGN CHOICE: free
(notes/assumptions/8.md). -/
opaque Config.faultDetailByte : Machine.FaultDetail → Byte

/-- The code in an event's detail bytes of the value it carries at a position, where chapter 11 gives that value no code: a
drive state, a position, a phase, a flag. DESIGN CHOICE: free (notes/assumptions/9.md). -/
opaque Config.detailCode : Machine.Event → Nat → Byte

/-- The order in which the values of an event kind stand in its four detail bytes, "whose meaning depends on the kind" (R176):
section 11.6 gives the four bytes their place in the record and no rule gives a value its place in them. DESIGN CHOICE: free
(notes/assumptions/9.md). -/
opaque Config.detailOrder : Byte → Nat

/-- The detail byte of a drive fault raised at a position count below 0: R75 divides the count by 16 and limits it to 255
and says nothing of a negative count. DESIGN CHOICE: free (notes/assumptions/10.md). -/
opaque Config.negativeCountDetail : Int → Byte

/-- The frequency of a measurement whose interval is 0 µs, for which R79's quotient is not defined. DESIGN CHOICE: free
(notes/assumptions/11.md). -/
opaque Config.zeroIntervalFrequency : Nat

/-- Which of the two state codes that mean UNKNOWN, 6 or 7 (table 11.3), an own entry in state UNKNOWN would be reported
with. DESIGN CHOICE: free (notes/assumptions/12.md). -/
opaque Config.unknownCodeIsSeven : Bool

/-- The data bytes of a read's response whose fields R170, R174, R175 and R181 name and whose layout no rule gives: a response
carries 0 to 255 of them (R170). DESIGN CHOICE: free (notes/assumptions/28.md). -/
opaque Config.readData : Machine.ResponseData → List Byte

end Sys2Proof
end

