-- ==== Sys2Proof/Machine/Ops.lean ====
section
/-! DEFINITION. The operations every unit shares: the configuration block as an addressed buffer and its items, time and
timers, the units of State one at a time, tables by station number, and the raising of an event. -/

namespace Sys2Proof.Machine

/-! ## The configuration block (R181, section 11.7) -/

/-- The default bytes of the train-wide items, offsets 0 to 27 (R181). -/
def trainDefaults : List Byte :=
  [0x01, 0x90, 100, 40, 4, 3, 2, 2, 8, 40, 120, 200, 30, 24] ++
  [0x01, 0x2C, 60, 0x07, 0xD0, 0x00, 0xB4, 0x00, 0xC8, 12, 40, 4, 8, 16]

/-- The default bytes of the local items, offsets 28 to 63 (R181). -/
def localDefaults : List Byte :=
  [0, 0, 0, 0, 4, 0, 0, 0, 4, 20, 8, 6, 40, 70, 80, 90, 100, 120, 70, 0x0A, 0xF0, 0, 0] ++
  [0x27, 0x10, 0x0B, 0xB8, 0x13, 0x88, 0x00, 0x64, 0x13, 0x88, 0x00, 0x64, 100]

/-- The size of the configuration block (R181). -/
def configSize : Nat := 64

/-- What an offset that is not listed reads as: its default (R181). -/
def Memory.unlisted (a : Nat) : Byte := (trainDefaults ++ localDefaults).getD a 0

/-- The byte at an offset. -/
def Memory.read (m : Memory) (a : Nat) : Byte :=
  match m with
  | [] => Memory.unlisted a
  | (k, v) :: rest => if k = a then v else Memory.read rest a

/-- One byte written at an offset; a byte equal to the default leaves nothing listed there. -/
def Memory.write (m : Memory) (a : Nat) (v : Byte) : Memory :=
  match m with
  | [] => if v = Memory.unlisted a then [] else [(a, v)]
  | (k, w) :: rest =>
    if a < k then (if v = Memory.unlisted a then (k, w) :: rest else (a, v) :: (k, w) :: rest)
    else if a = k then (if v = Memory.unlisted a then rest else (a, v) :: rest)
    else (k, w) :: Memory.write rest a v

/-- Bytes written from an offset onward (WRITE-CONFIG, R181). -/
def Memory.writeAll (m : Memory) (a : Nat) : List Byte → Memory
  | [] => m
  | v :: rest => Memory.writeAll (m.write a v) (a + 1) rest

/-- `n` bytes read from an offset onward (READ-CONFIG, R181). -/
def Memory.readAll (m : Memory) (a : Nat) : Nat → List Byte
  | 0 => []
  | n + 1 => m.read a :: Memory.readAll m (a + 1) n

/-- The canonical form: offsets inside the block and strictly rising, no cell equal to its default. -/
def Memory.wf : Memory → Bool
  | [] => true
  | (k, v) :: rest =>
    k < configSize && v != Memory.unlisted k && rest.all (fun c => k < c.1) && Memory.wf rest

/-- A one-byte item. -/
def Memory.item1 (m : Memory) (a : Nat) : Nat := (m.read a).toNat

/-- A two-byte item, most significant byte first (R181). -/
def Memory.item2 (m : Memory) (a : Nat) : Nat := (m.read a).toNat * 256 + (m.read (a + 1)).toNat

/-- train length in metres, offset 0. -/
def State.trainLength (s : State) : Nat := s.sc.config.item2 0
/-- presence interval in µs, offset 2. -/
def State.presenceInterval (s : State) : Nat := s.sc.config.item1 2 * 1000
/-- objection window in µs, offset 3. -/
def State.objectionWindow (s : State) : Nat := s.sc.config.item1 3 * 1000
/-- Cmax of a band, offsets 4 to 7. -/
def State.cmax (s : State) (band : Fin 4) : Nat := s.sc.config.item1 (4 + band.val)
/-- Smin of a band in metres, offsets 8 to 11. -/
def State.smin (s : State) (band : Fin 4) : Nat := s.sc.config.item1 (8 + band.val)
/-- scraper gap G in metres, offset 12. -/
def State.scraperGap (s : State) : Nat := s.sc.config.item1 12
/-- heat budget B in units, offset 13. -/
def State.heatBudget (s : State) : Nat := s.sc.config.item1 13
/-- lower distance L in metres, offset 14. -/
def State.lowerDistance (s : State) : Nat := s.sc.config.item2 14
/-- probe margin P in metres, offset 16. -/
def State.probeMargin (s : State) : Nat := s.sc.config.item1 16
/-- proposal distance in metres, offset 17. -/
def State.proposalDistance (s : State) : Nat := s.sc.config.item2 17
/-- round timeout in µs, offset 19. -/
def State.roundTimeout (s : State) : Nat := s.sc.config.item2 19 * 1000000
/-- arc window W in metres, offset 21. -/
def State.arcWindow (s : State) : Nat := s.sc.config.item2 21
/-- watch threshold Tw, offset 23. -/
def State.watchThreshold (s : State) : Nat := s.sc.config.item1 23
/-- scrape threshold Ts, offset 24. -/
def State.scrapeThreshold (s : State) : Nat := s.sc.config.item1 24
/-- hysteresis H, offset 25. -/
def State.hysteresis (s : State) : Nat := s.sc.config.item1 25
/-- heater duty WATCH in sixteenths, offset 26. -/
def State.watchDuty (s : State) : Nat := s.sc.config.item1 26
/-- heater duty SCRAPE in sixteenths, offset 27. -/
def State.scrapeDuty (s : State) : Nat := s.sc.config.item1 27
/-- pantograph count, offset 28. -/
def State.panCount (s : State) : Nat := s.sc.config.item1 28
/-- position of an own pantograph in metres, offsets 29 and 33. -/
def State.panPosition (s : State) : Pan → Nat
  | .p0 => s.sc.config.item2 29
  | .p1 => s.sc.config.item2 33
/-- kind of an own pantograph, offsets 31 and 35 (0 AC, 1 DC). -/
def State.panKind (s : State) : Pan → PanKind
  | .p0 => if s.sc.config.item1 31 = 0 then .ac else .dc
  | .p1 => if s.sc.config.item1 35 = 0 then .ac else .dc
/-- heater rating of an own pantograph in units, offsets 32 and 36. -/
def State.heaterRating (s : State) : Pan → Nat
  | .p0 => s.sc.config.item1 32
  | .p1 => s.sc.config.item1 36
/-- dead interval in µs, offset 37. -/
def State.deadInterval (s : State) : Nat := s.sc.config.item1 37 * 1000
/-- raise timeout in µs, offset 38. -/
def State.raiseLimit (s : State) : Nat := s.sc.config.item1 38 * 1000000
/-- lower timeout in µs, offset 39. -/
def State.lowerLimit (s : State) : Nat := s.sc.config.item1 39 * 1000000
/-- contact threshold in N, offset 40. -/
def State.contactThreshold (s : State) : Nat := s.sc.config.item1 40
/-- COLLECTOR setpoint of a band in N, offsets 41 to 44. -/
def State.collectorSetpoint (s : State) (band : Fin 4) : Nat := s.sc.config.item1 (41 + band.val)
/-- SCRAPER setpoint in N, offset 45. -/
def State.scraperSetpoint (s : State) : Nat := s.sc.config.item1 45
/-- PROBE setpoint in N, offset 46. -/
def State.probeSetpoint (s : State) : Nat := s.sc.config.item1 46
/-- maximum travel in counts, offset 47. -/
def State.maximumTravel (s : State) : Nat := s.sc.config.item2 47
/-- millimetres per axle pulse, offset 49. -/
def State.millimetresPerPulse (s : State) : Nat := s.sc.config.item2 49
/-- zero frequency of a pulse channel in Hz, offsets 51, 55 and 59. -/
def State.zeroFrequency (s : State) : PulseChan → Nat
  | .lv => s.sc.config.item2 51
  | .frc0 => s.sc.config.item2 55
  | .frc1 => s.sc.config.item2 59
/-- slope of a pulse channel in Hz per unit, offsets 53, 57 and 61. -/
def State.slope (s : State) : PulseChan → Nat
  | .lv => s.sc.config.item2 53
  | .frc0 => s.sc.config.item2 57
  | .frc1 => s.sc.config.item2 61
/-- breaker timer period in µs, offset 63 (steps of 10 ms). -/
def State.breakerPeriod (s : State) : Nat := s.sc.config.item1 63 * 10000

/-- Whether a pantograph is fitted: P0 when the count is 1 or 2, P1 when it is 2 (R181). -/
def State.fitted (s : State) : Pan → Bool
  | .p0 => 1 ≤ s.panCount
  | .p1 => 2 ≤ s.panCount

/-- Whether any pantograph is fitted. -/
def State.anyFitted (s : State) : Bool := s.fitted .p0 || s.fitted .p1

/-- The own station number (R180); 0 or above 24 leaves the station without one. -/
def State.own (s : State) : Nat := s.sc.strap.toNat

/-! ## Time and timers (R77; notes/assumptions/1.md, 3.md) -/

/-- Time passes until a moment; a moment already past changes nothing. -/
def State.advance (s : State) (t : Moment) : State := { s with now := max s.now t }

/-- A timer started now for a time in µs. -/
def State.timerFor (s : State) (d : Nat) : Timer := some (s.now + d)

/-- The remaining time of a timer in µs; none when it is stopped. -/
def State.remaining (s : State) (tm : Timer) : Option Nat := tm.map (fun due => due - s.now)

/-- The expiry of a timer: with the timer running, time passes to the moment it is due (or to `t`, if that is later) and
`k` is done with the due moment; with the timer stopped there is no expiry, and time passes to `t`. -/
def State.expire (s : State) (tm : Timer) (t : Moment) (k : Moment → State → State) : State :=
  match tm with
  | none => s.advance t
  | some due => k due (s.advance (max t due))

/-! ## One unit of State at a time -/

def State.mapPins (s : State) (f : Pins → Pins) : State := { s with pins := f s.pins }
def State.mapRlp (s : State) (f : Rlp → Rlp) : State := { s with rlp := f s.rlp }
def State.mapRu (s : State) (f : Ru → Ru) : State := { s with ru := f s.ru }
def State.mapPd (s : State) (p : Pan) (f : Drive → Drive) : State := { s with pd := s.pd.set p (f (s.pd.get p)) }
def State.mapMu (s : State) (f : Mu → Mu) : State := { s with mu := f s.mu }
def State.mapSg (s : State) (f : Sg → Sg) : State := { s with sg := f s.sg }
def State.mapSq (s : State) (f : Sq → Sq) : State := { s with sq := f s.sq }
def State.mapCu (s : State) (f : Cu → Cu) : State := { s with cu := f s.cu }
def State.mapIu (s : State) (f : Iu → Iu) : State := { s with iu := f s.iu }
def State.mapLcp (s : State) (f : Lcp → Lcp) : State := { s with lcp := f s.lcp }
def State.mapSc (s : State) (f : Sc → Sc) : State := { s with sc := f s.sc }

/-- The drive of a pantograph. -/
def State.drive (s : State) (p : Pan) : Drive := s.pd.get p

/-- Something done to each fitted pantograph: to P0 and then to P1, by the model's choice wherever the spec gives the two no order
(notes/assumptions/81.md). -/
def State.eachFitted (s : State) (f : Pan → State → State) : State :=
  let a := if s.fitted .p0 then f .p0 s else s
  if a.fitted .p1 then f .p1 a else a

/-! ## Input filters (R77; R50, R96, R100, R105; notes/assumptions/29.md) -/

/-- The level at a pin. -/
def Pins.get (x : Pins) : InputPin → PinLevel
  | .odo => x.odo
  | .lv => x.lv
  | .zx => x.zx
  | .frc p => x.frc.get p
  | .posA p => x.posA.get p
  | .posB p => x.posB.get p
  | .arc p => x.arc.get p
  | .selAc => x.selAc
  | .selOpn => x.selOpn
  | .selDc => x.selDc
  | .isoOpn p => x.isoOpn.get p
  | .isoClosed p => x.isoClosed.get p
  | .breaker => x.breaker
  | .housed p => x.housed.get p

/-- The level at a pin replaced. -/
def Pins.set (x : Pins) (i : InputPin) (v : PinLevel) : Pins :=
  match i with
  | .odo => { x with odo := v }
  | .lv => { x with lv := v }
  | .zx => { x with zx := v }
  | .frc p => { x with frc := x.frc.set p v }
  | .posA p => { x with posA := x.posA.set p v }
  | .posB p => { x with posB := x.posB.set p v }
  | .arc p => { x with arc := x.arc.set p v }
  | .selAc => { x with selAc := v }
  | .selOpn => { x with selOpn := v }
  | .selDc => { x with selDc := v }
  | .isoOpn p => { x with isoOpn := x.isoOpn.set p v }
  | .isoClosed p => { x with isoClosed := x.isoClosed.set p v }
  | .breaker => { x with breaker := v }
  | .housed p => { x with housed := x.housed.set p v }

/-- How long a pin must hold a new level before the change is accepted, in µs: the filter times of R77, and 30 ms for the
housed inputs (R50), the switchgear contacts (R96, R100) and the breaker input (R105). -/
def filterTime : InputPin → Nat
  | .odo => 50
  | .zx => 20
  | .arc _ => 5
  | .lv | .frc _ | .posA _ | .posB _ => 2
  | .selAc | .selOpn | .selDc | .isoOpn _ | .isoClosed _ | .breaker | .housed _ => 30000

/-- The filtered level of a pin, as its unit holds it. -/
def State.filtered (s : State) : InputPin → Bool
  | .odo => s.mu.odo.level
  | .lv => s.mu.lv.cap.level
  | .zx => s.mu.zx.cap.level
  | .frc p => (s.mu.frc.get p).cap.level
  | .posA p => (s.mu.pos.get p).a
  | .posB p => (s.mu.pos.get p).b
  | .arc p => (s.mu.arc.get p).level
  | .selAc => s.sg.selector.contacts.ac
  | .selOpn => s.sg.selector.contacts.opn
  | .selDc => s.sg.selector.contacts.dc
  | .isoOpn p => (s.sg.iso.get p).contacts.opn
  | .isoClosed p => (s.sg.iso.get p).contacts.closed
  | .breaker => s.sg.breakerOpen
  | .housed p => (s.drive p).housed

/-- When the pending change of a pin is accepted: once the pin has held it for the filter time; none without one. -/
def State.acceptedAt (s : State) (x : InputPin) : Option Moment :=
  if (s.pins.get x).level = s.filtered x then none else some ((s.pins.get x).since + filterTime x)

/-- The first moment at which a change of one of some pins is accepted. -/
def State.nextEdge (s : State) : List InputPin → Option Moment
  | [] => none
  | x :: xs =>
    match s.acceptedAt x, s.nextEdge xs with
    | none, e => e
    | some d, none => some d
    | some d, some e => some (min d e)

/-- The filtered level a pin has from a moment of acceptance on. -/
def State.levelAt (s : State) (d : Moment) (x : InputPin) : Bool :=
  if s.acceptedAt x = some d then (s.pins.get x).level else s.filtered x

/-- The changes of some pins that are accepted up to a moment, at most `n`, in the order of their acceptance: time passes
to the acceptance, and `edge` is what the units make of it. -/
def State.acceptUpTo (s : State) (n : Nat) (xs : List InputPin) (edge : Moment → State → State) (u : Moment) : State :=
  match n with
  | 0 => s
  | k + 1 =>
    match s.nextEdge xs with
    | none => s
    | some d => if d ≤ u then (edge d (s.advance d)).acceptUpTo k xs edge u else s

/-- Pins that stand at a level since a moment: a pin that had that level before keeps its own moment. -/
def Pins.take (x : Pins) (since : Moment) : List (InputPin × Bool) → Pins
  | [] => x
  | (i, b) :: rest => Pins.take (if (x.get i).level = b then x else x.set i ⟨b, since⟩) since rest

/-- Pins that took levels at `since` and have held them until `t` (R77): changes still pending from before are accepted up to
`since`, for the pins held them until then; the levels are taken; and what has been held for the filter time by `t` is
accepted. A change that reverts before its filter time leaves no trace. -/
def State.filter (s : State) (levels : List (InputPin × Bool)) (since t : Moment) (edge : Moment → State → State) : State :=
  let xs := levels.map fun x => x.1
  let a := s.acceptUpTo xs.length xs edge since
  let b := (a.mapPins fun p => p.take since levels).acceptUpTo xs.length xs edge t
  b.advance t

/-! ## Tables with one place for each station 1 to 24 -/

/-- The place of a station; none for a number outside 1 to 24. -/
def tableGet {α : Type} (xs : List α) (n : Nat) : Option α :=
  match n with
  | 0 => none
  | k + 1 => xs[k]?

/-- The place of a station replaced; a number outside the table changes nothing. -/
def tableSet {α : Type} (xs : List α) (n : Nat) (v : α) : List α :=
  match n with
  | 0 => xs
  | k + 1 => xs.set k v

/-- The peer record of a station (R20). -/
def State.peer (s : State) (n : Nat) : Peer := (tableGet s.ru.peers n).getD Peer.reset

/-- The peer record of a station changed. -/
def State.mapPeer (s : State) (n : Nat) (f : Peer → Peer) : State :=
  s.mapRu fun r => { r with peers := tableSet r.peers n (f (s.peer n)) }

/-! ## Events (R176, R177) -/

/-- The most records the event queue holds (R177). -/
def eventCapacity : Nat := 32

/-- The millisecond counter: 0 at the end of full reset, wrapping from 65,535 to 0 (R176). -/
def State.milliseconds (s : State) : Word16 := BitVec.ofNat 16 (s.now / 1000)

/-- An event raised: its record joins the tail of the queue, or is discarded with the overflow flag set when the queue
holds 32 (R177). -/
def State.raiseEvent (s : State) (e : Event) : State :=
  s.mapLcp fun l =>
    if l.events.length < eventCapacity then { l with events := l.events ++ [⟨e, s.milliseconds⟩] }
    else { l with overflow := true }

end Sys2Proof.Machine
end

