-- ==== Sys2Proof/WellFormed.lean ====
section
/-! DEFINITION. Which commands are well formed: operands the spec can mean. The meanings are total on every term; an
ill-formed one names a station, a request or a code that cannot occur. -/

namespace Sys2Proof

/-- A station number of the train, 1 to 24 (section 0.6). -/
def isStation (n : Nat) : Bool := 1 ≤ n && n ≤ 24

/-- A request whose arguments fit the length byte (R170). -/
def Request.wellFormed (r : Request) : Bool := r.args.length ≤ 255

/-- The command codes of section 11.5. -/
def commandCodes : List Byte :=
  [0x01, 0x02, 0x03, 0x04, 0x10, 0x11, 0x12, 0x13, 0x20, 0x21, 0x22, 0x23, 0x24, 0x28, 0x29, 0x2A] ++
  [0x30, 0x31, 0x32, 0x33, 0x34, 0x35, 0x36, 0x37, 0x38, 0x39, 0x40]

/-- The longest request that can be abandoned: command, length and 255 arguments, without its check (R170, R172). -/
def longestAbandoned : Nat := 257

/-- A command whose operands the spec can mean. -/
def Instr.wellFormed : Instr → Bool
  | .fullReset _ | .supplyFall _ | .supplyRise _ | .lineIdle _ | .transmissionAttempt _ => true
  | .transmissionComplete _ | .collision _ | .frameReceived _ _ _ | .presenceTimerExpiry _ | .settlingEnd _ => true
  | .silenceTimerExpiry _ n | .dropClearTimerExpiry _ n => isStation n
  | .windowTimerExpiry _ target => isStation target.station
  | .deadIntervalEnd _ _ | .pulseEnd _ _ | .housedInputInactive _ _ | .dropLineActive _ _ => true
  | .dropLineInactive _ _ | .raiseTimeout _ _ | .regulationPeriod _ _ | .lowerTimerExpiry _ _ => true
  | .housing t _ | .pulseIntervalEdge t _ _ | .zeroCrossingEdge t _ | .encoderEdge t _ _ _ => t.since ≤ t.moment
  | .arcPulse t _ _ | .axlePulse t _ | .selectorFeedbackChange t _ => t.since ≤ t.moment
  | .isolatorFeedbackChange t _ _ | .breakerInputChange t _ => t.since ≤ t.moment
  | .captureCounterOverflow _ _ | .noSignalTimerExpiry _ _ | .captureTake _ _ | .classifierWindowEnd _ => true
  | .selectorLegTimeout _ | .isolatorMoveTimeout _ _ => true
  | .breakerTimerExpiry _ | .deadLineTimerExpiry _ | .roundTimerExpiry _ => true
  | .probeWaitTimerExpiry _ | .probeRetryTimerExpiry _ | .scraperRetryTimerExpiry _ | .heatRetryTimerExpiry _ => true
  | .releaseTimerExpiry _ | .heaterPeriod _ _ _ | .heaterDutyEnd _ _ | .thermalTrip _ _ => true
  | .writeConfig _ r _ | .readConfig _ r | .join _ r | .leave _ r | .raise _ r | .lower _ r => r.wellFormed
  | .block _ r | .unblock _ r | .setRegime _ r | .announceSection _ r | .proposeChangeover _ r => r.wellFormed
  | .abortChangeover _ r | .forget _ r | .setIce _ r | .heat _ r | .unblockHeater _ r => r.wellFormed
  | .readStatus _ r | .readEvent _ r | .readPeer _ r | .readPanEntry _ r | .readDrive _ r => r.wellFormed
  | .readRound _ r | .readSection _ r | .readGrants _ r | .readChannel _ r | .readLine _ r => r.wellFormed
  | .clearFaults _ r => r.wellFormed
  | .unknownCommand _ code r => r.wellFormed && !commandCodes.contains code
  | .transactionAbandoned _ received => received.length ≤ longestAbandoned
  | .readEventResponseComplete _ | .startSymbolHeard _ => true

end Sys2Proof
end

