-- ==== Sys2Proof/Machine/Operands.lean ====
section
/-! DEFINITION. The codes of chapter 11 and the operands of host requests: what a byte of a notice or of a request names,
and the tests of R171 that need nothing but the request and the configuration. -/

namespace Sys2Proof.Machine

/-! ## Enumerated fields (sections 11.2 to 11.4) -/

/-- A pantograph is 0 for P0 and 1 for P1 (section 11.2). -/
def panOf (b : Byte) : Option Pan := if b = 0 then some .p0 else if b = 1 then some .p1 else none

def panCode : Pan → Byte
  | .p0 => 0
  | .p1 => 1

/-- Roles of CLAIM and RAISED: 1 COLLECTOR, 2 SCRAPER, 3 PROBE; every other code names nothing (table 11.3, R188). -/
def roleOf (b : Byte) : Option Role :=
  if b = 1 then some .collector else if b = 2 then some .scraper else if b = 3 then some .probe else none

def roleCode : Role → Byte
  | .collector => 1
  | .scraper => 2
  | .probe => 3

/-- A target system that a round or a SYSTEM section can have: 1 AC25, 2 AC15, 3 DC3, 4 DC15 (section 11.4). -/
def supplyOf (b : Byte) : Option Supply :=
  if b = 1 then some .ac25 else if b = 2 then some .ac15 else if b = 3 then some .dc3 else if b = 4 then some .dc15
  else none

/-- The target a CO notice carries: none for a code outside table 11.4 (R188), `some none` for NONE. -/
def targetOf (b : Byte) : Option (Option Supply) := if 4 < b.toNat then none else some (supplyOf b)

def supplyCode : Supply → Byte
  | .ac25 => 1
  | .ac15 => 2
  | .dc3 => 3
  | .dc15 => 4

/-- The code of a regime system, 0 for NONE (section 11.4). -/
def systemCode : Option Supply → Byte
  | none => 0
  | some s => supplyCode s

/-- Measured classes: 0 DEAD, 1 to 4 the systems, 5 UNCLEAR (section 11.4). -/
def classOf (b : Byte) : Option LineClass :=
  if b = 0 then some .dead else if b = 5 then some .unclear else (supplyOf b).map LineClass.live

def classCode : LineClass → Byte
  | .dead => 0
  | .live s => supplyCode s
  | .unclear => 5

/-- Observations: 0 CLEAR, 1 WATCH, 2 SCRAPE (section 11.4). -/
def iceOf (b : Byte) : Option Ice :=
  if b = 0 then some .clear else if b = 1 then some .watch else if b = 2 then some .scrape else none

def iceCode : Ice → Byte
  | .clear => 0
  | .watch => 1
  | .scrape => 2

/-- The order CLEAR, WATCH, SCRAPE (R155). -/
def iceRank : Ice → Nat
  | .clear => 0
  | .watch => 1
  | .scrape => 2

/-- Directions: 0 A-FORWARD, 1 B-FORWARD (table 11.3). -/
def directionOf (b : Bool) : Direction := if b then .bForward else .aForward

def directionBit : Direction → Nat
  | .aForward => 0
  | .bForward => 1

/-- CO-ABORT reasons: 1 TIMEOUT, 2 HOST, 3 PEER_UNKNOWN (section 11.4). -/
def abortReasonOf (b : Byte) : Option CloseReason :=
  if b = 1 then some .timeout else if b = 2 then some .host else if b = 3 then some .peerUnknown else none

/-- OBJECT reasons (section 11.4). -/
def objectReasonCode : ObjectReason → Byte
  | .notReady => 1
  | .foreign => 2
  | .state => 3
  | .round => 4
  | .system => 5
  | .count => 6
  | .spacing => 7
  | .scraper => 8
  | .budget => 9

/-- The bit of a fault in the sticky fault summary, which is its fault code too (section 11.4). -/
def faultBit : FaultKind → Nat
  | .raiseTimeout => 0
  | .noWire => 1
  | .stuckUp => 2
  | .sensorConflict => 3
  | .heaterTrip => 4
  | .breakerLate => 5
  | .selectorTimeout => 6
  | .isolatorTimeout => 7
  | .voltageMismatch => 8
  | .busCollisions => 9
  | .duplicateStation => 10

/-- The fault a fault code names (section 11.4). -/
def faultOf (b : Byte) : Option FaultKind :=
  match b.toNat with
  | 0 => some .raiseTimeout
  | 1 => some .noWire
  | 2 => some .stuckUp
  | 3 => some .sensorConflict
  | 4 => some .heaterTrip
  | 5 => some .breakerLate
  | 6 => some .selectorTimeout
  | 7 => some .isolatorTimeout
  | 8 => some .voltageMismatch
  | 9 => some .busCollisions
  | 10 => some .duplicateStation
  | _ => none

/-- The code of a notice kind (table 11.2). -/
def kindCode : NoticeKind → Byte
  | .drop => 0x01
  | .object => 0x02
  | .fault => 0x03
  | .leave => 0x04
  | .coPropose => 0x08
  | .coReady => 0x09
  | .coProbe => 0x0A
  | .coAbort => 0x0B
  | .claim => 0x10
  | .raised => 0x11
  | .yield => 0x12
  | .regime => 0x13
  | .sectionAhead => 0x14
  | .ice => 0x15
  | .heatTake => 0x16
  | .heatGive => 0x17
  | .present => 0x18
  | .join => 0x19

/-- The notice kind of the five kind bits (table 11.2). -/
def kindOf (code : Nat) : Option NoticeKind :=
  match code with
  | 0x01 => some .drop
  | 0x02 => some .object
  | 0x03 => some .fault
  | 0x04 => some .leave
  | 0x08 => some .coPropose
  | 0x09 => some .coReady
  | 0x0A => some .coProbe
  | 0x0B => some .coAbort
  | 0x10 => some .claim
  | 0x11 => some .raised
  | 0x12 => some .yield
  | 0x13 => some .regime
  | 0x14 => some .sectionAhead
  | 0x15 => some .ice
  | 0x16 => some .heatTake
  | 0x17 => some .heatGive
  | 0x18 => some .present
  | 0x19 => some .join
  | _ => none

/-- The class of a notice kind (R1). -/
def kindClass : NoticeKind → Nat
  | .drop | .object | .fault | .leave => 0
  | .coPropose | .coReady | .coProbe | .coAbort | .sectionAhead => 1
  | .claim | .raised | .yield | .regime | .ice | .heatTake | .heatGive => 2
  | .present | .join => 3

/-- The kind of a notice. -/
def Notice.kind : Notice → NoticeKind
  | .drop .. => .drop
  | .object .. => .object
  | .fault .. => .fault
  | .leave .. => .leave
  | .coPropose .. => .coPropose
  | .coReady .. => .coReady
  | .coProbe .. => .coProbe
  | .coAbort .. => .coAbort
  | .claim .. => .claim
  | .raised .. => .raised
  | .yield .. => .yield
  | .regime .. => .regime
  | .sectionAhead .. => .sectionAhead
  | .ice .. => .ice
  | .heatTake .. => .heatTake
  | .heatGive .. => .heatGive
  | .present .. => .present
  | .join .. => .join

/-- The contestable kind an OBJECT's target kind code names; none for any other kind (R42, R188). -/
def contestKindOf (b : Byte) : Option ContestKind :=
  match kindOf b.toNat with
  | some .claim => some .claim
  | some .regime => some .regime
  | some .heatTake => some .heatTake
  | _ => none

def contestKindCode : ContestKind → Byte
  | .claim => kindCode .claim
  | .regime => kindCode .regime
  | .heatTake => kindCode .heatTake

/-! ## Host requests (R170, R171) -/

/-- The check byte of a frame of the command port: the XOR of its bytes from the seed 0x5A (R170). -/
def portCheck (bytes : List Byte) : Byte := bytes.foldl (· ^^^ ·) 0x5A

/-- The check a request must carry (R170). -/
def requestCheck (code : Byte) (args : List Byte) : Byte := portCheck (code :: BitVec.ofNat 8 args.length :: args)

/-- The bytes of a response frame from its result and its data bytes (R170, section 11.5). -/
def responseFrame (result : Byte) (data : List Byte) : List Byte :=
  let body := result :: BitVec.ofNat 8 data.length :: data
  body ++ [portCheck body]

/-- The first two tests of R171: a wrong check is BAD_CHECK, and arguments that `parse` does not read are BAD_ARG. -/
def parseRequest {α : Type} (code : Byte) (req : Request) (parse : List Byte → Option α) : Except ResultCode α :=
  if req.check = requestCheck code req.args then
    match parse req.args with
    | some a => .ok a
    | none => .error .badArg
  else .error .badCheck

/-- No argument. -/
def noArgs : List Byte → Option Unit
  | [] => some ()
  | _ => none

/-- One fitted own pantograph (R171, row 2). -/
def State.panArg (s : State) : List Byte → Option Pan
  | [b] => (panOf b).filter s.fitted
  | _ => none

/-- A station number 1 to 24 (R30, R175). -/
def stationArg : List Byte → Option Nat
  | [b] => if isStation b.toNat then some b.toNat else none
  | _ => none

/-- A station number 1 to 24 and a pantograph (R175). -/
def entryArg : List Byte → Option (Nat × Pan)
  | [b, p] => if isStation b.toNat then (panOf p).map (fun q => (b.toNat, q)) else none
  | _ => none

/-- A number up to a largest value. -/
def numberArg (largest : Nat) : List Byte → Option Nat
  | [b] => if b.toNat ≤ largest then some b.toNat else none
  | _ => none

/-- SET-REGIME: a band 0 to 3 and a direction (R173). -/
def regimeArg : List Byte → Option (Fin 4 × Direction)
  | [b, d] =>
    if h : b.toNat < 4 then
      (if d = 0 then some (⟨b.toNat, h⟩, .aForward) else if d = 1 then some (⟨b.toNat, h⟩, .bForward) else none)
    else none
  | _ => none

/-- Two bytes as one quantity, most significant byte first (chapter 11). -/
def word16 (hi lo : Byte) : Word16 := hi ++ lo

/-- The two bytes of a quantity. -/
def hiByte (w : Word16) : Byte := w.extractLsb' 8 8
def loByte (w : Word16) : Byte := w.extractLsb' 0 8

/-- ANNOUNCE-SECTION: kind, distance, length 1 to 2,000 m and target; a SYSTEM names one of the four systems and a NEUTRAL
none, coded 0 (R111, section 11.5). -/
def sectionArg : List Byte → Option (SectionKind × Word16 × Word16)
  | [k, d1, d0, l1, l0, tg] =>
    let len := word16 l1 l0
    if 1 ≤ len.toNat ∧ len.toNat ≤ 2000 then
      if k = 0 then (if tg = 0 then some (.neutral, word16 d1 d0, len) else none)
      else if k = 1 then (supplyOf tg).map (fun t => (.system t, word16 d1 d0, len))
      else none
    else none
  | _ => none

/-- One of the four systems (R127). -/
def supplyArg : List Byte → Option Supply
  | [b] => supplyOf b
  | _ => none

/-- SET-ICE: a level to force, or AUTO as `none` (R153). -/
def iceArg : List Byte → Option (Option Ice)
  | [b] => if b = 3 then some none else (iceOf b).map some
  | _ => none

/-- HEAT: off or on (R169). -/
def onOffArg : List Byte → Option Bool
  | [b] => if b = 0 then some false else if b = 1 then some true else none
  | _ => none

/-- CLEAR-FAULTS: a mask of two bytes (R179). -/
def maskArg : List Byte → Option Word16
  | [h, l] => some (word16 h l)
  | _ => none

/-- READ-CONFIG: an offset and a count of 1 to 64 whose sum does not exceed 64 (R181). -/
def configReadArg : List Byte → Option (Nat × Nat)
  | [o, c] =>
    if 1 ≤ c.toNat ∧ c.toNat ≤ 64 ∧ o.toNat + c.toNat ≤ configSize then some (o.toNat, c.toNat) else none
  | _ => none

/-- One item of the configuration block: its offset, its bytes, and its range (R181, section 11.7). -/
structure ConfigItem where
  offset : Nat
  bytes : Nat
  least : Nat
  largest : Nat
deriving DecidableEq, Repr

/-- The train-wide items (R181, section 11.7). -/
def trainItems : List ConfigItem :=
  [⟨0, 2, 20, 511⟩, ⟨2, 1, 50, 250⟩, ⟨3, 1, 20, 200⟩, ⟨4, 1, 1, 4⟩, ⟨5, 1, 1, 4⟩, ⟨6, 1, 1, 4⟩, ⟨7, 1, 1, 4⟩] ++
  [⟨8, 1, 0, 255⟩, ⟨9, 1, 0, 255⟩, ⟨10, 1, 0, 255⟩, ⟨11, 1, 0, 255⟩, ⟨12, 1, 10, 255⟩, ⟨13, 1, 0, 63⟩] ++
  [⟨14, 2, 50, 1000⟩, ⟨16, 1, 10, 255⟩, ⟨17, 2, 500, 4000⟩, ⟨19, 2, 30, 600⟩, ⟨21, 2, 50, 1000⟩] ++
  [⟨23, 1, 1, 255⟩, ⟨24, 1, 1, 255⟩, ⟨25, 1, 1, 255⟩, ⟨26, 1, 0, 16⟩, ⟨27, 1, 0, 16⟩]

/-- The local items (R181, section 11.7); a kind is 0 AC or 1 DC. -/
def localItems : List ConfigItem :=
  [⟨28, 1, 0, 2⟩, ⟨29, 2, 0, 511⟩, ⟨31, 1, 0, 1⟩, ⟨32, 1, 0, 15⟩, ⟨33, 2, 0, 511⟩, ⟨35, 1, 0, 1⟩, ⟨36, 1, 0, 15⟩] ++
  [⟨37, 1, 5, 40⟩, ⟨38, 1, 2, 20⟩, ⟨39, 1, 2, 20⟩, ⟨40, 1, 10, 100⟩, ⟨41, 1, 20, 250⟩, ⟨42, 1, 20, 250⟩] ++
  [⟨43, 1, 20, 250⟩, ⟨44, 1, 20, 250⟩, ⟨45, 1, 20, 250⟩, ⟨46, 1, 20, 250⟩, ⟨47, 2, 500, 4000⟩, ⟨49, 2, 0, 1000⟩] ++
  [⟨51, 2, 0, 65535⟩, ⟨53, 2, 1, 65535⟩, ⟨55, 2, 0, 65535⟩, ⟨57, 2, 1, 65535⟩, ⟨59, 2, 0, 65535⟩] ++
  [⟨61, 2, 1, 65535⟩, ⟨63, 1, 10, 255⟩]

/-- Every item of the block. -/
def configItems : List ConfigItem := trainItems ++ localItems

/-- The value an item has in a block. -/
def ConfigItem.value (m : Memory) (i : ConfigItem) : Nat := if i.bytes = 2 then m.item2 i.offset else m.item1 i.offset

/-- Whether an item's value lies in its range. -/
def ConfigItem.inRange (m : Memory) (i : ConfigItem) : Bool := i.least ≤ i.value m && i.value m ≤ i.largest

/-- WRITE-CONFIG's own conditions (R181): the write stays inside the block, neither begins nor ends inside a two-byte
item, and leaves every item it covers in its range. -/
def configWriteOk (m : Memory) (offset : Nat) (data : List Byte) : Bool :=
  let finish := offset + data.length
  let splits (i : ConfigItem) (x : Nat) : Bool := i.bytes = 2 && x = i.offset + 1
  finish ≤ configSize &&
    configItems.all (fun i => !splits i offset && !splits i finish) &&
    configItems.all (fun i => !(offset ≤ i.offset && i.offset < finish) || i.inRange (m.writeAll offset data))

/-- WRITE-CONFIG: an offset 0 to 63 and 1 to 64 data bytes that R181 accepts. -/
def State.configWriteArg (s : State) : List Byte → Option (Nat × List Byte)
  | o :: data =>
    if 1 ≤ data.length ∧ data.length ≤ 64 ∧ o.toNat < configSize ∧ configWriteOk s.sc.config o.toNat data then
      some (o.toNat, data)
    else none
  | [] => none

/-- The response of the transaction in progress (R171). -/
def State.respond (s : State) (code : Byte) (result : ResultCode) (data : ResponseData) : State :=
  s.mapLcp fun l => { l with transaction := some ⟨code, result, data⟩ }

end Sys2Proof.Machine
end

