-- ==== Sys2Proof/Machine/Frame.lean ====
section
/-! DEFINITION. The roof-line frame (R1, R8, sections 11.1 and 11.2): its CRC, the bytes of a notice, the frame a station
sends, and the frame a station reads, which is refused where R8 discards it. The CRC-8 of the fingerprint (R182) stands
beside them. -/

namespace Sys2Proof.Machine

/-- One byte's worth of a CRC of width 16: eight shifts, most significant bit first (R1). -/
def crc16Shift (crc : Word16) : Nat → Word16
  | 0 => crc
  | n + 1 => crc16Shift (if crc.msb then (crc <<< 1) ^^^ 0x1021#16 else crc <<< 1) n

/-- CRC-16, polynomial 0x1021, most significant bit first, continued over bytes (R1). -/
def crc16From (crc : Word16) : List Byte → Word16
  | [] => crc
  | b :: rest => crc16From (crc16Shift (crc ^^^ (b ++ (0 : Byte))) 8) rest

/-- The CRC of a frame's header and payload, initial value 0xFFFF (R1). -/
def crc16 (bytes : List Byte) : Word16 := crc16From 0xFFFF#16 bytes

/-- One byte's worth of the CRC-8 with polynomial 0x07 (R182). -/
def crc8Shift (crc : Byte) : Nat → Byte
  | 0 => crc
  | n + 1 => crc8Shift (if crc.msb then (crc <<< 1) ^^^ 0x07#8 else crc <<< 1) n

/-- CRC-8 continued over bytes (R182). -/
def crc8From (crc : Byte) : List Byte → Byte
  | [] => crc
  | b :: rest => crc8From (crc8Shift (crc ^^^ b) 8) rest

/-- The fingerprint of a configuration block: CRC-8, initial value 0x00, over offsets 0 to 27 (R182). -/
def fingerprintOf (m : Memory) : Byte := crc8From 0 (m.readAll 0 28)

/-- The payload bytes of a report (table 11.3). -/
def Report.payload (r : Report) : List Byte :=
  [r.fingerprint, hiByte r.pan0, loByte r.pan0, hiByte r.pan1, loByte r.pan1, r.regime, r.heatFault, r.round]

/-- The payload bytes of a notice (table 11.2). -/
def Notice.payload : Notice → List Byte
  | .drop p f => [p, f]
  | .object st q k r => [st, q, k, r]
  | .fault c p d => [c, p, d]
  | .leave f => [f]
  | .coPropose n tg o i d l => [n, tg, o, i, hiByte d, loByte d, hiByte l, loByte l]
  | .coReady n tg => [n, tg]
  | .coProbe n tg m => [n, tg, m]
  | .coAbort n tg r => [n, tg, r]
  | .claim p r => [p, r]
  | .raised p r => [p, r]
  | .yield p => [p]
  | .regime b d => [b, d]
  | .sectionAhead o i k tg d l => [o, i, k, tg, hiByte d, loByte d, hiByte l, loByte l]
  | .ice o => [o]
  | .heatTake u => [u]
  | .heatGive u => [u]
  | .present r => r.payload
  | .join r => r.payload

/-- A report read from eight bytes (table 11.3). -/
def reportOf : List Byte → Option Report
  | [f, a1, a0, b1, b0, g, h, r] => some ⟨f, word16 a1 a0, word16 b1 b0, g, h, r⟩
  | _ => none

/-- A notice read from its kind and payload; none when the payload has not the length fixed for the kind (R8). -/
def noticeOf (k : NoticeKind) (payload : List Byte) : Option Notice :=
  match k, payload with
  | .drop, [p, f] => some (.drop p f)
  | .object, [st, q, kd, r] => some (.object st q kd r)
  | .fault, [c, p, d] => some (.fault c p d)
  | .leave, [f] => some (.leave f)
  | .coPropose, [n, tg, o, i, d1, d0, l1, l0] => some (.coPropose n tg o i (word16 d1 d0) (word16 l1 l0))
  | .coReady, [n, tg] => some (.coReady n tg)
  | .coProbe, [n, tg, m] => some (.coProbe n tg m)
  | .coAbort, [n, tg, r] => some (.coAbort n tg r)
  | .claim, [p, r] => some (.claim p r)
  | .raised, [p, r] => some (.raised p r)
  | .yield, [p] => some (.yield p)
  | .regime, [b, d] => some (.regime b d)
  | .sectionAhead, [o, i, kd, tg, d1, d0, l1, l0] => some (.sectionAhead o i kd tg (word16 d1 d0) (word16 l1 l0))
  | .ice, [o] => some (.ice o)
  | .heatTake, [u] => some (.heatTake u)
  | .heatGive, [u] => some (.heatGive u)
  | .present, bytes => (reportOf bytes).map .present
  | .join, bytes => (reportOf bytes).map .join
  | _, _ => none

/-- A frame as a valid reception gives it: origin station, origin sequence and notice (R1). -/
structure Frame where
  origin : Nat
  seq : Byte
  notice : Notice
deriving DecidableEq, Repr

/-- The header and payload of a frame (section 11.1). -/
def Frame.body (f : Frame) : List Byte :=
  kindCode f.notice.kind :: BitVec.ofNat 8 f.origin :: f.seq ::
    BitVec.ofNat 8 f.notice.payload.length :: f.notice.payload

/-- The bytes a station sends between the start and end symbols (R1, section 11.1). -/
def Frame.bytes (f : Frame) : List Byte := f.body ++ [hiByte (crc16 f.body), loByte (crc16 f.body)]

/-- How long a frame occupies the line, in bit times: 52 + 8n (R1). -/
def frameBits (n : Notice) : Nat := 52 + 8 * n.payload.length

/-- The bit time in µs (R1). -/
def bitTime : Nat := 4

/-- A frame read from its bytes with a valid end symbol; none where R8 discards it: shorter than a header, CRC not
matching, kind unknown (bits 7 to 5 of the kind byte are ignored), payload length not the kind's, origin 0 or above 24. -/
def readFrame : List Byte → Option Frame
  | k :: o :: q :: n :: rest =>
    let payload := rest.take n.toNat
    let crc := crc16 (k :: o :: q :: n :: payload)
    if rest = payload ++ [hiByte crc, loByte crc] ∧ payload.length = n.toNat ∧ isStation o.toNat then
      match kindOf (k.toNat % 32) with
      | some kind => (noticeOf kind payload).map (Frame.mk o.toNat q)
      | none => none
    else none
  | _ => none

end Sys2Proof.Machine
end

