-- ==== Sys2Proof/Machine/Flags.lean ====
section
/-! DEFINITION. The flag words of the part: the sticky fault summary and its fault nibble (R178, R36), and the breaker
reason set with the breaker timer it starts and stops (R103 to R106). -/

namespace Sys2Proof.Machine

/-! ## Faults (R36, R178) -/

/-- Whether a fault's bit is set in the sticky fault summary. -/
def State.faultSet (s : State) (k : FaultKind) : Bool := s.lcp.faults.getLsbD (faultBit k)

/-- The groups none. -/
def FaultGroups.empty : FaultGroups := ⟨false, false, false, false⟩

/-- The group of a fault kind (R36, R178); BUS_COLLISIONS and DUPLICATE_STATION have none. -/
def faultGroup : FaultKind → FaultGroups
  | .raiseTimeout | .noWire | .stuckUp | .sensorConflict | .heaterTrip => ⟨true, false, false, false⟩
  | .breakerLate => ⟨false, true, false, false⟩
  | .selectorTimeout | .isolatorTimeout => ⟨false, false, true, false⟩
  | .voltageMismatch => ⟨false, false, false, true⟩
  | .busCollisions | .duplicateStation => FaultGroups.empty

/-- Two sets of groups together. -/
def FaultGroups.union (a b : FaultGroups) : FaultGroups :=
  ⟨a.drop || b.drop, a.breaker || b.breaker, a.switchgear || b.switchgear, a.voltage || b.voltage⟩

/-- The groups of the own sticky fault summary (R178). -/
def State.ownGroups (s : State) : FaultGroups where
  drop := s.faultSet .raiseTimeout || s.faultSet .noWire || s.faultSet .stuckUp || s.faultSet .sensorConflict ||
    s.faultSet .heaterTrip
  breaker := s.faultSet .breakerLate
  switchgear := s.faultSet .selectorTimeout || s.faultSet .isolatorTimeout
  voltage := s.faultSet .voltageMismatch

/-- The fault nibble: bits 3, 2, 1, 0 are drop, breaker, switchgear, voltage (table 11.3). -/
def groupNibble (g : FaultGroups) : Nat := g.drop.toNat * 8 + g.breaker.toNat * 4 + g.switchgear.toNat * 2 + g.voltage.toNat

/-- The groups a fault nibble carries (table 11.3). -/
def nibbleGroups (n : Nat) : FaultGroups :=
  ⟨n / 8 % 2 = 1, n / 4 % 2 = 1, n / 2 % 2 = 1, n % 2 = 1⟩

/-- A fault raised at the command port: its event, and its bit whether or not the record finds room (R178). -/
def State.raiseLocalFault (s : State) (k : FaultKind) (d : FaultDetail) : State :=
  (s.raiseEvent (.fault k d)).mapLcp fun l => { l with faults := l.faults ||| BitVec.twoPow 11 (faultBit k) }

/-! ## Breaker reasons (R103, R104, R106) -/

/-- The four reasons (R103). -/
inductive Reason where
  | neutral
  | round
  | fault
  | host
deriving DecidableEq, Repr

/-- Whether the set holds a reason. -/
def Reasons.holds (r : Reasons) : Reason → Bool
  | .neutral => r.neutral
  | .round => r.round
  | .fault => r.fault
  | .host => r.host

/-- The set with one reason set or clear. -/
def Reasons.put (r : Reasons) (x : Reason) (b : Bool) : Reasons :=
  match x with
  | .neutral => { r with neutral := b }
  | .round => { r with round := b }
  | .fault => { r with fault := b }
  | .host => { r with host := b }

/-- Whether the set holds any reason: the breaker-open output (R103). -/
def Reasons.any (r : Reasons) : Bool := r.neutral || r.round || r.fault || r.host

/-- A reason added: BREAKER_REASONS is raised and the breaker timer starts, when stopped, if the breaker is not confirmed
open; a reason already held changes nothing (R103, R106). -/
def State.addReason (s : State) (x : Reason) : State :=
  if s.sg.reasons.holds x then s
  else
    (s.mapSg fun g => { g with
      reasons := g.reasons.put x true
      breakerTimer := if g.breakerOpen then g.breakerTimer else g.breakerTimer.or (s.timerFor s.breakerPeriod) }).raiseEvent
      (.breakerReasons (s.sg.reasons.put x true))

/-- A reason removed: BREAKER_REASONS is raised and the breaker timer stops if the set becomes empty; a reason not held
changes nothing (R103, R106). -/
def State.removeReason (s : State) (x : Reason) : State :=
  if s.sg.reasons.holds x then
    (s.mapSg fun g => { g with
      reasons := g.reasons.put x false
      breakerTimer := if (g.reasons.put x false).any then g.breakerTimer else none }).raiseEvent
      (.breakerReasons (s.sg.reasons.put x false))
  else s

end Sys2Proof.Machine
end

