-- ==== Sys2Proof/Machine/Queue.lean ====
section
/-! DEFINITION. The transmit queue and the presence slot (R12 to R16), the offered notice with its deference point (R3),
and the raising of a fault that is sent as a FAULT notice (R75, R109, R178). -/

namespace Sys2Proof.Machine

/-- The most notices the transmit queue holds (R12). -/
def queueCapacity : Nat := 16

/-- The most notices of origin host in it (R12). -/
def hostCapacity : Nat := 8

/-- What became of a notice a unit queued: admitted, not admitted and no event (R12, R14), or dropped with TX_LOST (R14). -/
inductive Admit where
  | admitted
  | turnedAway
  | lost
deriving DecidableEq, Repr

/-- The port transmits in JOINING and ONLINE (section 1.8). -/
def State.transmits (s : State) : Bool := s.rlp.port = .joining || s.rlp.port = .online

/-- Whether a notice is the vented LEAVE (R18). -/
def Notice.vented : Notice → Bool
  | .leave f => f.getLsbD 0
  | _ => false

/-- Whether the vented LEAVE of R18 is in the queue. -/
def State.ventedHeld (s : State) : Bool := s.rlp.queue.any fun q => q.notice.vented

/-- PRESENT filled into the slot; a JOIN there stays, and a PRESENT there, even one in an attempt, gives way to the newer
(R16; notes/assumptions/37.md). Nothing is filled while the vented LEAVE is in the queue (R18). -/
def State.fillPresent (s : State) : State :=
  if s.transmits && !s.ventedHeld then
    s.mapRlp fun r => { r with
      slot := if r.slot = some .join then some .join else some .present
      attempt := r.attempt.map fun a => if a.notice.kind = .present then { a with fromSlot := false } else a }
  else s

/-- A notice put at the tail of the queue. -/
def State.enqueue (s : State) (n : Notice) (host : Bool) : State :=
  s.mapRlp fun r => { r with queue := r.queue ++ [⟨n, host, false, false⟩] }

/-- The last element that satisfies a test taken out of a list. -/
def removeLast {α : Type} (p : α → Bool) : List α → Option (α × List α)
  | [] => none
  | x :: xs =>
    match removeLast p xs with
    | some (y, ys) => some (y, x :: ys)
    | none => if p x then some (x, xs) else none

/-- An internal notice queued (R12, R14): into a free place, or in place of the newest host notice not in an attempt with
TX_DISCARDED, or dropped with TX_LOST and PRESENT filled at once. -/
def State.queueInternal (s : State) (n : Notice) : State × Admit :=
  if !s.transmits || s.ventedHeld then (s, .turnedAway)
  else if s.rlp.queue.length < queueCapacity then (s.enqueue n false, .admitted)
  else
    match removeLast (fun q => q.host && !q.inAttempt) s.rlp.queue with
    | some (old, rest) =>
      (((s.mapRlp fun r => { r with queue := rest }).raiseEvent (.txDiscarded old.notice.kind)).enqueue n false, .admitted)
    | none => ((s.raiseEvent (.txLost n.kind)).fillPresent, .lost)

/-- A notice queued whose loss no unit records. -/
def State.send (s : State) (n : Notice) : State := (s.queueInternal n).1

/-- A notice queued, with what its unit does if it is dropped with TX_LOST. -/
def State.sendOr (s : State) (n : Notice) (lost : State → State) : State :=
  match s.queueInternal n with
  | (t, .lost) => lost t
  | (t, _) => t

/-- How many host notices the queue holds (R13). -/
def State.hostNotices (s : State) : Nat := s.rlp.queue.countP fun q => q.host

/-- Whether a host notice finds no place (R13). -/
def State.hostFull (s : State) : Bool := hostCapacity ≤ s.hostNotices || queueCapacity ≤ s.rlp.queue.length

/-- Notices withdrawn (R15): one not in an attempt leaves the queue, one in an attempt is marked. -/
def State.withdraw (s : State) (p : QueuedNotice → Bool) : State :=
  s.mapRlp fun r => { r with
    queue := (r.queue.filter fun q => !p q || q.inAttempt).map fun q => if p q then { q with withdrawn := true } else q }

/-- Whether a queued notice is in an attempt. -/
def State.inAttempt (s : State) (p : QueuedNotice → Bool) : Bool := s.rlp.queue.any fun q => p q && q.inAttempt

/-! ## The offered notice and its deference point (R3, R12, R16) -/

/-- The lowest class in the queue. -/
def lowestClass : List QueuedNotice → Option Nat
  | [] => none
  | q :: rest =>
    match lowestClass rest with
    | none => some (kindClass q.notice.kind)
    | some c => some (min (kindClass q.notice.kind) c)

/-- The class of the offered notice: the queue's lowest, or 3 for the slot's when the queue is empty (R12, R16). -/
def State.offeredClass (s : State) : Option Nat :=
  match lowestClass s.rlp.queue with
  | some c => some c
  | none => s.rlp.slot.map fun _ => 3

/-- The first notice of a class, marked as in an attempt (R12). -/
def markAttempt (c : Nat) : List QueuedNotice → List QueuedNotice
  | [] => []
  | q :: rest =>
    if kindClass q.notice.kind = c then { q with inAttempt := true } :: rest else q :: markAttempt c rest

/-- The first deference point after the end of the last frame, in µs (R3). -/
def State.firstPoint (s : State) (cls : Nat) : Moment :=
  s.rlp.lastEnd + 4 * (12 + 64 * cls + s.own + if s.rlp.recentSender then 32 else 0)

/-- The deference point that lies ahead: the first, or a repeat every 256 bit times (R3). -/
def State.pointAhead (s : State) (cls : Nat) : Moment :=
  let base := s.firstPoint cls
  if s.now < base then base else base + 1024 * ((s.now - base) / 1024 + 1)

/-- The deference point computed again when the offered class, the flag or the end of the last frame has changed (R3;
notes/assumptions/36.md). While a frame is on the line there is none. -/
def State.refreshDeference (s : State) : State :=
  s.mapRlp fun r => { r with
    deference :=
      if r.line = .busy || r.attempt.isSome then none
      else
        match s.offeredClass with
        | none => none
        | some c =>
          match r.deference with
          | some d =>
            if d.cls = c ∧ d.flagged = r.recentSender ∧ d.frameEnd = r.lastEnd then some d
            else some ⟨c, r.recentSender, r.lastEnd, s.pointAhead c⟩
          | none => some ⟨c, r.recentSender, r.lastEnd, s.pointAhead c⟩ }

/-! ## Faults that are sent (R75, R109, R118, R129, R168) -/

/-- The code of the pantograph field of a FAULT, 0xFF for none (chapter 11). -/
def faultPan : Option Pan → Byte
  | some p => panCode p
  | none => 0xFF

/-- A fault raised: its event, its bit, and then its FAULT notice with a pantograph and a detail byte, the three as the rules list
them; that the notice is queued last is the model's choice (notes/assumptions/79.md). -/
def State.raiseFault (s : State) (k : FaultKind) (d : FaultDetail) (p : Option Pan) (detail : Byte) : State :=
  (s.raiseLocalFault k d).send (.fault (BitVec.ofNat 8 (faultBit k)) (faultPan p) detail)

end Sys2Proof.Machine
end

