-- ==== Sys2Proof/Machine/Roster.lean ====
section
/-! DEFINITION. What the roster shows (R21, R22, R46, R132, R133, R156): entries, counts and distances, the probe and
scraper candidates, and the contest records with their early close (R39, R44). -/

namespace Sys2Proof.Machine

/-- Whether a kind serves a system (R22). -/
def serves : PanKind → Supply → Bool
  | .ac, .ac25 | .ac, .ac15 | .dc, .dc3 | .dc, .dc15 => true
  | _, _ => false

/-- An entry is occupying when it is neither DOWN nor BLOCKED (R21). -/
def Entry.occupying (e : Entry) : Bool := e.state != .down && e.state != .blocked

/-- The entry of a key, if held. -/
def State.entry (s : State) (n : Nat) (p : Pan) : Option Entry := s.ru.roster.find? fun e => e.station = n && e.pan = p

/-- The own entry of a pantograph. -/
def State.ownEntry (s : State) (p : Pan) : Option Entry := s.entry s.own p

/-- Whether the own entry is held and DOWN. -/
def State.ownDown (s : State) (p : Pan) : Bool := (s.ownEntry p).any fun e => e.state = .down

/-- The entry of a key changed. -/
def State.mapEntry (s : State) (n : Nat) (p : Pan) (f : Entry → Entry) : State :=
  s.mapRu fun r => { r with roster := r.roster.map fun e => if e.station = n && e.pan = p then f e else e }

/-- Whether a key stands before another in key order (R21). -/
def keyBefore (n : Nat) (p : Pan) (m : Nat) (q : Pan) : Bool := n < m || (n = m && p = .p0 && q = .p1)

/-- An entry put in its place in key order, replacing one of its key. -/
def putEntry (e : Entry) : List Entry → List Entry
  | [] => [e]
  | x :: rest =>
    if x.station = e.station && x.pan = e.pan then e :: rest
    else if keyBefore e.station e.pan x.station x.pan then e :: x :: rest
    else x :: putEntry e rest

/-- An entry in a state without role or claim. -/
def Entry.cleared (e : Entry) (st : EntryState) : Entry :=
  { e with state := st, role := none, claimSeq := none, windowOpen := false }

/-- Whether an occupying entry other than the named one has a role. -/
def State.otherOccupying (s : State) (r : Role) (n : Nat) (p : Pan) : Bool :=
  s.ru.roster.any fun e => e.occupying && e.role = some r && !(e.station = n && e.pan = p)

/-- Whether an occupying entry has a role. -/
def State.occupyingRole (s : State) (r : Role) : Bool := s.ru.roster.any fun e => e.occupying && e.role = some r

/-- Whether any entry is occupying. -/
def State.anyOccupying (s : State) : Bool := s.ru.roster.any Entry.occupying

/-- The collector count: occupying entries whose role is not SCRAPER (R46). -/
def State.collectorCount (s : State) : Nat := s.ru.roster.countP fun e => e.occupying && e.role != some .scraper

/-- The collector limit of a band, capped at 2 under AC25 and AC15 (R46). -/
def State.collectorLimit (s : State) (band : Fin 4) : Nat :=
  match s.ru.regime.system with
  | some .ac25 | some .ac15 => min (s.cmax band) 2
  | _ => s.cmax band

/-- The distance from head of a position (R46, section 0.6). -/
def State.distance (s : State) (position : Nat) : Int :=
  match s.ru.regime.direction with
  | .aForward => position
  | .bForward => (s.trainLength : Int) - position

/-- The distance from head of an own pantograph (R114). -/
def State.panDistance (s : State) (p : Pan) : Int := s.distance (s.panPosition p)

/-- The least distance from head of the fitted pantographs, or 0 without one (R114, R121). -/
def State.frontDistance (s : State) : Int :=
  match s.fitted .p0, s.fitted .p1 with
  | true, true => min (s.panDistance .p0) (s.panDistance .p1)
  | true, false => s.panDistance .p0
  | false, true => s.panDistance .p1
  | false, false => 0

/-- Two positions lie within a distance (R46). -/
def within (a b d : Nat) : Bool := (a - b) + (b - a) < d

/-- One entry is ahead of another by at least d metres (R46). -/
def State.aheadBy (s : State) (a b : Entry) (d : Nat) : Bool := s.distance a.position + d ≤ s.distance b.position

/-- Entries that are occupying and not in role SCRAPER (R46). -/
def State.nonScrapers (s : State) : List Entry := s.ru.roster.filter fun e => e.occupying && e.role != some .scraper

/-- Of a list, the entry with the least distance from head, the first in the list between equals. -/
def State.foremost (s : State) : List Entry → Option Entry
  | [] => none
  | e :: rest =>
    match s.foremost rest with
    | none => some e
    | some b => if s.distance b.position < s.distance e.position then some b else some e

/-- Whether a station is LIVE and not doubtful. -/
def State.sound (s : State) (n : Nat) : Bool := (s.peer n).status = .live && !(s.peer n).doubtful

/-! ## Odometer points (R90, R114) -/

/-- Whether an odometer point is reached (R90). -/
def State.reached (s : State) (x : Word32) : Bool := (s.mu.odo.metres - x).toNat < 2147483648

/-- A point moved by a signed distance (R90, R114). -/
def moved (x : Word32) (d : Int) : Word32 := x + BitVec.ofInt 32 d

/-- A point not yet at its second end: from the first point reached until the second (R114). -/
def State.between (s : State) (a b : Word32) : Bool := s.reached a && !s.reached b

/-- A distance from head lies inside a section entry (R114). -/
def State.inside (s : State) (e : SectionEntry) (h : Int) : Bool := s.between (moved e.start h) (moved e.finish h)

/-- A distance from head lies within the neutral span of an entry (R114). -/
def State.inSpan (s : State) (e : SectionEntry) (h : Int) : Bool :=
  s.between (moved e.start (h - 20)) (moved e.finish (h + 20))

/-- A distance from head lies within the raise-hold range of an entry (R114); only a SYSTEM has one (R120). -/
def State.inHold (s : State) (e : SectionEntry) (h : Int) : Bool :=
  e.kind != .neutral &&
    s.between (moved e.start (h - s.lowerDistance)) (moved e.finish (s.probeMargin + h + 1))

/-- A distance from head lies within some raise-hold range. -/
def State.held (s : State) (h : Int) : Bool := s.sq.entries.any fun e => s.inHold e h

/-! ## Candidates (R133, R156) -/

/-- The probe candidate (R133). -/
def State.probeCandidate (s : State) : Option Entry :=
  match s.cu.isOpen, s.cu.target with
  | true, some target =>
    match s.ru.roster.find? fun e => e.occupying && e.role = some .probe with
    | some e => some e
    | none => s.foremost (s.ru.roster.filter fun e => e.state = .down && s.sound e.station && serves e.kind target)
  | _, _ => none

/-- Whether a key is the probe candidate's. -/
def State.isProbeCandidate (s : State) (n : Nat) (p : Pan) : Bool :=
  s.probeCandidate.any fun e => e.station = n && e.pan = p

/-- The scraper candidate (R156). -/
def State.scraperCandidate (s : State) : Option Entry :=
  match s.ru.regime.system with
  | none => none
  | some system =>
    s.foremost (s.ru.roster.filter fun e =>
      e.state = .down && s.sound e.station && serves e.kind system && !s.held (s.distance e.position) &&
        s.nonScrapers.all fun x => s.aheadBy e x s.scraperGap)

/-! ## Ready set and peers (R132, R135, R142) -/

/-- The station numbers. -/
def stations : List Nat := [1, 2, 3, 4, 5, 6, 7, 8, 9, 10, 11, 12, 13, 14, 15, 16, 17, 18, 19, 20, 21, 22, 23, 24]

/-- The ready set is complete when it holds every LIVE station (R132). -/
def State.readyComplete (s : State) : Bool := stations.all fun n => (s.peer n).status != .live || s.cu.ready.contains n

/-- Whether a peer is SILENT or FOREIGN or doubtful (R135, R142). -/
def State.peerUnsure (s : State) : Bool :=
  stations.any fun n => (s.peer n).status = .silent || (s.peer n).status = .foreign || (s.peer n).doubtful

/-- A number added to the ready set, once (R132). -/
def State.addReady (s : State) (n : Nat) : State :=
  s.mapCu fun c => if c.ready.contains n then c else { c with ready := c.ready ++ [n] }

/-- A number taken out of the ready set (R132). -/
def State.dropReady (s : State) (n : Nat) : State := s.mapCu fun c => { c with ready := c.ready.filter (· != n) }

/-! ## Contest records (R39, R41, R44) -/

/-- The most contest records (R39). -/
def contestCapacity : Nat := 8

/-- Whether a contest record is free. -/
def State.contestFree (s : State) : Bool := s.ru.contests.length < contestCapacity

/-- Whether a notice is an OBJECT against a target (R41). -/
def objectsTo (target : Target) : Notice → Bool
  | .object n q k _ => n.toNat = target.station && q = target.seq && k = contestKindCode target.kind
  | _ => false

/-- Own OBJECTs pending against a target withdrawn (R41, R44). -/
def State.withdrawObjects (s : State) (target : Target) : State := s.withdraw fun q => objectsTo target q.notice

/-- The open record of a target. -/
def State.contest (s : State) (target : Target) : Option Contest := s.ru.contests.find? fun c => c.target = target

/-- A record taken out of the list, and window-open cleared on the entry of its claim (R43). -/
def State.dropContest (s : State) (target : Target) : State :=
  let t := s.mapRu fun r => { r with contests := r.contests.filter fun c => c.target != target }
  match s.contest target with
  | some ⟨_, .claim p, _, _⟩ =>
    t.mapEntry target.station p fun e => if e.claimSeq = some target.seq then { e with windowOpen := false } else e
  | _ => t

/-- A record closed before its window ends: OBJECTs pending against it are withdrawn (R44). -/
def State.closeContest (s : State) (target : Target) : State := (s.dropContest target).withdrawObjects target

/-- Every record that satisfies a test closed (R44). -/
def State.closeContests (s : State) (p : Contest → Bool) : State :=
  (s.ru.contests.filter p).foldl (fun t c => t.closeContest c.target) s

/-- The records of claims on an entry closed (R24, R34, R35, R44). -/
def State.closeClaims (s : State) (n : Nat) (p : Pan) : State :=
  s.closeContests fun c => c.target.station = n && c.body = .claim p

/-- The records of every claim of a station closed. -/
def State.closeStationClaims (s : State) (n : Nat) : State := (s.closeClaims n .p0).closeClaims n .p1

/-- Whether a notice is an OBJECT against a notice of a station. -/
def objectsStation (n : Nat) : Notice → Bool
  | .object m _ _ _ => m.toNat = n
  | _ => false

/-- Every record opened by a station's notices closed without undo, and own OBJECTs pending against its notices withdrawn,
those whose record has closed before or was never opened among them (R29, R30). -/
def State.closeStation (s : State) (n : Nat) : State :=
  (s.closeContests fun c => c.target.station = n).withdraw fun q => objectsStation n q.notice

/-- Own OBJECTs pending against the claim an entry holds withdrawn, also after its window (R34, R35). -/
def State.withdrawClaimObjects (s : State) (n : Nat) (p : Pan) : State :=
  match (s.entry n p).bind fun e => e.claimSeq with
  | some q => s.withdrawObjects ⟨n, q, .claim⟩
  | none => s

/-- A record opened (R39). -/
def State.openContest (s : State) (target : Target) (body : ContestBody) : State :=
  s.mapRu fun r => { r with contests := r.contests ++ [⟨target, body, s.now + s.objectionWindow, false⟩] }

/-- The objected flag of a target's record set (R32, R42). -/
def State.markObjected (s : State) (target : Target) : State :=
  s.mapRu fun r => { r with contests := r.contests.map fun c => if c.target = target then { c with objected := true } else c }

/-- Every entry of a station UNKNOWN, without role or claim, and the records of its claims closed (R25, R27, R28). -/
def State.loseEntries (s : State) (n : Nat) : State :=
  (s.closeStationClaims n).mapRu fun r => { r with
    roster := r.roster.map fun e => if e.station = n then e.cleared .unknown else e }

/-- Every entry of a station removed, and the records of its claims closed (R29, R30). -/
def State.removeEntries (s : State) (n : Nat) : State :=
  (s.closeStationClaims n).mapRu fun r => { r with roster := r.roster.filter fun e => e.station != n }

end Sys2Proof.Machine
end

