-- ==== Sys2Proof/Machine/Drive.lean ====
section
/-! DEFINITION. The pantograph drives (chapter 3): valves and pulses, changes of drive state, ordering down, claims with
their cancellation, refusal and go-ahead, housing, sensor conflict, force readings and regulation. -/

namespace Sys2Proof.Machine

/-! ## Valves (R51, R52) -/

/-- A valve opened; a waiting pulse starts its 20 ms (R52). -/
def Drive.openValve (d : Drive) (v : Valve) (now : Moment) : Drive :=
  { d with valve := v, pulse := if d.pulse = .waiting then .running (now + 20000) else d.pulse }

/-- The valves served towards the target: an open valve that is not the target closes at once and the dead interval timer
starts; a closed pair opens to the target once the timer has stopped; FILL is not served without the enable (R52, R53). -/
def Drive.serve (d : Drive) (now dead : Nat) : Drive :=
  match d.valve with
  | .closed =>
    if d.deadTimer.isSome then d
    else
      match d.target with
      | .closed => d
      | .vent => d.openValve .vent now
      | .fill => if d.enable then d.openValve .fill now else d
  | v => if d.target = v then d else { d with valve := .closed, deadTimer := some (now + dead) }

/-- A lasting target set (R52). -/
def Drive.aim (d : Drive) (v : Valve) (now dead : Nat) : Drive :=
  Drive.serve { d with target := v, pulse := .idle, heldDecision := none } now dead

/-- A regulation decision taken: `none` is HOLD. A pulse already open runs out; the decision waits behind it (R52, R66;
notes/assumptions/14.md). -/
def Drive.decide (d : Drive) (v : Option Valve) (now dead : Nat) : Drive :=
  match d.pulse, v with
  | .running _, _ => { d with heldDecision := v }
  | _, none => d.aim .closed now dead
  | _, some x => Drive.serve { d with target := x, pulse := .waiting, heldDecision := none } now dead

/-- The end of an open pulse: the target becomes CLOSED, and a decision held behind the pulse then sets it (R52). -/
def Drive.pulseOver (d : Drive) (now dead : Nat) : Drive :=
  let c := { d with heldDecision := none }.aim .closed now dead
  match d.heldDecision with
  | none => c
  | some v => Drive.serve { c with target := v, pulse := .waiting } now dead

/-- A lasting target set at a drive of State. -/
def State.aim (s : State) (p : Pan) (v : Valve) : State := s.mapPd p fun d => d.aim v s.now s.deadInterval

/-! ## Changes of drive state -/

/-- The raise timer, the regulation timer and contact-loss supervision stopped (R54, R68). -/
def Drive.quiet (d : Drive) : Drive :=
  { d with raiseTimer := none, regulationTimer := none, episode := false, lowSince := none, contactSince := none, reading := none }

/-- A pantograph's arc history emptied and its tally set to 0 (R151). -/
def State.clearArcs (s : State) (p : Pan) : State :=
  s.mapIu fun i => { i with history := i.history.set p [], tally := i.tally.set p 0 }

/-- A drive state entered: DRIVE_STATE is raised (R75), and a drive that leaves UP empties its arc history (R151). A notice that
the same change of state queues follows the event by the model's choice (notes/assumptions/79.md). -/
def State.driveTo (s : State) (p : Pan) (st : DriveState) (cause : Option BlockCause) : State :=
  let t := if (s.drive p).state = .up then s.clearArcs p else s
  (t.mapPd p fun d => { d with state := st, blockCause := cause }).raiseEvent (.driveState p st cause)

/-- A drive notice queued; one dropped with TX_LOST is recorded as outstanding (R76), in place of one recorded before by
the model's choice (notes/assumptions/76.md). -/
def State.sendDrive (s : State) (p : Pan) (n : Notice) (o : Outstanding) : State :=
  s.sendOr n fun t => t.mapPd p fun d => { d with outstanding := some o }

/-- DROP BLOCKED queued. -/
def State.sendBlocked (s : State) (p : Pan) : State := s.sendDrive p (.drop (panCode p) 1) .dropBlocked

/-- YIELD queued. -/
def State.sendYield (s : State) (p : Pan) : State := s.sendDrive p (.yield (panCode p)) .yield

/-- Housing of a drive that waits for it: LOWERING becomes DOWN or BLOCKED (R69), DROPPED becomes BLOCKED (R55). -/
def State.takeHousing (s : State) (p : Pan) : State :=
  let d := s.drive p
  let settle (t : State) := t.mapPd p fun d => { d with lowerTimer := none, role := none, pendingBlock := none, claimSeq := none }
  match d.state with
  | .lowering =>
    match d.pendingBlock with
    | none => ((settle s).driveTo p .down none).sendYield p
    | some .host => ((settle s).driveTo p .blocked (some .host)).sendBlocked p
    | some .sensorConflict => ((settle s).driveTo p .blocked (some .sensorConflict)).sendBlocked p
  | .dropped => ((settle s).driveTo p .blocked d.blockCause).sendBlocked p
  | _ => s

/-- Housing taken at once by a drive that enters a waiting state with the indication already set (R50). -/
def State.housedAlready (s : State) (p : Pan) : State := if (s.drive p).housed then s.takeHousing p else s

/-! ## The scraper record as the drives change it (R157, R159) -/

/-- A phase of the scraper record entered: SCRAPER_STATE is raised; NONE holds no pantograph (R157). -/
def State.scraperTo (s : State) (ph : ScraperPhase) : State :=
  (s.mapIu fun i => { i with scraper := { i.scraper with
    phase := ph, pan := if ph = .none then none else i.scraper.pan } }).raiseEvent
    (.scraperState s.iu.scraper.pan ph)

/-- A claim of a pantograph ends by a cause that is not the IU's own order: a scraper record in CLAIMING for it goes to
LOWERING (R159). -/
def State.scraperLosesClaim (s : State) (p : Pan) : State :=
  if s.iu.scraper.phase = .claiming && s.iu.scraper.pan = some p then s.scraperTo .lowering else s

/-! ## Claims (R57 to R62) -/

/-- Whether a queued notice is the CLAIM of an own pantograph. -/
def isClaimOf (p : Pan) (q : QueuedNotice) : Bool :=
  match q.notice with
  | .claim c _ => c = panCode p
  | _ => false

/-- The claim stage NONE, without sequence; the role goes with it while the drive is DOWN (R60). -/
def Drive.claimOver (d : Drive) : Drive :=
  { d with claimStage := .idle, claimSeq := none, cancelPending := false, role := if d.state = .down then none else d.role }

/-- A CLAIM with a role queued (R57, R58): the role is set and the stage is QUEUED; a CLAIM dropped with TX_LOST leaves
neither (R59). One dropped without an event, behind the vented LEAVE (R14), leaves the stage QUEUED by the model's choice
(notes/assumptions/51.md). -/
def State.queueClaim (s : State) (p : Pan) (r : Role) : State :=
  ((s.mapPd p fun d => { d with role := some r, claimStage := .queued, cancelPending := false }).sendOr
    (.claim (panCode p) (roleCode r))) fun t => t.mapPd p Drive.claimOver

/-- A request for a SCRAPER or PROBE claim, and whether the drive takes it (R58). -/
def State.askClaim (s : State) (p : Pan) (r : Role) : State × Bool :=
  let d := s.drive p
  if d.state = .down && d.enable && d.claimStage = .idle && s.ownDown p && s.rlp.port = .online then
    (s.queueClaim p r, true)
  else (s, false)

/-- A QUEUED CLAIM withdrawn (R15, R54, R73): before its attempt the stage becomes NONE; during it, the CLAIM is marked. -/
def State.withdrawClaim (s : State) (p : Pan) : State :=
  if s.inAttempt (isClaimOf p) then s.withdraw (isClaimOf p)
  else (s.withdraw (isClaimOf p)).mapPd p Drive.claimOver

/-- YIELD for a refused or cancelled claim, with the stage CANCELLED (R60, R61); a YIELD lost is outstanding (R76). -/
def State.yieldClaim (s : State) (p : Pan) : State :=
  (s.mapPd p fun d => { d with claimStage := .cancelled, cancelPending := false }).sendYield p

/-- A claim cancelled (R60). The YIELD is queued before the SCRAPER_STATE of a scraper run that loses its claim by it, by the
model's choice (notes/assumptions/85.md). -/
def State.cancelClaim (s : State) (p : Pan) : State :=
  match (s.drive p).claimStage with
  | .queued =>
    let during := s.inAttempt (isClaimOf p)
    ((s.withdrawClaim p).mapPd p fun d => { d with cancelPending := during }).scraperLosesClaim p
  | .standing => (s.yieldClaim p).scraperLosesClaim p
  | _ => s

/-! ## Ordering down (R68) -/

/-- The causes of R68; a FAULT of a late breaker keeps the raise request. -/
inductive DownCause where
  | host
  | block
  | objected
  | fault
  | lateBreaker
  | round
  | regimeNone
  | scraper
  | listenOnly
  | leave
deriving DecidableEq, Repr

/-- Whether a cause clears the raise request of a drive in a role (R56, R68). -/
def DownCause.clears : DownCause → Option Role → Bool
  | .host, _ | .block, _ | .fault, _ | .leave, _ => true
  | .objected, r => r = some .collector
  | _, _ => false

/-- LOWERING entered from RAISING or UP (R68). -/
def State.enterLowering (s : State) (p : Pan) : State :=
  let t := (s.driveTo p .lowering none).mapPd p fun d => { d.quiet with lowerTimer := s.timerFor s.lowerLimit }
  (t.aim p .vent).housedAlready p

/-- A drive ordered down with a cause (R68). -/
def State.orderDown (s : State) (p : Pan) (c : DownCause) : State :=
  let t := s.mapPd p fun d => { d with raiseRequest := d.raiseRequest && !c.clears d.role }
  match (s.drive p).state with
  | .raising | .up => t.enterLowering p
  | .down => if c = .listenOnly then t else t.cancelClaim p
  | _ => t

/-- Each fitted drive ordered down. -/
def State.orderAllDown (s : State) (c : DownCause) : State := s.eachFitted fun p t => t.orderDown p c

/-- Whether every fitted drive is DOWN or BLOCKED (R97, R129, R184). -/
def State.allDown (s : State) : Bool :=
  [Pan.p0, Pan.p1].all fun p => !s.fitted p || (s.drive p).state = .down || (s.drive p).state = .blocked

/-! ## Faults and sensor conflict (R71, R75) -/

/-- The detail byte of a drive fault from a position count: divided by 16 and limited to 255; a negative count's is free
(R75; notes/assumptions/10.md). -/
def countDetail (count : Int) : Byte :=
  if 0 ≤ count then BitVec.ofNat 8 (min 255 (count.toNat / 16)) else Config.negativeCountDetail count

/-- A drive fault raised at a position count (R75). -/
def State.driveFault (s : State) (p : Pan) (k : FaultKind) (count : Int) : State :=
  s.raiseFault k (.drive p (countDetail count)) (some p) (countDetail count)

/-- The position count of a pantograph (R87). -/
def State.position (s : State) (p : Pan) : Int := (s.mu.pos.get p).count

/-- A claim in contest ended by a block in DOWN: a QUEUED CLAIM is withdrawn, a STANDING claim is left to the DROP (R54,
R73). -/
def State.endClaimByBlock (s : State) (p : Pan) : State :=
  if (s.drive p).claimStage = .queued then s.withdrawClaim p else s

/-- A DOWN drive becomes BLOCKED at once (R71, R73). -/
def State.blockNow (s : State) (p : Pan) (cause : BlockCause) : State :=
  (((s.endClaimByBlock p).driveTo p .blocked (some cause)).mapPd p fun d => { d with role := none }).sendBlocked p

/-- A sensor conflict found at a position count (R71). A LOWERING drive's pending block is taken at its housing. -/
def State.sensorConflict (s : State) (p : Pan) (count : Int) : State :=
  let t := (s.driveFault p .sensorConflict count).mapPd p fun d => { d with raiseRequest := false }
  match (s.drive p).state with
  | .down => t.blockNow p .sensorConflict
  | .raising | .up => (t.mapPd p fun d => { d with pendingBlock := some .sensorConflict }).orderDown p .fault
  | .lowering => t.mapPd p fun d => { d with pendingBlock := some .sensorConflict }
  | _ => t

/-! ## Drop line and supply (R53, R54) -/

/-- The drive enable cleared (R53) and the effects of R54 by drive state. -/
def State.dropDrive (s : State) (p : Pan) (cause : BlockCause) : State :=
  let d := s.drive p
  let t := (s.mapPd p fun d => { d with enable := false }).aim p .vent
  let clear (u : State) := u.mapPd p fun d =>
    { d.quiet with raiseRequest := false, pendingBlock := none, role := none,
                   claimSeq := if d.claimStage = .standing || d.claimStage = .cancelled then d.claimSeq else none }
  match d.state with
  | .down => (clear ((t.endClaimByBlock p).driveTo p .blocked (some cause))).sendBlocked p
  | .raising | .up | .lowering =>
    (((clear ((t.endClaimByBlock p).driveTo p .dropped (some cause))).mapPd p fun d =>
      { d with lowerTimer := s.timerFor s.lowerLimit }).sendDrive p (.drop (panCode p) 0) .dropFalling).housedAlready p
  | _ => t

/-! ## Refusal and go-ahead (R61, R62) -/

/-- A refusal handed on by role: the IU and the CU start their retry timers (R61, R136, R159). R136 stops the timer at every
close and does not say whether a refusal that comes after the close starts it: it does not, by the model's choice
(notes/assumptions/70.md). -/
def State.refusedRole (s : State) (r : Option Role) : State :=
  match r with
  | some .scraper =>
    if s.iu.scraper.phase = .claiming then
      s.mapIu fun i => { i with scraper := { i.scraper with retry := s.timerFor s.presenceInterval } }
    else s
  | some .probe => if s.cu.isOpen then s.mapCu fun c => { c with probeRetry := s.timerFor s.presenceInterval } else s
  | _ => s

/-- A refusal before the go-ahead: CLAIM_REFUSED, YIELD at once, stage CANCELLED (R61). A drive that became BLOCKED in the
window has no role left: its CLAIM_REFUSED carries none and the refusal is handed on to no unit, by the model's choice
(notes/assumptions/64.md). -/
def State.refuseStanding (s : State) (p : Pan) (reason : Byte) : State :=
  let r := (s.drive p).role
  let t := (s.raiseEvent (.claimRefused p r reason false)).mapPd p fun d =>
    { d with raiseRequest := d.raiseRequest && r != some .collector }
  (t.yieldClaim p).refusedRole r

/-- A refusal of the claim with an origin sequence (R61). A claim that has begun its raise is refused in the role the drive has by
then, COLLECTOR for a probe whose round has closed DONE, by the model's choice (notes/assumptions/74.md). One that reaches a drive
LOWERING with the claim's sequence still kept (R49) has no row in R61's table and no effect, by the model's choice
(notes/assumptions/78.md). -/
def State.refuse (s : State) (p : Pan) (seq reason : Byte) : State :=
  let d := s.drive p
  if d.claimSeq = some seq then
    match d.claimStage, d.state with
    | .standing, _ => s.refuseStanding p reason
    | .idle, .raising | .idle, .up =>
      ((s.raiseEvent (.claimRefused p d.role reason true)).orderDown p .objected).refusedRole d.role
    | _, _ => s
  else s

/-- The isolator position a role needs (R58, R62). -/
def rolePosition : Option Role → IsoPos
  | some .scraper => .opn
  | _ => .closed

/-- RAISING entered (R62). -/
def State.enterRaising (s : State) (p : Pan) : State :=
  ((s.driveTo p .raising none).mapPd p fun d =>
    { d with raiseTimer := s.timerFor s.raiseLimit, claimStage := .idle, contactSince := none }).aim p .fill

/-- Whether a queued notice is the YIELD of an own pantograph. -/
def isYieldOf (p : Pan) (q : QueuedNotice) : Bool :=
  match q.notice with
  | .yield c => c = panCode p
  | _ => false

/-- Whether a YIELD of an own pantograph awaits its echo (R69). -/
def State.yieldAwaited (s : State) (p : Pan) : Bool := s.rlp.queue.any (isYieldOf p)

/-- The go-ahead for the claim with an origin sequence (R62). None is taken while a YIELD awaits its echo (R69), and none by a
drive that gave up the claim's role, BLOCKED and then returned by UNBLOCK before the DROP's echo (R188;
notes/assumptions/61.md). At a failed isolator check CLAIM_REFUSED is raised and then YIELD queued, by the model's choice
(notes/assumptions/79.md). -/
def State.goAhead (s : State) (p : Pan) (seq : Byte) : State :=
  let d := s.drive p
  if d.role.isSome && d.claimStage = .standing && d.claimSeq = some seq && d.state = .down && d.enable &&
      s.rlp.port = .online && !s.yieldAwaited p then
    if (s.sg.iso.get p).confirmed = some (rolePosition d.role) then s.enterRaising p
    else (s.raiseEvent (.claimRefused p d.role (objectReasonCode .state) false)).yieldClaim p
  else s

/-- The echo of an own CLAIM (R59): the entry CLAIMED makes the claim STANDING, and a cancellation taken meanwhile is then
made (R60); an entry that stayed DOWN is a refusal before the go-ahead with the reason of the own evaluation. A claim
cancelled meanwhile whose entry stayed DOWN is cancelled, not refused, by the model's choice (notes/assumptions/50.md). -/
def State.claimEcho (s : State) (p : Pan) (seq : Byte) (reason : Option ObjectReason) : State :=
  if (s.drive p).claimStage = .queued then
    let pending := (s.drive p).cancelPending
    let t := s.mapPd p fun d => { d with claimStage := .standing, claimSeq := some seq, cancelPending := false }
    if pending then t.cancelClaim p
    else if (s.ownEntry p).any fun e => e.state = .claimed && e.claimSeq = some seq then t
    else t.refuseStanding p (objectReasonCode (reason.getD .state))
  else s

/-- A claim stage that follows the own entry: STANDING ends when the entry is not CLAIMED (R59), and a scraper run in CLAIMING
ends with it (R159). -/
def State.claimFollows (s : State) (p : Pan) : State :=
  if (s.drive p).claimStage = .standing && !((s.ownEntry p).any fun e => e.state = .claimed) then
    (s.mapPd p Drive.claimOver).scraperLosesClaim p
  else s

/-- The own entry has become DOWN or BLOCKED by an own YIELD or DROP: a claim in contest is over (R59, R60). -/
def State.claimEnds (s : State) (p : Pan) : State :=
  if (s.drive p).claimStage = .cancelled then s.mapPd p Drive.claimOver else s.claimFollows p

/-! ## Force (R63, R65, R66, R67) -/

/-- The shadow setpoint of a role in the current speed band (R65). -/
def State.shadowSetpoint (s : State) : Option Role → Nat
  | some .scraper => s.scraperSetpoint
  | some .probe => s.probeSetpoint
  | _ => s.collectorSetpoint s.ru.regime.band

/-- The shadow setpoints of the fitted drives recomputed (R65). -/
def State.refreshShadows (s : State) : State :=
  s.eachFitted fun p t => t.mapPd p fun d => { d with shadow := t.shadowSetpoint d.role }

/-- The decision of a regulation period against a setpoint; `none` is HOLD (R66). -/
def regulation (reading : Option Nat) (setpoint : Nat) : Option Valve :=
  match reading with
  | none => none
  | some f => if f + 8 < setpoint then some .fill else if setpoint + 8 < f then some .vent else none

/-- A regulation period begun at a moment: the setpoint copied, the timer restarted, the decision taken (R65, R66). -/
def State.beginPeriod (s : State) (p : Pan) (start : Moment) : State :=
  s.mapPd p fun d =>
    let set := s.shadowSetpoint d.role
    Drive.decide { d with active := set, shadow := set, regulationTimer := some (start + 50000), reading := none }
      (regulation d.reading set) s.now s.deadInterval

/-- Contact: the drive enters UP and queues RAISED (R63). A reading below 20 N that makes contact begins the contact-loss run
by the model's choice (notes/assumptions/52.md). -/
def State.contact (s : State) (p : Pan) (force : Nat) : State :=
  let t := (s.driveTo p .up none).mapPd p fun d =>
    { d.quiet with reading := some force, lowSince := if force < 20 then some s.now else none }
  ((t.aim p .closed).beginPeriod p s.now).sendDrive p
    (.raised (panCode p) (((s.drive p).role.map roleCode).getD 0)) .raised

/-- A valid force reading (R63, R66, R67). -/
def State.validReading (s : State) (p : Pan) (force : Nat) : State :=
  let d := s.drive p
  match d.state with
  | .raising =>
    if s.contactThreshold ≤ force then
      let since := d.contactSince.getD s.now
      if since + 60000 ≤ s.now then s.contact p force else s.mapPd p fun d => { d with contactSince := some since }
    else s.mapPd p fun d => { d with contactSince := none }
  | .up =>
    if force < 20 then
      let since := d.lowSince.getD s.now
      let t := s.mapPd p fun d => { d with reading := some force, lowSince := some since }
      if since + 100000 < s.now && !d.episode then
        ((t.mapPd p fun d => { d with episode := true }).raiseEvent (.contactLoss p)).mapIu fun i =>
          { i with tally := i.tally.set p (min 255 (i.tally.get p + 1)) }
      else t
    else s.mapPd p fun d => { d with reading := some force, lowSince := none, episode := false }
  | _ => s

/-- An invalid force reading ends the qualifying runs (R63, R67). -/
def State.invalidReading (s : State) (p : Pan) : State := s.mapPd p fun d => { d with contactSince := none, lowSince := none }

/-- A force capture taken by its drive (R83, R85). -/
def State.takeForce (s : State) (p : Pan) (c : Capture) : State :=
  match c.validity, c.quantity with
  | .valid, some force => s.validReading p force
  | _, _ => s.invalidReading p

/-! ## Outstanding notices (R76) -/

/-- A CANCELLED claim whose YIELD is neither queued nor outstanding any more ends with the own entry DOWN (R60;
notes/assumptions/24.md). -/
def State.endCancelled (s : State) (p : Pan) : State :=
  if (s.drive p).claimStage = .cancelled && s.ownDown p then s.mapPd p Drive.claimOver else s

/-- A drive's outstanding notice queued again if its state still calls for it; the record is cleared first. -/
def State.requeueOutstanding (s : State) (p : Pan) : State :=
  let d := s.drive p
  let t := s.mapPd p fun d => { d with outstanding := none }
  let entryIs (f : EntryState → Bool) : Bool := (s.ownEntry p).any fun e => f e.state
  match d.outstanding with
  | some .raised =>
    if d.state = .up && entryIs (· = .claimed) then
      t.sendDrive p (.raised (panCode p) ((d.role.map roleCode).getD 0)) .raised
    else t
  | some .yield => if d.state = .down && entryIs (fun x => x != .down && x != .blocked) then t.sendYield p
    else t.endCancelled p
  | some .dropFalling =>
    if d.state = .dropped && entryIs (· != .dropping) then t.sendDrive p (.drop (panCode p) 0) .dropFalling else t
  | some .dropBlocked => if d.state = .blocked && entryIs (· != .blocked) then t.sendBlocked p else t
  | none => t

end Sys2Proof.Machine
end

