-- ==== Sys2Proof/Machine/Switchgear.lean ====
section
/-! DEFINITION. The switchgear (chapter 5): the window result and the stable class, the selector and its legs, the
isolators and their moves, line supervision and the dead-line timer. -/

namespace Sys2Proof.Machine

/-! ## The classifier (R94, R95) -/

/-- The halves agree (R94): both counts at least 1, and the larger mean no more than 1.2 times the smaller. -/
def Accumulators.agree (a : Accumulators) : Bool :=
  let hi := a.highSum / a.highCount
  let lo := a.lowSum / a.lowCount
  1 ≤ a.highCount && 1 ≤ a.lowCount && max hi lo * 10 ≤ min hi lo * 12

/-- The window result (R94), from the accumulators and whether LV stands in SIGNAL at the expiry. -/
def Accumulators.result (a : Accumulators) (signal : Bool) : LineClass :=
  let mean := a.voltageSum * 10 / a.voltageCount
  let crossings := a.highCount + a.lowCount
  let half := (a.highSum + a.lowSum) / crossings
  if a.voltageCount = 0 || a.lvInvalid || !signal then .unclear
  else if a.zxOverrun then .unclear
  else if mean < 50 then .dead
  else if a.agree && 9500 ≤ half && half ≤ 10500 && 1750 ≤ mean && mean ≤ 2900 then .live .ac25
  else if a.agree && 28500 ≤ half && half ≤ 31500 && 1100 ≤ mean && mean ≤ 1800 then .live .ac15
  else if crossings = 0 && 200 ≤ mean && mean ≤ 390 then .live .dc3
  else if crossings = 0 && 100 ≤ mean && mean ≤ 195 then .live .dc15
  else .unclear

/-- The line class record after a window result (R95). -/
def LineRecord.take (l : LineRecord) (r : LineClass) : LineRecord :=
  let n := if l.runClass = some r then min 3 (l.runLength + 1) else 1
  ⟨some r, some r, n, if n = 3 then r else l.stable⟩

/-! ## Faults of the SG (R104, R109) -/

/-- A fault of the SG with the FAULT reason added: SELECTOR_TIMEOUT, ISOLATOR_TIMEOUT, VOLTAGE_MISMATCH (R104, R109), the fault
before the BREAKER_REASONS of its reason by the model's choice (notes/assumptions/79.md). The coding of the detail byte is free
(notes/assumptions/8.md). -/
def State.gearFault (s : State) (k : FaultKind) (d : FaultDetail) (p : Option Pan) : State :=
  (s.raiseFault k d p (Config.faultDetailByte d)).addReason .fault

/-! ## The selector (R96 to R99) -/

/-- The position the selector feedback shows (R96). -/
def State.selShown (s : State) : Option SelPos := selShows s.sg.selector.contacts

/-- The next leg from a confirmed position towards a target (R97). -/
def nextLeg : Option SelPos → SelPos → Option SelPos
  | some .opn, .ac => some .ac
  | some .opn, .dc => some .dc
  | some .opn, .opn => none
  | some .ac, .ac => none
  | some .dc, .dc => none
  | _, _ => some .opn

/-- The SG's answer handed to the CU (R97, R98, R130). -/
def State.answerCu (s : State) (b : Bool) : State := s.mapCu fun c => { c with selAnswer := some b }

/-- The selector settled: not busy, no target, no leg, the timer stopped. -/
def Selector.atRest (x : Selector) (confirmed : Option SelPos) : Selector :=
  { x with confirmed := confirmed, target := none, leg := none, before := none, busy := false, legTimer := none }

/-- A leg started (R97). -/
def State.startLeg (s : State) (dest : SelPos) : State :=
  (s.mapSg fun g => { g with selector := { g.selector with
    leg := some dest, before := g.selector.confirmed, confirmed := none, busy := true, legTimer := s.timerFor 3000000 } }).raiseEvent
    (.selectorState none (some dest))

/-- A selector position requested by the CU (R97, R130): declined unless every fitted drive is DOWN or BLOCKED. A request for
the position the selector already has leaves the target none by the model's choice (notes/assumptions/54.md), and its "selector
confirmed" stands until the CU takes it among the hand-offs of the step (State.takeAnswer; notes/assumptions/83.md). -/
def State.requestSelector (s : State) (dest : SelPos) : State :=
  if s.allDown then
    let t := s.mapCu fun c => { c with selRequest := .asked, selAnswer := none }
    if s.sg.selector.busy then t.mapSg fun g => { g with selector := { g.selector with target := some dest } }
    else
      match nextLeg s.sg.selector.confirmed dest with
      | none => t.answerCu true
      | some leg => (t.mapSg fun g => { g with selector := { g.selector with target := some dest } }).startLeg leg
  else s.mapCu fun c => { c with selRequest := .declined }

/-- The arrival of a leg when the feedback shows its destination (R98). -/
def State.selectorArrival (s : State) : State :=
  match s.sg.selector.leg with
  | none => s
  | some dest =>
    if s.selShown = some dest then
      if s.sg.selector.target = some dest then
        ((s.mapSg fun g => { g with selector := g.selector.atRest (some dest) }).raiseEvent
          (.selectorState (some dest) none)).answerCu true
      else
        let t := (s.mapSg fun g => { g with selector := { g.selector with confirmed := some dest, leg := none, legTimer := none } }).raiseEvent
          (.selectorState (some dest) none)
        match s.sg.selector.target.bind (nextLeg (some dest)) with
        | some leg => t.startLeg leg
        | none => t.mapSg fun g => { g with selector := g.selector.atRest (some dest) }
    else s

/-- The feedback watched while the selector is not busy (R99). A contact change at which the feedback goes on showing no
position, with a confirmed position restored by a leg's timeout, counts as its coming to show none by the model's choice
(notes/assumptions/66.md). -/
def State.selectorWatch (s : State) : State :=
  if s.sg.selector.busy || s.selShown = s.sg.selector.confirmed then s
  else (s.mapSg fun g => { g with selector := { g.selector with confirmed := s.selShown } }).raiseEvent (.selectorFeedback s.selShown)

/-- A leg stopped at a supply fall (R99) or on entry to OFFLINE (R96). -/
def State.stopLeg (s : State) : State :=
  if s.sg.selector.busy then s.mapSg fun g => { g with selector := g.selector.atRest s.selShown } else s

/-! ## The isolators (R100 to R102) -/

/-- The isolator of a pantograph changed. -/
def State.mapIso (s : State) (p : Pan) (f : Isolator → Isolator) : State :=
  s.mapSg fun g => { g with iso := g.iso.set p (f (g.iso.get p)) }

/-- The drive states, and the confirmed positions of the isolators, as the tests of R135 and R158 see them. -/
def State.driveStates (s : State) : Pair DriveState := ⟨s.pd.p0.state, s.pd.p1.state⟩

def State.isoPositions (s : State) : Pair (Option IsoPos) := ⟨s.sg.iso.p0.confirmed, s.sg.iso.p1.confirmed⟩

/-- Whether a pantograph's isolator may move: it is fitted and its drive is DOWN or BLOCKED (R101). -/
def State.isoFree (s : State) (p : Pan) : Bool :=
  s.fitted p && ((s.drive p).state = .down || (s.drive p).state = .blocked)

/-- An isolator that is not moving served towards its request (R101): complete, started, or held. -/
def State.serveIso (s : State) (p : Pan) : State :=
  let i := s.sg.iso.get p
  match i.moving, i.requested with
  | none, some pos =>
    if i.confirmed = some pos then s.mapIso p fun i => { i with requested := none, askedIu := false, askedCu := false }
    else if s.isoFree p then
      (s.mapIso p fun i => { i with moving := some pos, confirmed := none, moveTimer := s.timerFor 2000000 }).raiseEvent
        (.isolatorState p none (some pos))
    else s
  | _, _ => s

/-- A position requested by the IU or the CU (R101). -/
def State.requestIso (s : State) (p : Pan) (pos : IsoPos) (byIu : Bool) : State :=
  (s.mapIso p fun i => { i with requested := some pos, askedIu := i.askedIu || byIu, askedCu := i.askedCu || !byIu }).serveIso p

/-- The arrival of a move when the feedback shows its destination (R102), and the next move if another is asked. -/
def State.isoArrival (s : State) (p : Pan) : State :=
  let i := s.sg.iso.get p
  match i.moving with
  | none => s
  | some dest =>
    if isoShows i.contacts = some dest then
      ((s.mapIso p fun i => { i with confirmed := some dest, moving := none, moveTimer := none }).raiseEvent
        (.isolatorState p (some dest) none)).serveIso p
    else s

/-- The feedback watched while the isolator is not moving (R102). -/
def State.isoWatch (s : State) (p : Pan) : State :=
  let i := s.sg.iso.get p
  if i.moving.isSome || isoShows i.contacts = i.confirmed then s
  else (s.mapIso p fun i => { i with confirmed := isoShows i.contacts }).raiseEvent (.isolatorFeedback p (isoShows i.contacts))

/-- "isolator failed" handed to the units that wait (R102, R135, R158, R161): the CU asks no more for the pantograph in the
round; a scraper record in OPENING or CLOSING for it is barred and returns to NONE. -/
def State.isoFails (s : State) (p : Pan) : State :=
  let i := s.sg.iso.get p
  let t := s.mapIso p fun i => { i with
    confirmed := isoShows i.contacts, moving := none, requested := none, moveTimer := none, askedIu := false, askedCu := false }
  let u := if i.askedCu then t.mapCu fun c => { c with isoFailed := c.isoFailed.set p true } else t
  let sc := s.iu.scraper
  if i.askedIu && sc.pan = some p && (sc.phase = .opening || sc.phase = .closing) then
    (u.mapIu fun i => { i with scraper := { i.scraper with barred := i.scraper.barred.set p true } }).scraperTo .none
  else u

/-! ## Supervision (R107, R108) -/

/-- Whether an own drive is UP as a collector. -/
def State.upCollector (s : State) (p : Pan) : Bool :=
  s.fitted p && (s.drive p).state = .up && (s.drive p).role = some .collector

/-- Whether any own drive is UP as a collector. -/
def State.anyCollector (s : State) : Bool := s.upCollector .p0 || s.upCollector .p1

/-- The supervised collector of lowest number, if supervision is active (R107). -/
def State.supervised (s : State) : Option Pan :=
  if s.ru.regime.system = none then none
  else [Pan.p0, Pan.p1].find? fun p => s.upCollector p && (s.sg.iso.get p).confirmed = some .closed

/-- A mismatch under active supervision (R107). -/
def State.mismatch (s : State) : Bool :=
  s.supervised.isSome && s.sg.line.stable != .dead && some s.sg.line.stable != s.ru.regime.system.map LineClass.live

/-- The test of supervision: VOLTAGE_MISMATCH at a new mismatch (R107). -/
def State.supervise (s : State) : State :=
  let t := s.mapSg fun g => { g with mismatchHeld := s.mismatch }
  if s.mismatch && !s.sg.mismatchHeld then
    t.gearFault .voltageMismatch (.voltage s.supervised s.sg.line.stable s.ru.regime.system) s.supervised
  else t

/-- Whether an own UP collector lies inside a queued section (R108). -/
def State.collectorInside (s : State) : Bool :=
  [Pan.p0, Pan.p1].any fun p => s.upCollector p && s.sq.entries.any fun e => s.inside e (s.panDistance p)

/-- The three conditions of the dead-line timer (R108). -/
def State.deadLine (s : State) : Bool := s.supervised.isSome && s.sg.line.stable = .dead && !s.collectorInside

/-- The dead-line timer started when the three come to hold, stopped when one ceases (R108). -/
def State.watchDeadLine (s : State) : State :=
  s.mapSg fun g => { g with
    deadHeld := s.deadLine
    deadLineTimer := if s.deadLine then (if g.deadHeld then g.deadLineTimer else s.timerFor 2000000) else none }

end Sys2Proof.Machine
end

