-- ==== Sys2Proof/Machine/Sections.lean ====
section
/-! DEFINITION. The section unit (chapter 6): intake, removal and flush of entries, the neutral hold and its breaker test,
the raise-hold flags, and the proposal for the head SYSTEM entry. -/

namespace Sys2Proof.Machine

/-- The most section entries (R110). -/
def sectionCapacity : Nat := 8

/-- Point a is not after point b, compared as R90 compares (R110, R113). -/
def notAfter (a b : Word32) : Bool := (b - a).toNat < 2147483648

/-- Two entries overlap when their ranges, each extended by 50 m at both ends, meet (R113). -/
def SectionEntry.overlaps (a b : SectionEntry) : Bool :=
  notAfter (moved a.start (-50)) (moved b.finish 50) && notAfter (moved b.start (-50)) (moved a.finish 50)

/-- An entry put in its place in ascending order of start (R110). -/
def putSection (e : SectionEntry) : List SectionEntry → List SectionEntry
  | [] => [e]
  | x :: rest => if notAfter e.start x.start then e :: x :: rest else x :: putSection e rest

/-- Whether a queued notice is this station's automatic CO-PROPOSE for a section (R119, R122). -/
def isProposalFor (k : SectionKey) (q : QueuedNotice) : Bool :=
  !q.host &&
    match q.notice with
    | .coPropose _ _ o i _ _ => o = k.origin && i = k.localId
    | _ => false

/-- Entries removed; an automatic proposal of one still waiting is withdrawn (R119). -/
def State.removeSections (s : State) (p : SectionEntry → Bool) : State :=
  (s.sq.entries.filter p).foldl (fun t e => t.withdraw (isProposalFor e.key))
    (s.mapSq fun q => { q with entries := q.entries.filter fun e => !p e })

/-- The queue emptied at a change of direction, with SECTION_FLUSH (R116). -/
def State.flushSections (s : State) : State :=
  (s.removeSections fun _ => true).raiseEvent (.sectionFlush s.sq.entries.length)

/-- A SYSTEM to the regime's own system is taken as a NEUTRAL (R112). -/
def State.rewrite (s : State) (e : SectionEntry) : SectionEntry :=
  match e.kind, s.ru.regime.system with
  | .system t, some r => if t = r then { e with kind := .neutral, rewritten := true } else e
  | _, _ => e

/-- The queue rewritten when the regime settles (R112). -/
def State.rewriteSections (s : State) : State := s.mapSq fun q => { q with entries := q.entries.map s.rewrite }

/-- An entry inserted, or refused with SECTION_REFUSED when 8 are held (R113). -/
def State.insertSection (s : State) (e : SectionEntry) : State :=
  if s.sq.entries.length < sectionCapacity then s.mapSq fun q => { q with entries := putSection e q.entries }
  else s.raiseEvent (.sectionRefused e.key)

/-- The intake of a new entry (R113). SECTION_CONFLICT carries the key of the first SYSTEM of a different target in queue
order by the model's choice (notes/assumptions/55.md). -/
def State.intake (s : State) (e : SectionEntry) : State :=
  let meets := s.sq.entries.filter fun x => x.overlaps e
  if s.sq.entries.any fun x => x.key = e.key then s
  else
    match e.kind with
    | .neutral => if meets.isEmpty then s.insertSection e else s
    | .system _ =>
      match meets.find? fun x => x.kind != .neutral && x.kind != e.kind with
      | some x => s.raiseEvent (.sectionConflict e.key x.key)
      | none =>
        if meets.any fun x => x.kind = e.kind then s
        else (s.removeSections fun x => x.overlaps e).insertSection e

/-- The kind a SECTION's kind and target codes name: none for a kind above 1 and for a target without a code (R188), and for a
SYSTEM to NONE by the model's choice (notes/assumptions/21.md). A NEUTRAL with the code of a system, to which R110 gives no
target, is taken as a NEUTRAL by the model's choice (notes/assumptions/68.md). -/
def sectionKindOf (k tg : Byte) : Option SectionKind :=
  if 4 < tg.toNat then none
  else if k = 0 then some .neutral
  else if k = 1 then (supplyOf tg).map .system
  else none

/-- A SECTION notice applied (R112, R188). A key whose origin is no station number is taken as it stands by the model's choice
(notes/assumptions/56.md). -/
def State.applySection (s : State) (o i k tg : Byte) (distance length : Word16) : State :=
  match sectionKindOf k tg with
  | none => s
  | some kind =>
    let start := s.mu.odo.metres + distance.setWidth 32
    s.intake (s.rewrite ⟨⟨o, i⟩, kind, false, start, start + length.setWidth 32, ⟨false, false⟩, false⟩)

/-- Entries the whole train has passed removed at a metre step (R115). -/
def State.passSections (s : State) : State :=
  s.removeSections fun e => s.reached (moved e.finish (s.trainLength + 20))

/-! ## Neutral sections (R117, R118) -/

/-- Whether the SQ holds NEUTRAL: an own UP collector within the neutral span of a NEUTRAL entry (R117). -/
def State.neutralHeld (s : State) : Bool :=
  [Pan.p0, Pan.p1].any fun p =>
    s.upCollector p && s.sq.entries.any fun e => e.kind = .neutral && s.inSpan e (s.panDistance p)

/-- NEUTRAL added or removed as it holds (R117). -/
def State.holdNeutral (s : State) : State := if s.neutralHeld then s.addReason .neutral else s.removeReason .neutral

/-- A collector inside a NEUTRAL entry with the breaker not confirmed open is ordered down; BREAKER_LATE is raised once for
an entry and pantograph (R118). -/
def State.neutralTest (s : State) (p : Pan) : State :=
  if s.upCollector p && !s.sg.breakerOpen then
    match s.sq.entries.find? fun e => e.kind = .neutral && s.inside e (s.panDistance p) with
    | none => s
    | some e =>
      let t := s.orderDown p .lateBreaker
      if e.late.get p then t
      else
        (t.mapSq fun q => { q with entries := q.entries.map fun x =>
          if x.key = e.key then { x with late := x.late.set p true } else x }).raiseFault .breakerLate
          (.breakerSection p e.key) (some p) e.key.localId
  else s

/-- The raise-hold flags as they follow from the queue (R120); a pantograph that is not fitted has none. -/
def State.holdRaises (s : State) : State :=
  let flag (p : Pan) : Bool := s.fitted p && s.held (s.panDistance p)
  s.mapSq fun q => { q with raiseHold := ⟨flag .p0, flag .p1⟩ }

/-! ## Proposals (R121, R122) -/

/-- The target of a SYSTEM entry. -/
def SectionEntry.target (e : SectionEntry) : Option Supply :=
  match e.kind with
  | .system t => some t
  | .neutral => none

/-- The head SYSTEM entry (R121). -/
def State.headSystem (s : State) : Option SectionEntry := s.sq.entries.find? fun e => e.kind != .neutral

/-- The proposed flag of an entry set or cleared. -/
def State.markProposed (s : State) (k : SectionKey) (b : Bool) : State :=
  s.mapSq fun q => { q with entries := q.entries.map fun e => if e.key = k then { e with proposed := b } else e }

/-- A distance to a point ahead in 16 bits, 0 when it is reached, limited to 65,535 (R121). -/
def State.distanceTo (s : State) (x : Word32) : Word16 :=
  if s.reached x then 0 else BitVec.ofNat 16 (min 65535 (x - s.mu.odo.metres).toNat)

/-- CO-PROPOSE for the head SYSTEM entry when its conditions hold (R121); one dropped with TX_LOST clears the flag (R122), and
one dropped without an event behind the vented LEAVE leaves it set by the model's choice (notes/assumptions/57.md). -/
def State.autoPropose (s : State) : State :=
  match s.headSystem with
  | none => s
  | some e =>
    match e.target with
    | none => s
    | some target =>
      if s.rlp.port = .online && !e.proposed && !s.cu.isOpen && some target != s.ru.regime.system &&
          s.reached (moved e.start (s.frontDistance - s.proposalDistance)) then
        (s.markProposed e.key true).sendOr
          (.coPropose (s.cu.number + 1) (supplyCode target) e.key.origin e.key.localId (s.distanceTo e.start)
            ((e.finish - e.start).setWidth 16)) fun t => t.markProposed e.key false
      else s

/-- What the tests of R121 see (R114), and the port state for the test at SETTLING_END (notes/assumptions/67.md). -/
def State.sectionView (s : State) : SectionView where
  port := s.rlp.port
  metres := s.mu.odo.metres
  keys := s.sq.entries.map fun e => e.key
  drives := ⟨(s.pd.p0.state, s.pd.p0.role), (s.pd.p1.state, s.pd.p1.role)⟩
  breakerOpen := s.sg.breakerOpen
  system := s.ru.regime.system
  direction := s.ru.regime.direction

/-- The test of R121 at an event of R114, and at no other moment: a proposal lost waits for the next event (R122). -/
def State.testProposal (s : State) : State :=
  if s.sq.tested = some s.sectionView then s
  else (s.mapSq fun q => { q with tested := some s.sectionView }).autoPropose

/-- The opening or closing of a round, an event of R114 and of R158. -/
def State.roundMoves (s : State) : State :=
  (s.mapSq fun q => { q with tested := none }).mapIu fun i => { i with tested := none }

/-- A round's section key told to the section unit (R122): the entry of the key is marked proposed and its own proposal
withdrawn; another entry whose proposal still waits loses the proposal and the flag. -/
def State.sectionsAtOpening (s : State) (k : Option SectionKey) : State :=
  (s.sq.entries.foldl
    (fun t e =>
      if k = some e.key then (t.withdraw (isProposalFor e.key)).markProposed e.key true
      else if t.rlp.queue.any (isProposalFor e.key) then (t.withdraw (isProposalFor e.key)).markProposed e.key false
      else t) s).roundMoves

end Sys2Proof.Machine
end

