-- ==== Sys2Proof/Machine/Scraper.lean ====
section
/-! DEFINITION. Ice observation and level (R152 to R155), the scraper run (R158 to R161), and the change of the regime
record with what it is handed to (R38). -/

namespace Sys2Proof.Machine

/-! ## Observation and level -/

/-- The higher of two levels in the order CLEAR, WATCH, SCRAPE (R155). -/
def Ice.max (a b : Ice) : Ice := if iceRank a < iceRank b then b else a

/-- The ice level that follows from the observations (R155); CLEAR in OFFLINE. -/
def State.iceLevel (s : State) : Ice :=
  if s.rlp.port = .offline then .clear
  else
    stations.foldl
      (fun level n =>
        if n != s.own && ((s.peer n).status = .live || (s.peer n).status = .silent) then
          level.max (((tableGet s.iu.table n).getD none).getD .clear)
        else level) s.iu.observation

/-- The ice level written into the regime record, with ICE_LEVEL at a change (R155). -/
def State.refreshIce (s : State) : State :=
  if s.iceLevel = s.ru.regime.ice then s
  else (s.mapRu fun r => { r with regime := { r.regime with ice := s.iceLevel } }).raiseEvent (.iceLevel s.iceLevel)

/-- The own observation changed (R154): the event, the level, and an ICE in place of an earlier one that still waits. -/
def State.observe (s : State) (o : Ice) : State :=
  if o = s.iu.observation then s
  else
    ((((s.mapIu fun i => { i with observation := o }).raiseEvent (.iceObservation o s.iu.forced)).refreshIce).withdraw
      fun q => q.notice.kind = .ice && !q.inAttempt).send (.ice (iceCode o))

/-- The score (R151). -/
def State.score (s : State) : Nat :=
  let sum (p : Pan) : Nat := if s.upCollector p then (s.iu.history.get p).foldl (· + ·) 0 else 0
  Max.max (sum .p0) (sum .p1)

/-- The tests of R152 at a window end with a collector up. -/
def observationTest (score tw ts h : Nat) (o : Ice) : Ice :=
  if ts ≤ score && o != .scrape then .scrape
  else if tw ≤ score && o = .clear then .watch
  else if o = .scrape && score + h < ts then .watch
  else if o = .watch && score + h < tw then .clear
  else o

/-- The rule of R152 at an arc window end. -/
def State.observeWindow (s : State) : State :=
  if s.anyCollector then
    let t := s.mapIu fun i => { i with noCollector := 0 }
    if s.iu.forced then t
    else t.observe (observationTest s.score s.watchThreshold s.scrapeThreshold s.hysteresis s.iu.observation)
  else
    let t := s.mapIu fun i => { i with noCollector := min 8 (i.noCollector + 1) }
    if !s.iu.forced && s.iu.noCollector = 7 then t.observe .clear else t

/-- A window count pushed onto a history of at most 8 (R150). -/
def pushCount (h : List Nat) (n : Nat) : List Nat := (h ++ [n]).drop (h.length - 7)

/-- The window count of a pantograph (R150). -/
def windowCount (r : ArcResult) (tally : Nat) : Nat :=
  match r with
  | .count n => min 65535 (n + tally)
  | .over => 65535

/-- The window counts of own collectors pushed, and every tally returned to 0 (R150). -/
def State.pushWindows (s : State) (r : Pair ArcResult) : State :=
  s.mapIu fun i =>
    let hist (p : Pan) : List Nat :=
      if s.upCollector p then pushCount (i.history.get p) (windowCount (r.get p) (i.tally.get p)) else i.history.get p
    { i with history := ⟨hist .p0, hist .p1⟩, tally := ⟨0, 0⟩ }

/-- The arc window end at the IU (R150 to R152). -/
def State.arcWindowEnd (s : State) (r : Pair ArcResult) : State := (s.pushWindows r).observeWindow

/-! ## The scraper run -/

/-- The conditions of R158 for a pantograph that its own claim in contest leaves as they are. -/
def State.scraperStill (s : State) (p : Pan) : Bool :=
  s.rlp.port = .online && s.ru.regime.ice = .scrape && !s.cu.isOpen && s.ru.regime.system != none &&
    !s.iu.scraper.barred.get p && (s.drive p).state = .down && (s.drive p).enable && s.iu.scraper.retry = none

/-- The conditions of R158 for a pantograph. -/
def State.scraperMay (s : State) (p : Pan) : Bool :=
  s.scraperStill p && !s.occupyingRole .scraper && (s.scraperCandidate.any fun e => e.station = s.own && e.pan = p) &&
    (s.drive p).claimStage = .idle

/-- A scraper run started (R158): OPENING is entered, and then OPEN requested. -/
def State.startScraper (s : State) : State :=
  match [Pan.p0, Pan.p1].find? fun p => s.fitted p && s.scraperMay p with
  | some p =>
    if s.iu.scraper.phase = .none then
      ((s.mapIu fun i => { i with scraper := { i.scraper with pan := some p } }).scraperTo .opening).requestIso p .opn true
    else s
  | none => s

/-- CLOSING entered (R158, R161), with its SCRAPER_STATE before the ISOLATOR_STATE of the request by the model's choice
(notes/assumptions/85.md). -/
def State.closeScraper (s : State) (p : Pan) : State :=
  (s.scraperTo .closing).requestIso p .closed true

/-- The IU ends the run (R160), with the SCRAPER_STATE of LOWERING before the DRIVE_STATE, or the YIELD, of the order down by the
model's choice (notes/assumptions/85.md). -/
def State.endScraper (s : State) : State :=
  match s.iu.scraper.phase, s.iu.scraper.pan with
  | .claiming, some p | .raising, some p | .working, some p => (s.scraperTo .lowering).orderDown p .scraper
  | _, _ => s

/-- The scraper run at a round's opening (R128, R145): OPENING meets a false condition of R158 and goes on to CLOSING, and the
phases of R160 end. -/
def State.scraperMeetsRound (s : State) : State :=
  match s.iu.scraper.phase, s.iu.scraper.pan with
  | .opening, some p => s.closeScraper p
  | _, _ => s.endScraper

/-- The scraper stands ahead by at least G of every occupying non-scraper entry (R160). -/
def State.scraperAhead (s : State) (p : Pan) : Bool :=
  (s.ownEntry p).any fun e => s.nonScrapers.all fun x => s.aheadBy e x s.scraperGap

/-- A cause of R160 holds; a change of direction is handed on by the regime. -/
def State.scraperMustEnd (s : State) (p : Pan) : Bool :=
  s.ru.regime.ice != .scrape || s.cu.isOpen || s.ru.regime.system = none || !s.scraperAhead p

/-- The claim asked for in CLAIMING (R158, R159). -/
def State.askScraper (s : State) : State :=
  match s.iu.scraper.phase, s.iu.scraper.pan with
  | .claiming, some p => if s.scraperMay p then (s.askClaim p .scraper).1 else s
  | _, _ => s

/-- One passage of the scraper record as its drive, its isolator and the conditions stand (R158 to R161). A record that has
returned to OPENING (R159) has its refused claim still in contest, and the test leaves out what that claim makes false
(notes/assumptions/47.md). -/
def State.followScraper (s : State) : State :=
  match s.iu.scraper.pan with
  | none => s
  | some p =>
    let d := (s.drive p).state
    let iso := (s.sg.iso.get p).confirmed
    match s.iu.scraper.phase with
    | .opening =>
      if !(if (s.drive p).claimStage = .cancelled then s.scraperStill p else s.scraperMay p) then s.closeScraper p
      else if iso = some .opn then s.scraperTo .claiming
      else s
    | .claiming =>
      if d = .raising && (s.drive p).role = some .scraper then s.scraperTo .raising
      else if d != .down then s.scraperTo .lowering
      else if s.scraperMustEnd p then s.endScraper
      else s
    | .raising =>
      if d = .up then s.scraperTo .working
      else if d != .raising then s.scraperTo .lowering
      else if s.scraperMustEnd p then s.endScraper
      else s
    | .working =>
      if d != .up then s.scraperTo .lowering else if s.scraperMustEnd p then s.endScraper else s
    | .lowering =>
      if d = .down || d = .blocked then (if iso = some .closed then s.scraperTo .none else s.closeScraper p) else s
    | .closing => if iso = some .closed then s.scraperTo .none else s
    | .none => s

/-- What the tests of R158 see. -/
def State.scraperView (s : State) : ScraperView where
  port := s.rlp.port
  regime := s.ru.regime
  roster := s.ru.roster
  candidate := s.scraperCandidate.map fun e => (e.station, e.pan)
  drives := s.driveStates
  isOpen := s.cu.isOpen
  isolators := s.isoPositions
  retrying := s.iu.scraper.retry.isSome

/-- The test of R158 at an event that the rule lists, and at no other moment: a run started, and the drive asked in CLAIMING,
again after a claim declined or lost (R159; notes/assumptions/7.md). A run whose isolator stands OPEN already asks in the step
that starts it. -/
def State.testScraper (s : State) : State :=
  if s.iu.tested = some s.scraperView then s
  else (s.mapIu fun i => { i with tested := some s.scraperView }).startScraper.followScraper.askScraper

/-- The go-ahead refused for an isolator not confirmed OPEN returns the record to OPENING (R159). -/
def State.scraperReopens (s : State) (p : Pan) : State :=
  if s.iu.scraper.phase = .claiming && s.iu.scraper.pan = some p && (s.drive p).claimStage = .cancelled &&
      s.iu.scraper.retry = none then
    (s.scraperTo .opening).requestIso p .opn true
  else s

/-! ## The regime (R38) -/

/-- A change of system, band or direction, with REGIME_CHANGED and what it is handed to: a change of direction flushes the
sections and ends a scraper run, a system become NONE orders every drive down (R38, R68, R116, R160). REGIME_CHANGED stands before
the SECTION_FLUSH, SCRAPER_STATE and DRIVE_STATE of these, which stand in this order, by the model's choice
(notes/assumptions/80.md). The setpoints, supervision, candidates and demand follow at the end of the step. -/
def State.changeRegime (s : State) (system : Option Supply) (band : Fin 4) (direction : Direction) : State :=
  let old := s.ru.regime
  if old.system = system ∧ old.band = band ∧ old.direction = direction then s
  else
    let t := (s.mapRu fun r => { r with regime := { r.regime with system := system, band := band, direction := direction } }).raiseEvent
      (.regimeChanged system band direction)
    let u := if old.direction = direction then t else t.flushSections.endScraper
    if system = none && old.system != none then u.orderAllDown .regimeNone else u

/-- The regime system changed. -/
def State.setSystem (s : State) (system : Option Supply) : State :=
  s.changeRegime system s.ru.regime.band s.ru.regime.direction

end Sys2Proof.Machine
end

