-- ==== Sys2Proof/Machine/Heat.lean ====
section
/-! DEFINITION. The heat grant list, its effective budget and the station's demand (R162 to R166), and the heaters (R167,
R168). -/

namespace Sys2Proof.Machine

/-- A grant set in the list, kept in ascending order of station (R162); 0 removes the entry. -/
def putGrant (n units : Nat) : List Grant → List Grant
  | [] => if units = 0 then [] else [⟨n, units⟩]
  | g :: rest =>
    if g.station = n then (if units = 0 then rest else ⟨n, units⟩ :: rest)
    else if n < g.station then (if units = 0 then g :: rest else ⟨n, units⟩ :: g :: rest)
    else g :: putGrant n units rest

/-- A station's grant, 0 without an entry (R162). -/
def State.grantOf (s : State) (n : Nat) : Nat :=
  match s.iu.grants.find? fun g => g.station = n with
  | some g => g.units
  | none => 0

/-- The own grant. -/
def State.ownGrant (s : State) : Nat := s.grantOf s.own

/-- The sum of a list's units. -/
def unitSum (gs : List Grant) : Nat := gs.foldl (fun n g => n + g.units) 0

/-- How many roster entries are UP as collectors (R164). -/
def State.upEntries (s : State) : Nat := s.ru.roster.countP fun e => e.state = .up && e.role = some .collector

/-- The effective budget E (R164). -/
def State.effectiveBudget (s : State) : Nat :=
  if s.cu.isOpen then 0
  else
    match s.upEntries with
    | 0 => 0
    | 1 => s.heatBudget / 2
    | _ => s.heatBudget

/-- The longest prefix whose units sum to no more than a budget (R164). -/
def activePrefix (budget : Nat) : List Grant → List Grant
  | [] => []
  | g :: rest => if g.units ≤ budget then g :: activePrefix (budget - g.units) rest else []

/-- The active grants (R164). -/
def State.activeGrants (s : State) : List Grant := activePrefix s.effectiveBudget s.iu.grants

/-- Whether the own grant is usable: active, with no own HEAT-TAKE in contest (R164). -/
def State.grantUsable (s : State) : Bool :=
  (s.activeGrants.any fun g => g.station = s.own) &&
    s.ru.contests.all fun c => !(c.target.kind = .heatTake && c.target.station = s.own)

/-- The need (R165). -/
def State.need (s : State) : Nat :=
  let part (p : Pan) : Nat := if s.fitted p && (s.iu.heaters.get p).inService then s.heaterRating p else 0
  min 15 (part .p0 + part .p1)

/-- Whether there is demand (R165). -/
def State.demands (s : State) : Bool := s.ru.regime.ice != .clear || s.iu.hostHeat

/-- The demand followed: the release timer starts when demand ends with a grant held, and stops when it begins (R166). -/
def State.followDemand (s : State) : State :=
  if s.demands = s.iu.demand then s
  else s.mapIu fun i => { i with
    demand := s.demands, release := if s.demands then none else if 1 ≤ s.ownGrant then s.timerFor 60000000 else i.release }

/-- Usability followed, with HEAT_STATE at a change (R164); a grant that ceases to be usable cuts both heaters off (R167). It
is called at each change of the list, of the UP collectors and of the round's open flag. -/
def State.followUsable (s : State) : State :=
  if s.grantUsable = s.iu.usable then s
  else
    (s.mapIu fun i => { i with
      usable := s.grantUsable
      heaters :=
        if s.grantUsable then i.heaters else ⟨{ i.heaters.p0 with cut := true }, { i.heaters.p1 with cut := true }⟩ }).raiseEvent
      (.heatState s.grantUsable)

/-- A station's grant set; HEAT_GRANT is raised at a change of the own grant (R162, R163), before the HEAT_STATE that the change
can bring (R164) by the model's choice (notes/assumptions/79.md). -/
def State.setGrant (s : State) (n units : Nat) : State :=
  let t := s.mapIu fun i => { i with grants := putGrant n units i.grants }
  (if n = s.own && units != s.ownGrant then t.raiseEvent (.heatGrant units) else t).followUsable

/-- The shadow duty of a heater (R167). -/
def State.shadowDuty (s : State) (h : Heater) : Nat :=
  if !h.inService || !s.demands || !s.grantUsable then 0
  else if s.iu.hostHeat then 16
  else if s.ru.regime.ice = .scrape then s.scrapeDuty
  else if s.ru.regime.ice = .watch then s.watchDuty
  else 0

/-- A heater record changed. -/
def State.mapHeater (s : State) (p : Pan) (f : Heater → Heater) : State :=
  s.mapIu fun i => { i with heaters := i.heaters.set p (f (i.heaters.get p)) }

/-- The shadow duties of the fitted heaters recomputed (R167). -/
def State.refreshDuties (s : State) : State :=
  s.eachFitted fun p t => t.mapHeater p fun h => { h with shadow := t.shadowDuty h }

/-- The heat retry timer started, take-pending clear (R165). -/
def State.takeFails (s : State) : State :=
  s.mapIu fun i => { i with takePending := false, heatRetry := s.timerFor 5000000 }

/-- HEAT-TAKE queued when its conditions hold (R165). One dropped without an event, behind the vented LEAVE (R14), leaves
take-pending set by the model's choice (notes/assumptions/71.md). -/
def State.askHeat (s : State) : State :=
  if s.transmits && s.demands && 1 ≤ s.need && s.ownGrant < s.need && !s.iu.takePending && s.iu.heatRetry = none then
    (s.mapIu fun i => { i with takePending := true }).sendOr (.heatTake (BitVec.ofNat 8 s.need)) State.takeFails
  else s

/-- What the test of R165 sees. -/
def State.heatView (s : State) : HeatView := ⟨s.demands, s.need, s.ownGrant, s.rlp.port⟩

/-- The test of R165 at a change of the demand, the need, the own grant or the port state, or at the expiry of the retry
timer, and at no other moment. -/
def State.testHeat (s : State) : State :=
  if s.iu.asked = some s.heatView then s else (s.mapIu fun i => { i with asked := some s.heatView }).askHeat

/-- A refusal of the own HEAT-TAKE (R165). -/
def State.refuseHeat (s : State) (reason : Byte) : State := (s.takeFails).raiseEvent (.heatRefused reason)

/-- HEAT-GIVE queued; one dropped with TX_LOST is recorded (R166), in place of one recorded before by the model's choice
(notes/assumptions/76.md). -/
def State.giveHeat (s : State) (units : Nat) : State :=
  s.sendOr (.heatGive (BitVec.ofNat 8 units)) fun t => t.mapIu fun i => { i with giveLost := some units }

/-- A lost HEAT-GIVE queued again if the own grant still exceeds its units; the record is cleared (R166). -/
def State.requeueGive (s : State) : State :=
  let t := s.mapIu fun i => { i with giveLost := none }
  match s.iu.giveLost with
  | some n => if n < s.ownGrant then t.giveHeat n else t
  | none => t

/-- A heater period begun (R167), with the thermal input as it stands (notes/assumptions/17.md). -/
def State.beginHeaterPeriod (s : State) (p : Pan) (start : Moment) (thermal : Bool) : State :=
  s.mapHeater p fun h => { h with
    cut := false, active := s.shadowDuty h, shadow := s.shadowDuty h, periodStart := start, periodTimer := some (start + 1000000)
    enable := h.enable || (h.inService && !thermal && !s.sc.supplyLow) }

/-- A thermal trip (R168): the enable cleared, trip times older than 60 s dropped, this one added; the third within them
takes the heater out of service. -/
def State.tripHeater (s : State) (p : Pan) : State :=
  let trips := (s.iu.heaters.get p).trips.filter (fun x => s.now ≤ x + 60000000) ++ [s.now]
  if trips.length < 3 then s.mapHeater p fun h => { h with enable := false, trips := trips }
  else
    let t := (s.mapHeater p fun h => { h with enable := false, trips := [], inService := false }).raiseFault .heaterTrip
      (.heater p) (some p) 3
    if t.need < t.ownGrant then t.giveHeat t.need else t

end Sys2Proof.Machine
end

