-- ==== Sys2Proof/Machine/Round.lean ====
section
/-! DEFINITION. The changeover unit (chapter 7): round numbers, opening, phases, the probe, closing with catch-up, late
learning and adoption. -/

namespace Sys2Proof.Machine

/-! ## Numbers (R124) -/

/-- The record has never held a round (R124). -/
def State.neverHeld (s : State) : Bool := s.cu.outcome = .none && !s.cu.isOpen

/-- A round number is newer than the record's (R124). -/
def State.newer (s : State) (n : Byte) : Bool :=
  s.neverHeld ||
    if s.cu.mod64 then n.toNat % 64 != s.cu.number.toNat
    else 1 ≤ (n - s.cu.number).toNat && (n - s.cu.number).toNat ≤ 127

/-- A CO notice names the current round (R124). -/
def State.namesCurrent (s : State) (n : Byte) : Bool := s.cu.isOpen && !s.cu.mod64 && n = s.cu.number

/-- The adopted number agrees with a full number modulo 64 (R126, R145). -/
def State.agreesAdopted (s : State) (n : Byte) : Bool :=
  s.cu.phase = .adopted && s.cu.mod64 && n.toNat % 64 = s.cu.number.toNat % 64

/-! ## Phases (section 7.2) -/

/-- A phase entered, with ROUND_PHASE, before the events and notices that the entry brings by the model's choice
(notes/assumptions/79.md). -/
def State.phaseTo (s : State) (ph : RoundPhase) : State :=
  (s.mapCu fun c => { c with phase := ph }).raiseEvent (.roundPhase s.cu.number ph)

/-- The position of the selector for a target (R130). -/
def selectorFor : Supply → SelPos
  | .ac25 | .ac15 => .ac
  | .dc3 | .dc15 => .dc

/-- READY entered: CO-READY queued (R131). -/
def State.enterReady (s : State) : State :=
  (s.phaseTo .ready).send (.coReady s.cu.number (systemCode s.cu.target))

/-- SWITCH entered: the selector position of the target requested (R130). -/
def State.enterSwitch (s : State) : State :=
  let t := s.phaseTo .switch
  match s.cu.target with
  | some target => t.requestSelector (selectorFor target)
  | none => t

/-- LOWER entered: the breaker test, and every own drive ordered down with cause ROUND; the station passes on at once where
nothing of its own is up (R129). -/
def State.enterLower (s : State) : State :=
  let t := s.phaseTo .lower
  let u :=
    if !s.allDown && !s.sg.breakerOpen && !s.cu.breakerLate then
      (t.mapCu fun c => { c with breakerLate := true }).raiseFault .breakerLate (.breakerRound s.cu.number) none s.cu.number
    else t
  let w := u.eachFitted fun p v => if (v.drive p).state = .down then v else v.orderDown p .round
  if !s.anyFitted then w.enterReady else if w.allDown then w.enterSwitch else w

/-- The lower point (R128). -/
def State.lowerPointReached (s : State) : Bool :=
  match s.cu.start with
  | none => true
  | some x => s.reached (moved x (s.frontDistance - s.lowerDistance))

/-- The metre-step test of GATHER: LOWER entered at the lower point, and at once without a fitted pantograph (R128). -/
def State.testLower (s : State) : State :=
  if s.cu.phase = .gather && (s.lowerPointReached || !s.anyFitted) then s.enterLower else s

/-- Claims in contest dropped and RAISING drives ordered down (R128). The STANDING claim of a drive that has become BLOCKED in its
window is cancelled as any other, with YIELD and stage CANCELLED, and not left to the DROP, by the model's choice
(notes/assumptions/84.md). -/
def State.dropRaises (s : State) : State :=
  s.eachFitted fun p t => if (t.drive p).state = .raising then t.orderDown p .round else t.cancelClaim p

/-- GATHER entered (R128); the opening handed to the IU takes the effective heat budget to 0 (R164). -/
def State.enterGather (s : State) : State :=
  ((s.phaseTo .gather).addReason .round).dropRaises.scraperMeetsRound.followUsable.testLower

/-! ## Opening (R126, R144) -/

/-- Start and end of a round (R126): from the section queue's entry of the key, or else from the distance and length. -/
def State.roundPoints (s : State) (k : RoundKey) (distance length : Word16) : Option Word32 × Option Word32 :=
  match k with
  | .key k =>
    match s.sq.entries.find? fun e => e.key = k with
    | some e => (some e.start, some e.finish)
    | none =>
      let start := s.mu.odo.metres + distance.setWidth 32
      (some start, some (start + length.setWidth 32))
  | _ => (none, none)

/-- Key, start and end of a round learned without them: the SYSTEM entry of earliest start with the target (R144). -/
def State.learnedPoints (s : State) (target : Supply) : RoundKey × Option Word32 × Option Word32 :=
  match s.sq.entries.find? fun e => e.kind = .system target with
  | some e => (.key e.key, some e.start, some e.finish)
  | none => (.unknown, none, none)

/-- The key as the section unit compares it (R122); a key unknown is as no key by the model's choice
(notes/assumptions/58.md). -/
def queuedKey : RoundKey → Option SectionKey
  | .key k => some k
  | _ => none

/-- A round opened with its number in full, and GATHER entered (R126, R128, R144). Phases that end at once are passed here, up to
SWITCH, or to READY without a fitted pantograph, and a notice that has opened the round is applied in the phase so reached, by
the model's choice (notes/assumptions/83.md). -/
def State.openRound (s : State) (n : Byte) (target : Supply) (k : RoundKey) (a b : Option Word32) : State :=
  (((s.mapCu fun c => { c with
      number := n, mod64 := false, isOpen := true, key := k, target := some target, start := a, finish := b, ready := []
      catchUp := false, breakerLate := false, roundTimer := s.timerFor s.roundTimeout, selRequest := .idle
      selAnswer := none, isoFailed := ⟨false, false⟩, probeReported := false }).raiseEvent
    (.roundOpened n (some target) k false)).sectionsAtOpening (queuedKey k)).enterGather

/-! ## Closing (R138 to R143) -/

/-- Whether a queued notice is this station's CO-PROBE or CO-ABORT for a round (R138, R141). -/
def isCloseOf (n : Byte) (q : QueuedNotice) : Bool :=
  match q.notice with
  | .coProbe m _ _ => m = n
  | .coAbort m _ _ => m = n
  | _ => false

/-- Entries in role PROBE become COLLECTOR, and with its entry the own probe drive (R138). -/
def State.probesToCollectors (s : State) : State :=
  let probe (e : Entry) : Bool := e.occupying && e.role = some .probe
  let own (p : Pan) (d : Drive) : Drive :=
    if d.role = some .probe && (s.ownEntry p).any probe then { d with role := some .collector } else d
  let t := s.mapRu fun r => { r with roster := r.roster.map fun e => if probe e then { e with role := some .collector } else e }
  (t.mapPd .p0 (own .p0)).mapPd .p1 (own .p1)

/-- The own probe ordered down and its claim in contest cancelled (R139). -/
def State.dropProbe (s : State) : State :=
  s.eachFitted fun p t =>
    if (t.drive p).role = some .probe then
      (if (t.drive p).state = .raising || (t.drive p).state = .up then t.orderDown p .round else t.cancelClaim p)
    else t

/-- The record closed: timers stopped, phase NONE (R138, R140). -/
def State.closeRecord (s : State) (o : RoundOutcome) (reason : Option CloseReason) : State :=
  (s.mapCu fun c => { c with
      isOpen := false, outcome := o, closeReason := reason, catchUp := false, roundTimer := none, probeWait := none
      probeRetry := none, lost := none, selRequest := .idle, selAnswer := none, isoFailed := ⟨false, false⟩
      probeReported := false }).phaseTo .none

/-- Own CO-PROBE and CO-ABORT of the current round withdrawn (R138); a round known modulo 64 has none. -/
def State.withdrawCloses (s : State) : State := if s.cu.mod64 then s else s.withdraw (isCloseOf s.cu.number)

/-- ROUND removed, the close handed to the SQ and the IU, and ROUND_CLOSED raised (R114, R138, R164), before the HEAT_STATE that
the hand-over can raise by the model's choice (notes/assumptions/79.md). -/
def State.announceClose (s : State) (o : RoundOutcome) (reason : Option CloseReason) : State :=
  ((s.removeReason .round).raiseEvent (.roundClosed s.cu.number o reason)).roundMoves.followUsable

/-- The round closes DONE in READY or PROBE (R138). -/
def State.closeDone (s : State) : State :=
  (((s.withdrawCloses.closeRecord .done none).setSystem s.cu.target).probesToCollectors).announceClose .done none

/-- The round closes ABORTED (R139, R141). -/
def State.closeAborted (s : State) (reason : CloseReason) : State :=
  (((s.withdrawCloses.closeRecord .aborted (some reason)).setSystem none).dropProbe).announceClose .aborted (some reason)

/-- The local close of catch-up (R140). -/
def State.closeLocal (s : State) : State := (s.closeRecord .done none).announceClose .done none

/-- Catch-up entered (R140). A station without pantographs closes at once; so does one whose selector has already failed
in SWITCH (notes/assumptions/38.md). -/
def State.enterCatchUp (s : State) : State :=
  let t := ((s.mapCu fun c => { c with
    outcome := .done, closeReason := none, catchUp := true, roundTimer := none, probeWait := none, probeRetry := none }).setSystem
      s.cu.target).probesToCollectors
  if !s.anyFitted then t.closeLocal
  else if s.cu.phase = .gather then t.enterLower
  else if s.cu.phase = .switch && s.cu.selRequest = .failed then t.closeLocal
  else t

/-- The round closes DONE: by R138 in READY or PROBE, by R140 otherwise. -/
def State.roundDone (s : State) : State :=
  if s.cu.phase = .ready || s.cu.phase = .probe then s.closeDone else s.enterCatchUp

/-- The close reason of a measured class that is not the target (R139). -/
def wrongClass : LineClass → CloseReason
  | .live _ => .wrongSystem
  | .dead => .noVoltage
  | .unclear => .unclear

/-! ## Adoption (R145) -/

/-- An adoption started from a round byte's number (R145). The breaker-late flag is cleared as at any opening (R126) by the
model's choice (notes/assumptions/69.md). The request for OPEN is made among the hand-offs of the step, after ROUND_OPENED, by
the model's choice (notes/assumptions/79.md). -/
def State.adopt (s : State) (n64 : Nat) : State :=
  let t := s.mapCu fun c => { c with
    number := BitVec.ofNat 8 n64, mod64 := true, isOpen := true, key := .unknown, target := none, start := none
    finish := none, ready := [], catchUp := false, breakerLate := false, roundTimer := s.timerFor s.roundTimeout
    selRequest := .idle, selAnswer := none, isoFailed := ⟨false, false⟩, probeReported := false }
  let u := (((t.phaseTo .adopted).addReason .round).dropRaises).eachFitted fun p v =>
    if (v.drive p).state = .down then v else v.orderDown p .round
  ((u.sectionsAtOpening none).scraperMeetsRound.followUsable).raiseEvent (.roundOpened (BitVec.ofNat 8 n64) none .unknown true)

/-- The adoption completed (R145), in catch-up too: the number in full, target, key and points; then SWITCH, whose selector
request is declined until every own drive is DOWN or BLOCKED (R130; notes/assumptions/46.md), or READY without pantographs, with a
move to OPEN still running sent on to the target's position (R97). The section unit is told the key by the model's choice
(notes/assumptions/60.md). -/
def State.completeAdoption (s : State) (n : Byte) (target : Supply) (k : RoundKey) (a b : Option Word32) : State :=
  let t := (s.mapCu fun c => { c with
    number := n, mod64 := false, key := k, target := some target, start := a, finish := b, selAnswer := none }).sectionsAtOpening
    (queuedKey k)
  if s.anyFitted then t.enterSwitch
  else (if s.sg.selector.busy && s.sg.selector.target = some .opn then t.requestSelector (selectorFor target) else t).enterReady

/-! ## CO notices (R126, R132, R138, R139, R141, R144) -/

/-- The key a CO-PROPOSE carries (section 11.2): origin 0 for none. An origin above 24 is no station number, and the key is taken
as it stands by the model's choice (notes/assumptions/56.md). -/
def proposedKey (o i : Byte) : RoundKey := if o = 0 then .none else .key ⟨o, i⟩

/-- A CO-PROPOSE applied (R126); one whose target code names no system is ignored (R188), NONE among
them by the model's choice (notes/assumptions/21.md). -/
def State.applyPropose (s : State) (origin : Nat) (n tg o i : Byte) (d len : Word16) : State :=
  let k := proposedKey o i
  let ignored (why : IgnoredReason) : State :=
    if origin = s.own then s.raiseEvent (.proposalIgnored ⟨o, i⟩ why) else s
  match supplyOf tg with
  | none => s
  | some target =>
    let pts := s.roundPoints k d len
    if s.agreesAdopted n then s.completeAdoption n target k pts.1 pts.2
    else if s.cu.isOpen then
      if (k != .none && k = s.cu.key) || (k = .none && s.cu.key = .none && s.cu.target = some target) then s
      else ignored .roundOpen
    else if k != .none && k = s.cu.key then s
    else if s.ru.regime.system = some target then ignored .sameSystem
    else s.openRound n target k pts.1 pts.2

/-- What a CO-READY, CO-PROBE or CO-ABORT meets: the current round, which it names by its number alone (R124), an adoption it
completes, or a newer round it opens; `none` where it is ignored (R144, R145). A target NONE completes no adoption and opens no
round by the model's choice (notes/assumptions/21.md). -/
def State.meetRound (s : State) (n : Byte) (target : Option Supply) : Option State :=
  if s.namesCurrent n then some s
  else
    match target with
    | none => none
    | some x =>
      let pts := s.learnedPoints x
      if s.agreesAdopted n then some (s.completeAdoption n x pts.1 pts.2.1 pts.2.2)
      else if !s.cu.isOpen && s.newer n then some (s.openRound n x pts.1 pts.2.1 pts.2.2)
      else none

/-- A CO-READY applied (R132). -/
def State.applyReady (s : State) (origin : Nat) (n tg : Byte) : State :=
  match targetOf tg with
  | none => s
  | some target =>
    match s.meetRound n target with
    | some t => t.addReady origin
    | none => s

/-- A CO-PROBE applied (R138, R139, R140); ignored in catch-up. -/
def State.applyProbe (s : State) (n tg m : Byte) : State :=
  match targetOf tg, classOf m with
  | some target, some measured =>
    if s.cu.catchUp then s
    else
      match s.meetRound n target with
      | some t =>
        if !t.cu.isOpen then t
        else if some measured = t.cu.target.map LineClass.live then t.roundDone
        else t.closeAborted (wrongClass measured)
      | none => s
  | _, _ => s

/-- A CO-ABORT applied (R141); ignored in catch-up. -/
def State.applyAbort (s : State) (n tg r : Byte) : State :=
  match targetOf tg, abortReasonOf r with
  | some target, some reason =>
    if s.cu.catchUp then s
    else
      match s.meetRound n target with
      | some t => if t.cu.isOpen then t.closeAborted reason else t
      | none => s
  | _, _ => s

/-- A round byte taken by the CU (R132, R145, R146), with the sender's reported system. The PRESENT that starts an adoption does
not add its sender to the ready set that the adoption empties, by the model's choice (notes/assumptions/75.md). -/
def State.takeRoundByte (s : State) (origin : Nat) (present : Bool) (round : Byte) (system : Option Supply) : State :=
  let n64 := round.toNat / 4
  let shownOpen := round.getLsbD 1
  let current := s.cu.isOpen && n64 = s.cu.number.toNat % 64
  let a :=
    if !present then s.dropReady origin
    else if current && shownOpen && round.getLsbD 0 then s.addReady origin
    else s
  if !present || origin = s.own || (s.peer origin).status != .live then a
  else if shownOpen && !s.cu.isOpen && (s.neverHeld || n64 != s.cu.number.toNat % 64) then a.adopt n64
  else if current && !shownOpen && !s.cu.catchUp then
    match system with
    | none => a
    | some r =>
      if s.cu.phase = .adopted then (a.mapCu fun c => { c with target := some r }).enterCatchUp
      else if s.cu.target = some r then a.roundDone
      else a
  else a

/-! ## The probe (R134 to R137) -/

/-- Whether the own drive is UP as the probe of the open round. -/
def State.probeUp (s : State) : Bool :=
  s.cu.isOpen && [Pan.p0, Pan.p1].any fun p => s.fitted p && (s.drive p).state = .up && (s.drive p).role = some .probe

/-- CO-PROBE or CO-ABORT queued; one dropped with TX_LOST is recorded (R147), in place of one recorded before by the model's
choice (notes/assumptions/76.md). -/
def State.sendClose (s : State) (n : Notice) : State := s.sendOr n fun t => t.mapCu fun c => { c with lost := some n }

/-- CO-PROBE queued with the stable class (R137). -/
def State.reportProbe (s : State) : State :=
  (s.mapCu fun c => { c with probeWait := none, probeReported := true }).sendClose
    (.coProbe s.cu.number (systemCode s.cu.target) (classCode s.sg.line.stable))

/-- A change of the stable class judged while the probe is UP (R137). -/
def State.judgeProbe (s : State) : State :=
  match s.sg.line.stable with
  | .live _ => if s.probeUp && !s.cu.probeReported && s.cu.probeWait.isSome then s.reportProbe else s
  | _ => s

/-- The conditions of R135 for an own candidate. -/
def State.probeMay (s : State) (e : Entry) : Bool :=
  e.station = s.own && s.fitted e.pan && s.cu.phase = .ready && !s.cu.catchUp && s.cu.key != .unknown && s.readyComplete &&
    !s.peerUnsure && !s.anyOccupying && s.cu.probeRetry = none && (s.drive e.pan).claimStage = .idle &&
    match s.cu.finish with
    | some x => s.reached (moved x (s.distance e.position + s.probeMargin))
    | none => true

/-- The probe's isolator seen to and its claim asked for (R135). -/
def State.askProbe (s : State) : State :=
  match s.probeCandidate with
  | none => s
  | some e =>
    if s.probeMay e then
      if (s.sg.iso.get e.pan).confirmed = some .closed then (s.askClaim e.pan .probe).1
      else if s.cu.isoFailed.get e.pan || (s.sg.iso.get e.pan).askedCu then s
      else s.requestIso e.pan .closed false
    else s

/-- What the tests of R135 see. -/
def State.probeView (s : State) : ProbeView where
  metres := s.mu.odo.metres
  ready := s.cu.ready
  roster := s.ru.roster
  peers := s.ru.peers.map fun x => { x with silence := none, dropClear := none }
  phase := s.cu.phase
  drives := s.driveStates
  isolators := s.isoPositions
  retrying := s.cu.probeRetry.isSome

/-- The test of R135 at an event that the rule lists, and at no other moment: a drive that declined, and a claim lost, wait for
the next event (R136; notes/assumptions/7.md). -/
def State.testProbe (s : State) : State :=
  if s.cu.tested = some s.probeView then s
  else (s.mapCu fun c => { c with tested := some s.probeView }).askProbe

/-- READY and PROBE follow the roster (R134). -/
def State.followProbeEntry (s : State) : State :=
  if s.cu.phase = .ready && s.occupyingRole .probe then s.phaseTo .probe
  else if s.cu.phase = .probe && !s.occupyingRole .probe then s.phaseTo .ready
  else s

/-- The probe wait timer follows the probe's drive (R137). -/
def State.followProbeWait (s : State) : State :=
  if s.probeUp then
    (if s.cu.probeReported || s.cu.probeWait.isSome then s
     else s.mapCu fun c => { c with probeWait := s.timerFor 10000000 })
  else if s.cu.probeWait.isSome then s.mapCu fun c => { c with probeWait := none }
  else s

/-- The SG's answer acted on in SWITCH (R130, R140), among the hand-offs of the step: after the notice that opened the round or
completed the adoption has been applied, by the model's choice (notes/assumptions/83.md). -/
def State.takeAnswer (s : State) : State :=
  match s.cu.selAnswer with
  | none => s
  | some ok =>
    let t := s.mapCu fun c => { c with selAnswer := none, selRequest := if ok then c.selRequest else .failed }
    if s.cu.phase = .switch then
      (if s.cu.catchUp then t.closeLocal else if ok then t.enterReady else t)
    else t

/-- The phase follows the drives: LOWER and ADOPTED end their wait when every own drive is DOWN or BLOCKED, and a declined
selector request is made again (R129, R130, R140, R145). A station without a fitted pantograph meets the wait at once. -/
def State.followPhase (s : State) : State :=
  match s.cu.phase with
  | .lower =>
    if !s.anyFitted then (if s.cu.catchUp then s.closeLocal else s.enterReady)
    else if s.allDown then s.enterSwitch
    else s
  | .switch =>
    if s.cu.selRequest = .declined && s.allDown then
      (match s.cu.target with
       | some target => s.requestSelector (selectorFor target)
       | none => s)
    else s
  | .adopted =>
    if s.allDown then
      (if s.cu.catchUp then s.enterSwitch else if s.cu.selRequest = .idle then s.requestSelector .opn else s)
    else s
  | _ => s

end Sys2Proof.Machine
end

