-- ==== Sys2Proof/Machine/Contest.lean ====
section
/-! DEFINITION. The contest (section 2.6, 2.7): evaluation of CLAIM, REGIME and HEAT-TAKE, the OBJECT a station queues, and
what an OBJECT undoes. -/

namespace Sys2Proof.Machine

/-- Whether a sender's status makes its contestable notice FOREIGN (R45, R47, R48). -/
def State.foreign (s : State) (n : Nat) : Bool := (s.peer n).status = .foreign || (s.peer n).status = .silent

/-- The first reason of a table that applies. -/
def firstReason (rows : List (ObjectReason × Bool)) : Option ObjectReason := (rows.find? fun r => r.2).map fun r => r.1

/-- The evaluation of a CLAIM for an entry it may not hold, with its role (R45, R188). -/
def State.evaluateClaim (s : State) (n : Nat) (entry : Option Entry) (role : Option Role) : Option ObjectReason :=
  match entry, role with
  | some c, some r =>
    let others := s.ru.roster.filter fun e => e.occupying && !(e.station = c.station && e.pan = c.pan)
    let candidate := s.isProbeCandidate c.station c.pan
    let scraping := s.scraperCandidate.any fun e => e.station = c.station && e.pan = c.pan
    firstReason
      [(.notReady, !s.contestFree), (.foreign, s.foreign n), (.state, c.state != .down),
       (.round, (s.cu.isOpen && r != .probe) ||
          (r = .probe && (!s.cu.isOpen || !candidate || !s.readyComplete || !others.isEmpty))),
       (.system, if r = .probe then !(s.cu.target.any fun t => serves c.kind t)
          else !(s.ru.regime.system.any fun t => serves c.kind t)),
       (.count, r = .collector && s.collectorLimit s.ru.regime.band < s.collectorCount + 1),
       (.spacing, r = .collector &&
          ((s.nonScrapers.any fun x => within x.position c.position (s.smin s.ru.regime.band)) ||
            others.any fun x => x.role = some .scraper && !s.aheadBy x c s.scraperGap)),
       (.scraper, r = .scraper &&
          (s.ru.regime.ice != .scrape || s.occupyingRole .scraper ||
            !(s.nonScrapers.all fun x => s.aheadBy c x s.scraperGap) || !scraping))]
  | _, _ => firstReason [(.notReady, !s.contestFree), (.foreign, s.foreign n), (.state, true)]

/-- Two occupying non-scraper entries lie within a distance (R47). -/
def anyWithin (d : Nat) : List Entry → Bool
  | [] => false
  | e :: rest => (rest.any fun x => within e.position x.position d) || anyWithin d rest

/-- The evaluation of a REGIME (R47). -/
def State.evaluateRegime (s : State) (n : Nat) (band : Fin 4) (d : Direction) : Option ObjectReason :=
  let rises : Bool := s.ru.regime.band < band
  firstReason
    [(.notReady, !s.contestFree), (.foreign, s.foreign n), (.round, s.cu.isOpen),
     (.state, (d != s.ru.regime.direction && s.anyOccupying) || s.ru.contests.any fun c => c.target.kind = .regime),
     (.count, rises && s.collectorLimit band < s.collectorCount),
     (.spacing, rises && anyWithin (s.smin band) s.nonScrapers)]

/-- The evaluation of a HEAT-TAKE (R48). -/
def State.evaluateHeat (s : State) (n units : Nat) : Option ObjectReason :=
  firstReason
    [(.notReady, !s.contestFree), (.foreign, s.foreign n),
     (.budget, s.heatBudget < unitSum (putGrant n units s.iu.grants))]

/-- The reason found by an ONLINE station (R40). -/
def State.judged (s : State) (r : Option ObjectReason) : Option ObjectReason := if s.rlp.port = .online then r else none

/-- The OBJECT of an evaluation queued (R40). -/
def State.object (s : State) (target : Target) (r : Option ObjectReason) : State :=
  match r with
  | some reason =>
    s.send (.object (BitVec.ofNat 8 target.station) target.seq (contestKindCode target.kind) (objectReasonCode reason))
  | none => s

/-- A CLAIM applied (R31, R40): evaluated against the records before it, then its effect, then what its own drive makes of
the echo (R59). -/
def State.applyClaim (s : State) (n : Nat) (seq pan role : Byte) : State :=
  let target : Target := ⟨n, seq, .claim⟩
  let entry := (panOf pan).bind (s.entry n)
  let reason := s.judged (s.evaluateClaim n entry (roleOf role))
  let t :=
    match panOf pan, roleOf role, entry with
    | some p, some r, some e =>
      let roundBars : Bool := s.cu.isOpen && !(r = Role.probe && s.isProbeCandidate n p)
      let scraperBars : Bool := r = Role.scraper && s.otherOccupying .scraper n p
      if e.state = EntryState.down && s.contestFree && !roundBars && !scraperBars then
        (s.mapEntry n p fun e => { e with state := .claimed, role := some r, claimSeq := some seq, windowOpen := true }).openContest
          target (.claim p)
      else s
    | _, _, _ => s
  let u := t.object target reason
  match panOf pan with
  | some p => if n = s.own then u.claimEcho p seq reason else u
  | none => u

/-- A REGIME applied (R38, R39, R40): the low two bits are the band, bit 0 of the second byte the direction. The evaluation, with
the OBJECT it queues, and the record come first; band and direction are then set (R38). -/
def State.applyRegime (s : State) (n : Nat) (seq band direction : Byte) : State :=
  let target : Target := ⟨n, seq, .regime⟩
  let b : Fin 4 := ⟨band.toNat % 4, Nat.mod_lt _ (by decide)⟩
  let d := directionOf (direction.getLsbD 0)
  let reason := s.judged (s.evaluateRegime n b d)
  let t :=
    if s.contestFree then
      s.openContest target (.regime s.ru.regime.band s.ru.regime.direction)
    else s
  let u := t.object target reason
  if s.contestFree then u.changeRegime s.ru.regime.system b d else u

/-- A HEAT-TAKE applied by the RU and then by the IU (R10, R162): the RU opens the record, evaluates the notice and queues the
OBJECT of a reason found (R39, R40), and the IU then sets the grant. With no record free the grant stays, and the own HEAT-TAKE
is refused with NOT_READY (R165). -/
def State.applyHeatTake (s : State) (n : Nat) (seq units : Byte) : State :=
  let target : Target := ⟨n, seq, .heatTake⟩
  let k := units.toNat % 16
  let reason := s.judged (s.evaluateHeat n k)
  if s.contestFree then ((s.openContest target (.heatTake (s.grantOf n) k)).object target reason).setGrant n k
  else
    let t := s.object target reason
    if n = s.own then t.refuseHeat (objectReasonCode .notReady) else t

/-! ## OBJECT (R32, R41, R42) -/

/-- The entry of a station with a claim sequence: where both entries of the station hold it, the first in key order by the
model's choice (notes/assumptions/49.md). -/
def State.claimEntry (s : State) (n : Nat) (seq : Byte) : Option Entry :=
  s.ru.roster.find? fun e => e.station = n && e.claimSeq = some seq

/-- An OBJECT against a CLAIM (R32). Where the claim's entry is not CLAIMED the objected flag of a record still open stays as it
is, by the model's choice (notes/assumptions/62.md). -/
def State.objectClaim (s : State) (target : Target) (reason : Byte) : State :=
  match s.claimEntry target.station target.seq with
  | some e =>
    if e.state = .claimed then
      let t := (s.mapEntry e.station e.pan fun x => { x with state := .withdrawn }).markObjected target
      if target.station = s.own then (t.refuse e.pan target.seq reason).claimFollows e.pan else t
    else s
  | none => s

/-- REGIME records opened after a target's closed without undo (R42). -/
def State.closeLaterRegimes (s : State) (target : Target) : State :=
  let later := (s.ru.contests.dropWhile fun c => c.target != target).drop 1
  (later.filter fun c => c.target.kind = .regime).foldl (fun t c => t.closeContest c.target) s

/-- An OBJECT against a REGIME or a HEAT-TAKE undoes an open, unobjected record (R42). -/
def State.undo (s : State) (target : Target) (reason : Byte) : State :=
  match s.contest target with
  | some c =>
    if c.objected then s
    else
      let t := s.markObjected target
      match c.body with
      | .regime band direction =>
        let u := (t.closeLaterRegimes target).changeRegime s.ru.regime.system band direction
        if target.station = s.own then u.raiseEvent (.regimeRefused reason) else u
      | .heatTake saved carried =>
        let u := if s.grantOf target.station = carried then t.setGrant target.station saved else t
        if target.station = s.own then u.refuseHeat reason else u
      | .claim _ => t
  | none => s

/-- An OBJECT applied (R32, R41, R42, R188): pending OBJECTs for the target withdrawn in every case. -/
def State.applyObject (s : State) (station seq kind reason : Byte) : State :=
  let t := s.withdraw fun q =>
    match q.notice with
    | .object a b c _ => a = station && b = seq && c = kind
    | _ => false
  match contestKindOf kind with
  | some .claim => t.objectClaim ⟨station.toNat, seq, .claim⟩ reason
  | some k => t.undo ⟨station.toNat, seq, k⟩ reason
  | none => t

end Sys2Proof.Machine
end

