-- ==== Sys2Proof/Machine/Report.lean ====
section
/-! DEFINITION. The report of PRESENT and JOIN (table 11.3): its bytes as the station sends them (R16, R26, R125) and its
fields as a receiver takes them (R24). -/

namespace Sys2Proof.Machine

/-! ## Fields of a report (table 11.3) -/

/-- The state code of an entry; UNKNOWN has two codes that mean it (notes/assumptions/12.md). -/
def entryCode : EntryState → Nat
  | .down => 0
  | .claimed => 1
  | .withdrawn => 2
  | .up => 3
  | .dropping => 4
  | .blocked => 5
  | .unknown => if Config.unknownCodeIsSeven then 7 else 6

/-- The state a code is taken as (R24). -/
def entryOfCode (n : Nat) : EntryState :=
  match n with
  | 0 => .down
  | 1 => .claimed
  | 2 => .withdrawn
  | 3 => .up
  | 4 => .dropping
  | 5 => .blocked
  | _ => .unknown

/-- A pantograph field of a fitted pantograph. -/
def panField (position : Nat) (kind : PanKind) (st : EntryState) (r : Option Role) : Word16 :=
  BitVec.ofNat 16
    (32768 + position % 512 * 64 + (if kind = .dc then 32 else 0) + entryCode st * 4 + ((r.map roleCode).getD 0).toNat)

/-- A pantograph field as a receiver reads it. -/
structure PanReport where
  fitted : Bool
  position : Nat
  kind : PanKind
  state : EntryState
  role : Option Role
deriving DecidableEq, Repr

/-- The fields of a pantograph field's bits. -/
def readField (w : Word16) : PanReport where
  fitted := w.getLsbD 15
  position := w.toNat / 64 % 512
  kind := if w.getLsbD 5 then .dc else .ac
  state := entryOfCode (w.toNat / 4 % 8)
  role := roleOf (BitVec.ofNat 8 (w.toNat % 4))

/-- The regime byte. -/
def regimeByte (r : Regime) (o : Ice) : Byte :=
  BitVec.ofNat 8 ((systemCode r.system).toNat * 32 + r.band.val * 8 + directionBit r.direction * 4 + (iceCode o).toNat)

/-- The system of a regime byte; codes 5 to 7 are NONE. -/
def byteSystem (b : Byte) : Option Supply := supplyOf (BitVec.ofNat 8 (b.toNat / 32))

/-- The speed band of a regime byte. -/
def byteBand (b : Byte) : Fin 4 := ⟨b.toNat / 8 % 4, Nat.mod_lt _ (by decide)⟩

/-- The direction of a regime byte. -/
def byteDirection (b : Byte) : Direction := directionOf (b.getLsbD 2)

/-- The observation of a regime byte; code 3 is CLEAR. -/
def byteIce (b : Byte) : Ice := (iceOf (BitVec.ofNat 8 (b.toNat % 4))).getD .clear

/-- The round byte (R125). -/
def State.roundByte (s : State) : Byte :=
  BitVec.ofNat 8 (s.cu.number.toNat % 64 * 4 + s.cu.isOpen.toNat * 2 + (s.cu.phase = .ready || s.cu.phase = .probe).toNat)

/-! ## The report a station sends (R16, R26) -/

/-- The field of an own pantograph: 0 when it is not fitted; the own entry's state and role, or without an own entry the
drive's DOWN or BLOCKED. The role of a probe taken over as a collector is reported as COLLECTOR (R138;
notes/assumptions/13.md). -/
def State.ownField (s : State) (p : Pan) : Word16 :=
  if s.fitted p then
    match s.ownEntry p with
    | some e =>
      let r := if e.role = some .probe && (s.drive p).role = some .collector then some .collector else e.role
      panField (s.panPosition p) (s.panKind p) e.state r
    | none => panField (s.panPosition p) (s.panKind p) (if (s.drive p).state = .blocked then .blocked else .down) none
  else 0

/-- The report as the station's records stand (R16). -/
def State.report (s : State) : Report where
  fingerprint := s.sc.fingerprint
  pan0 := s.ownField .p0
  pan1 := s.ownField .p1
  regime := regimeByte s.ru.regime s.iu.observation
  heatFault := BitVec.ofNat 8 (s.ownGrant % 16 * 16 + groupNibble s.ownGroups)
  round := s.roundByte

/-! ## The report a station applies (R23 to R26) -/

/-- One pantograph field applied to the sender's entry (R24). -/
def State.applyField (s : State) (n : Nat) (p : Pan) (w : Word16) : State :=
  let f := readField w
  let prior := s.entry n p
  if !f.fitted then
    (s.closeClaims n p).mapRu fun r => { r with roster := r.roster.filter fun e => !(e.station = n && e.pan = p) }
  else
    let roled : Bool := f.state = .claimed || f.state = .withdrawn || f.state = .up
    let scraperClash : Bool := (roled || f.state = .dropping) && f.role = some .scraper && s.otherOccupying .scraper n p
    let roundClash : Bool :=
      s.cu.isOpen && (prior.any fun e => e.state = .down) && f.state = .claimed &&
        !(f.role = some .probe && s.isProbeCandidate n p)
    let unknown : Bool := f.state = .unknown || (roled && f.role = none) || scraperClash || roundClash
    let st : EntryState := if unknown then .unknown else f.state
    let role : Option Role := if roled && !unknown then f.role else none
    let fresh : Entry := ⟨n, p, f.position, f.kind, st, role, none, false⟩
    match prior with
    | some e =>
      if e.state = st then
        s.mapRu fun r => { r with roster := putEntry { fresh with claimSeq := if unknown then none else e.claimSeq, windowOpen := e.windowOpen } r.roster }
      else (s.closeClaims n p).mapRu fun r => { r with roster := putEntry fresh r.roster }
    | none => (s.closeClaims n p).mapRu fun r => { r with roster := putEntry fresh r.roster }

/-- Both pantograph fields applied, P0 and then P1 (R24). -/
def State.applyFields (s : State) (n : Nat) (r : Report) : State := (s.applyField n .p0 r.pan0).applyField n .p1 r.pan1

/-- The stored bytes of a report (R20). -/
def Peer.store (x : Peer) (st : PeerStatus) (r : Report) : Peer :=
  { x with status := st, doubtful := false, fingerprint := some r.fingerprint, regimeByte := some r.regime
           heatUnits := some (r.heatFault.toNat / 16), roundByte := some r.round
           faults := nibbleGroups (r.heatFault.toNat % 16), dropClear := none }

/-- PEER_STATUS raised when the status has changed, and under R23 also when the doubtful flag has (R23, R25); before the
REGIME_CHANGED of the same report (R37) by the model's choice (notes/assumptions/79.md). -/
def State.announcePeer (s : State) (n : Nat) (before : Peer) : State :=
  let now := s.peer n
  if now.status = before.status && (now.doubtful = before.doubtful || now.status = .foreign) then s
  else s.raiseEvent (.peerStatus n now.status now.doubtful)

/-- The regime settled by a PRESENT (R37, R112). -/
def State.settleRegime (s : State) (r : Report) : State :=
  let t := (s.closeContests fun c => c.target.kind = .regime).mapRu fun u => { u with regime := { u.regime with settled := true } }
  (t.changeRegime (byteSystem r.regime) (byteBand r.regime) (byteDirection r.regime)).rewriteSections

/-- A report of another station applied by the RU (R23, R25, R37). -/
def State.applyPeerReport (s : State) (n : Nat) (present : Bool) (r : Report) : State :=
  let before := s.peer n
  if r.fingerprint = s.sc.fingerprint then
    let t := s.mapPeer n fun x => { x.store .live r with silence := s.timerFor (3 * s.presenceInterval) }
    let u := (t.applyFields n r).announcePeer n before
    if present && !s.ru.regime.settled then u.settleRegime r else u
  else
    let t := s.mapPeer n fun x => { x.store .foreign r with silence := none }
    ((t.applyFields n r).loseEntries n).announcePeer n before

/-- The station's own report applied at its echo (R26). -/
def State.applyOwnReport (s : State) (r : Report) : State :=
  (s.mapPeer s.own fun x => { x.store .live r with silence := none }).applyFields s.own r

/-- A report applied by the RU, the CU and the IU in that order (R10, R154, R163). -/
def State.applyReport (s : State) (n : Nat) (present : Bool) (r : Report) : State :=
  let t := (if n = s.own then s.applyOwnReport r else s.applyPeerReport n present r).followUsable
  let u := t.takeRoundByte n present r.round (byteSystem r.regime)
  if n = s.own then u.setGrant n (r.heatFault.toNat / 16)
  else
    let v := u.mapIu fun i => { i with table := tableSet i.table n (some (byteIce r.regime)) }
    if (t.peer n).status = .live then v.setGrant n (r.heatFault.toNat / 16) else v

end Sys2Proof.Machine
end

