-- ==== Sys2Proof/Machine/Port.lean ====
section
/-! DEFINITION. Entry to OFFLINE and to LISTEN_ONLY, the fall of the supply, and the LEAVE of a pending host LEAVE (R18,
R19, R184, R185). -/

namespace Sys2Proof.Machine

/-- Claim stage and outstanding notice of a drive on entry to OFFLINE (R49); a QUEUED claim takes its role with it (R59). -/
def Drive.offline (d : Drive) : Drive :=
  { d with role := if d.claimStage = .queued then none else d.role
           claimStage := .idle, claimSeq := none, outstanding := none, cancelPending := false }

/-- The RLP on entry to OFFLINE (R11, R18). -/
def Rlp.offline (r : Rlp) : Rlp :=
  { r with port := .offline, queue := [], slot := none, attempt := none, expected := List.replicate 24 none
           collisions := 0, presenceTimer := none, settleTimer := none }

/-- The regime record reset (R22), with what a change hands on (R38, R68). The section queue is emptied without an event,
so no flush is raised here (R116). -/
def State.resetRegime (s : State) : State :=
  let old := s.ru.regime
  let t := s.mapRu fun _ => Ru.reset
  let u :=
    if old.system = none ∧ old.band = 0 ∧ old.direction = .aForward then t
    else t.raiseEvent (.regimeChanged none 0 .aForward)
  let v := if old.ice = .clear then u else u.raiseEvent (.iceLevel .clear)
  if old.system = none then v else v.orderAllDown .regimeNone

/-- The scraper record on entry to OFFLINE (R157): LOWERING and CLOSING run on; in any other phase the record is in NONE and
its retry timer stopped. -/
def State.scraperOffline (s : State) : State :=
  let t := s.mapIu fun i => { i with scraper := { i.scraper with retry := none } }
  match s.iu.scraper.phase with
  | .lowering | .closing => s
  | .none => t
  | _ => t.scraperTo .none

/-- The heat records on entry to OFFLINE (R162, R165, R166). -/
def State.heatOffline (s : State) : State :=
  let t := s.mapIu fun i => { i with
    grants := [], table := List.replicate 24 none, takePending := false, heatRetry := none, giveLost := none }
  if s.ownGrant = 0 then t else t.raiseEvent (.heatGrant 0)

/-- Entry to OFFLINE (R18, R49, R96, R116, R148, R157, R162, R184). The order, and the events raised, BREAKER_REASONS where NEUTRAL
or ROUND leaves the set among them (R103), are the model's choice (notes/assumptions/20.md). -/
def State.enterOffline (s : State) : State :=
  let a := (s.mapRlp Rlp.offline).eachFitted fun p t => t.mapPd p Drive.offline
  let b := (a.mapSq fun q => { q with entries := [] }).removeReason .neutral
  let c := (b.mapCu fun _ => Cu.reset).removeReason .round
  let d := (c.stopLeg.heatOffline).scraperOffline
  let e := d.resetRegime
  e.mapSc fun x => { x with leaving := none }

/-- A drive's claim on entry to LISTEN_ONLY, and its outstanding notice (R59, R76). -/
def Drive.silenced (d : Drive) : Drive :=
  { d with
    role := if d.claimStage = .idle then d.role else if d.state = .down || d.state = .blocked then none else d.role
    claimStage := .idle, claimSeq := if d.claimStage = .idle then d.claimSeq else none, outstanding := none, cancelPending := false }

/-- Queue and slot emptied without events; a HEAT-TAKE among the notices removed is no longer pending (R18, R19, R165). -/
def State.emptyQueue (s : State) : State :=
  let t := s.mapRlp fun r => { r with queue := [], slot := none }
  if s.rlp.queue.any fun q => q.notice.kind = .heatTake then t.mapIu fun i => { i with takePending := false } else t

/-- The proposed flag of an entry whose automatic CO-PROPOSE is in the queue cleared (R122). -/
def State.unpropose (s : State) : State :=
  let proposed (e : SectionEntry) : SectionEntry :=
    if s.rlp.queue.any (isProposalFor e.key) then { e with proposed := false } else e
  s.mapSq fun q => { q with entries := q.entries.map proposed }

/-- Entry to LISTEN_ONLY (R19, R59, R68, R76, R122, R147, R166, R184). The SCRAPER_STATE of a run whose claim ends here stands
before the DRIVE_STATE of the lowerings by the model's choice (notes/assumptions/85.md). -/
def State.enterListenOnly (s : State) : State :=
  let a := s.unpropose.emptyQueue.mapRlp fun r => { r with port := .listenOnly, attempt := none, presenceTimer := none, settleTimer := none }
  let lost := (s.iu.scraper.pan.filter fun p => s.iu.scraper.phase = .claiming && (s.drive p).claimStage != .idle)
  let b := a.eachFitted fun p t => t.mapPd p Drive.silenced
  let c := match lost with
    | some p => b.scraperLosesClaim p
    | none => b
  let d := (c.mapCu fun u => { u with lost := none }).mapIu fun i => { i with giveLost := none }
  (d.mapSc fun x => { x with leaving := none }).orderAllDown .listenOnly

/-- BUS_COLLISIONS at the eighth collision (R7). The fault's event stands before those of the entry to LISTEN_ONLY by the model's
choice (notes/assumptions/59.md). -/
def State.tooManyCollisions (s : State) : State := (s.raiseLocalFault .busCollisions .bare).enterListenOnly

/-- DUPLICATE_STATION (R9). -/
def State.duplicateStation (s : State) : State :=
  let t := s.raiseLocalFault .duplicateStation .bare
  if s.transmits then t.enterListenOnly else t

/-- The RLP at a supply fall (R18): in ONLINE the vented LEAVE stands alone in the queue, in JOINING the port goes OFFLINE;
an attempt in progress is cut short with a jam of 16 bit times. -/
def State.portSupplyFall (s : State) : State :=
  let cut := if s.rlp.attempt.isSome then
      s.mapRlp fun r => { r with attempt := none, line := .jam, lastEnd := s.now + 64 }
    else s
  match s.rlp.port with
  | .online =>
    let t := cut.emptyQueue
    let u := t.eachFitted fun p v => if (v.drive p).claimStage = .queued then v.mapPd p Drive.claimOver else v
    (u.enqueue (.leave 1) false).mapSc fun x => { x with leaving := none }
  | .joining => cut.enterOffline
  | _ => s

/-- A LEAVE queued for the pending host LEAVE at the first moment at which every fitted drive is DOWN or BLOCKED (R184). -/
def State.sendLeave (s : State) : State :=
  (s.mapSc fun x => { x with leaving := some .queued }).sendOr (.leave 0) fun t =>
    t.mapSc fun x => { x with leaving := some .lost }

/-- While leave-pending is set, a fitted drive that has come to raise or to claim is ordered down again with its raise
request cleared, and the LEAVE is queued once every one is DOWN or BLOCKED (R184). A claim whose cancellation waits for the
end of its attempt (R60) has been ordered down already and is no new change. -/
def State.followLeave (s : State) : State :=
  match s.sc.leaving with
  | none => s
  | some stage =>
    let t := s.eachFitted fun p v =>
      let d := v.drive p
      if d.state = .raising || d.state = .up || (d.claimStage = .queued && !d.cancelPending) || d.claimStage = .standing then
        v.orderDown p .leave else v
    if stage = .waiting && t.allDown then t.sendLeave else t

end Sys2Proof.Machine
end

