-- ==== Sys2Proof/Machine/Delivery.lean ====
section
/-! DEFINITION. Delivery (R10): each notice applied by the units that own its kind; sequence tracking (R11, R28). -/

namespace Sys2Proof.Machine

/-- A RAISED applied (R33). -/
def State.applyRaised (s : State) (n : Nat) (pan role : Byte) : State :=
  match panOf pan, roleOf role with
  | some p, some r =>
    match s.entry n p with
    | some e =>
      if e.state = .claimed then
        if r = .scraper && s.otherOccupying .scraper n p then
          (s.closeClaims n p).mapEntry n p fun e => e.cleared .unknown
        else s.mapEntry n p fun e => { e with state := .up, role := some r }
      else s
    | none => s
  | _, _ => s

/-- An entry left without role and claim, its records closed and OBJECTs against its claim withdrawn; at the own station the
drive's claim ends with it (R34, R35, R59, R60). -/
def State.clearEntry (s : State) (n : Nat) (p : Pan) (st : EntryState) : State :=
  let t := ((s.closeClaims n p).withdrawClaimObjects n p).mapEntry n p fun e => e.cleared st
  if n = s.own then (if st = .dropping then t.claimFollows p else t.claimEnds p) else t

/-- A YIELD applied (R34). -/
def State.applyYield (s : State) (n : Nat) (pan : Byte) : State :=
  match panOf pan with
  | some p => s.clearEntry n p .down
  | none => s

/-- A DROP applied (R35); a phase outside the tables names nothing (R188). -/
def State.applyDrop (s : State) (n : Nat) (pan phase : Byte) : State :=
  match panOf pan with
  | some p =>
    if phase = 0 then s.clearEntry n p .dropping else if phase = 1 then s.clearEntry n p .blocked else s
  | none => s

/-- A FAULT applied (R36). PEER_FAULT carries the pantograph byte as received, also where it is neither a pantograph nor none,
by the model's choice (notes/assumptions/73.md). -/
def State.applyFault (s : State) (n : Nat) (code pan detail : Byte) : State :=
  let groups := match faultOf code with
    | some k => faultGroup k
    | none => FaultGroups.empty
  let t := s.mapPeer n fun x => { x with faults := x.faults.union groups }
  let u := if n = s.own then t else t.raiseEvent (.peerFault n code pan detail)
  if faultOf code = some .voltageMismatch then u.setSystem none else u

/-- A LEAVE of another station applied by the RU, with its PEER_STATUS, and then by the IU, which removes the grant (R10, R29,
R132, R154, R163). The own LEAVE is followed by the entry to OFFLINE. -/
def State.applyLeave (s : State) (n : Nat) (flags : Byte) : State :=
  if n = s.own then s
  else
    let vented := flags.getLsbD 0
    let a := s.mapPeer n fun x => { x with
      status := .left, doubtful := false, silence := none
      dropClear := if vented then s.timerFor 5000000 else x.dropClear }
    let b := a.closeStation n
    let c := if vented then b.mapRu fun r => { r with
        roster := r.roster.map fun e => if e.station = n then e.cleared .dropping else e }
      else b.removeEntries n
    let d := ((c.raiseEvent (.peerStatus n .left false)).setGrant n 0).mapIu fun i => { i with table := tableSet i.table n none }
    d.dropReady n

/-- An ICE applied (R154). -/
def State.applyIce (s : State) (n : Nat) (o : Byte) : State :=
  match iceOf o with
  | some o => if n = s.own then s else s.mapIu fun i => { i with table := tableSet i.table n (some o) }
  | none => s

/-- A HEAT-GIVE applied (R163). -/
def State.applyGive (s : State) (n : Nat) (units : Byte) : State :=
  if units.toNat % 16 < s.grantOf n then s.setGrant n (units.toNat % 16) else s

/-- The silence timer of another LIVE station restarted by every valid notice from it (R27). -/
def State.heard (s : State) (n : Nat) : State :=
  if n != s.own && (s.peer n).status = .live then
    s.mapPeer n fun x => { x with silence := s.timerFor (3 * s.presenceInterval) }
  else s

/-- A notice applied in full by the units it is delivered to (R10). -/
def State.applyNotice (s : State) (n : Nat) (seq : Byte) : Notice → State
  | .drop p f => s.applyDrop n p f
  | .object st q k r => s.applyObject st q k r
  | .fault c p d => s.applyFault n c p d
  | .leave f => s.applyLeave n f
  | .coPropose m tg o i d l => s.applyPropose n m tg o i d l
  | .coReady m tg => s.applyReady n m tg
  | .coProbe m tg c => s.applyProbe m tg c
  | .coAbort m tg r => s.applyAbort m tg r
  | .claim p r => s.applyClaim n seq p r
  | .raised p r => s.applyRaised n p r
  | .yield p => s.applyYield n p
  | .regime b d => s.applyRegime n seq b d
  | .sectionAhead o i k tg d l => s.applySection o i k tg d l
  | .ice o => s.applyIce n o
  | .heatTake u => s.applyHeatTake n seq u
  | .heatGive u => s.applyGive n u
  | .present r => s.applyReport n true r
  | .join r => s.applyReport n false r

/-- A notice delivered: the sender is heard, then the notice is applied. -/
def State.deliver (s : State) (n : Nat) (seq : Byte) (x : Notice) : State := (s.heard n).applyNotice n seq x

/-- The expected sequence of a station set (R11). -/
def State.expect (s : State) (n : Nat) (q : Option Byte) : State := s.mapRlp fun r => { r with expected := tableSet r.expected n q }

/-- What the roster's change at a sequence gap brings before the frame's notice is delivered: the passage of READY and PROBE
(R134), a scraper run's end (R160), the use of the own grant (R164), and the tests of the probe claim and of a scraper run's
start and claim, a change of the roster being an event of theirs (R135, R158). -/
def State.rosterMoves (s : State) : State := s.followProbeEntry.followScraper.followUsable.testProbe.testScraper

/-- A station marked doubtful at a sequence gap, its entries UNKNOWN (R28), and what the units make of it. -/
def State.markDoubtful (s : State) (n : Nat) : State :=
  let t := (s.mapPeer n fun x => { x with doubtful := true }).loseEntries n
  (if (s.peer n).doubtful then t else t.raiseEvent (.peerStatus n (s.peer n).status true)).rosterMoves

/-- Whether a frame of a notice kind shows a gap (R11). -/
def State.gapAt (s : State) (n : Nat) (seq : Byte) (x : Notice) : Bool :=
  match tableGet s.rlp.expected n with
  | some (some q) => x.kind != .join && q != seq
  | _ => false

/-- Sequence tracking and delivery of another station's frame (R10, R11, R28); after a LEAVE nothing is expected. -/
def State.receive (s : State) (f : Frame) : State :=
  let t := if s.gapAt f.origin f.seq f.notice then s.markDoubtful f.origin else s
  let u := (t.expect f.origin (some (f.seq + 1))).deliver f.origin f.seq f.notice
  if f.notice.kind = .leave then u.expect f.origin none else u

end Sys2Proof.Machine
end

