-- ==== Sys2Proof/Machine/React.lean ====
section
/-! DEFINITION. What follows within a step (spec/95): the hand-offs between the units. The spec makes a step whole and
indivisible and gives no order to the tests the units make in it; the model lets each unit follow what the others have
become, in the order below, until nothing more follows (notes/assumptions/6.md). -/

namespace Sys2Proof.Machine

/-- The collector claim's conditions (R57). -/
def State.collectorMay (s : State) (p : Pan) : Bool :=
  let d := s.drive p
  s.fitted p && d.raiseRequest && d.state = .down && d.enable && d.claimStage = .idle && s.ownDown p &&
    s.rlp.port = .online && !s.cu.isOpen && s.ru.regime.system != none && !s.sq.raiseHold.get p &&
    (s.sg.iso.get p).confirmed = some .closed

/-- The collector claim queued when its conditions hold (R57). -/
def State.claimCollector (s : State) (p : Pan) : State := if s.collectorMay p then s.queueClaim p .collector else s

/-- The switchgear follows: arrivals, held and replaced requests (R98, R101, R102). -/
def State.followGear (s : State) : State :=
  (s.eachFitted fun p t => (t.isoArrival p).serveIso p).selectorArrival

/-- The section unit follows (R117, R118, R120). -/
def State.followSections (s : State) : State :=
  ((s.holdNeutral.neutralTest .p0).neutralTest .p1).holdRaises

/-- The changeover unit follows (R129, R130, R134, R137). -/
def State.followRound (s : State) : State := s.takeAnswer.followPhase.followProbeEntry.followProbeWait

/-- The ice unit follows (R155, R158 to R161, R164 to R167). -/
def State.followIce (s : State) : State := s.refreshIce.followScraper.followDemand.followUsable.refreshDuties

/-- The drives follow (R59, R65). -/
def State.followDrives (s : State) : State := (s.eachFitted fun p t => t.claimFollows p).refreshShadows

/-- One pass over the units. -/
def State.react (s : State) : State :=
  s.followDrives.followGear.followSections.followRound.followIce.supervise.watchDeadLine.followLeave

/-- The claims, requests and proposals that come due, each tested once in a step (R57, R121, R135, R158, R165). -/
def State.offers (s : State) : State :=
  ((s.claimCollector .p0).claimCollector .p1).testProbe.testScraper.testHeat.testProposal

/-- The hand-offs of a step. -/
def State.settle (s : State) : State := s.react.react.react.offers.react.react.refreshDeference

end Sys2Proof.Machine
end

