-- ==== Sys2Proof/Machine/Line.lean ====
section
/-! DEFINITION. The commands of the roof line and of the roster's timers. -/

namespace Sys2Proof.Machine

/-- The outcome of every command. -/
abbrev Result := Host.Outcome State Fault Refusal

/-- LINE_IDLE (R2): 12 bit times after the end of a frame, or of a jam, the line is idle. -/
def State.lineIdle (s : State) (t : Moment) : State :=
  if s.rlp.line = .ended || s.rlp.line = .jam then (s.advance (max t (s.rlp.lastEnd + 48))).mapRlp fun r => { r with line := .idle }
  else s.advance t

/-- LINE_IDLE. -/
def execLineIdle (t : Moment) (s : State) : Result := .next (s.lineIdle t)

/-- START_SYMBOL_HEARD (R2, R3): the line is busy and the station defers. -/
def State.startSymbol (s : State) (t : Moment) : State :=
  if s.rlp.attempt.isSome then s.advance t
  else (s.advance t).mapRlp fun r => { r with line := .busy, deference := none }

/-- START_SYMBOL_HEARD. -/
def execStartSymbolHeard (t : Moment) (s : State) : Result := .next (s.startSymbol t)

/-- The notice an attempt sends: the queue's, or the slot's with its fields as they stand (R5, R16). -/
def State.offeredNotice (s : State) : Option (Bool × Notice) :=
  match lowestClass s.rlp.queue with
  | some c => (s.rlp.queue.find? fun q => kindClass q.notice.kind = c).map fun q => (false, q.notice)
  | none => s.rlp.slot.map fun x => (true, if x = .join then .join s.report else .present s.report)

/-- The attempt begun with a notice (R5). -/
def State.beginAttempt (s : State) (fromSlot : Bool) (n : Notice) : State :=
  s.mapRlp fun r => { r with
    line := .busy, deference := none
    attempt := some ⟨fromSlot, n, r.nextSeq, s.now + bitTime * frameBits n⟩
    queue := if fromSlot then r.queue else markAttempt (kindClass n.kind) r.queue }

/-- TRANSMISSION_ATTEMPT (R3, R5): at the deference point, with no frame on the line. -/
def State.attempt (s : State) (t : Moment) : State :=
  match s.rlp.deference, s.offeredNotice with
  | some d, some (fromSlot, n) =>
    if s.rlp.attempt.isSome || s.rlp.line = .busy then s.advance t
    else (s.advance (max t d.point)).beginAttempt fromSlot n
  | _, _ => s.advance t

/-- TRANSMISSION_ATTEMPT. -/
def execTransmissionAttempt (t : Moment) (s : State) : Result := .next (s.attempt t)

/-- The RLP at completion (R5, R17). -/
def Rlp.complete (r : Rlp) (a : Attempt) (now interval : Nat) : Rlp :=
  let joins : Bool := a.notice.kind = .join
  { r with
    queue := r.queue.filter fun q => !q.inAttempt
    slot := if a.fromSlot then none else r.slot
    attempt := none, nextSeq := r.nextSeq + 1, collisions := 0, recentSender := true, line := .ended, lastEnd := now
    presenceTimer := if joins then some (now + interval) else r.presenceTimer
    settleTimer := if joins then some (now + 2 * interval) else r.settleTimer }

/-- The effect of a completed attempt (R5, R10, R17, R18): the echo is delivered, and after an own LEAVE the port enters
OFFLINE. -/
def State.complete (s : State) (a : Attempt) : State :=
  let t := (s.mapRlp fun r => r.complete a s.now s.presenceInterval).deliver s.own a.seq a.notice
  if a.notice.kind = .leave then t.enterOffline else t

/-- TRANSMISSION_COMPLETE. -/
def execTransmissionComplete (t : Moment) (s : State) : Result :=
  .next (match s.rlp.attempt with
    | some a => ((s.advance (max t a.doneAt)).complete a).settle
    | none => s.advance t)

/-- The RLP at a collision (R2, R6, R15): a jam of 16 bit times, whose last bit ends the frame, the count raised, a withdrawn
notice gone. -/
def Rlp.collide (r : Rlp) (now : Moment) : Rlp :=
  { r with
    queue := (r.queue.filter fun q => !(q.inAttempt && q.withdrawn)).map fun q => { q with inAttempt := false }
    attempt := none, collisions := r.collisions + 1, line := .jam, lastEnd := now + 64 }

/-- Whether the notice in the attempt has been withdrawn. -/
def State.attemptWithdrawn (s : State) : Bool := s.rlp.queue.any fun q => q.inAttempt && q.withdrawn

/-- The effect of a collision (R6, R7, R15, R60). -/
def State.collide (s : State) (a : Attempt) : State :=
  let t := s.mapRlp fun r => r.collide s.now
  let u :=
    match a.notice with
    | .claim c _ =>
      (match panOf c with
       | some p => if s.attemptWithdrawn && (t.drive p).claimStage = .queued then t.mapPd p Drive.claimOver else t
       | none => t)
    | _ => t
  if 8 ≤ u.rlp.collisions then u.tooManyCollisions else u

/-- COLLISION. -/
def execCollision (t : Moment) (s : State) : Result :=
  .next (match s.rlp.attempt with
    | some a => ((s.advance t).collide a).settle
    | none => s.advance t)

/-- A valid frame in the port state it arrives in (R4, R8, R9). -/
def State.takeFrame (s : State) (f : Frame) : State :=
  let t := if f.origin = s.own then s else s.mapRlp fun r => { r with recentSender := false }
  if s.rlp.port = .offline then t else if f.origin = s.own then t.duplicateStation else t.receive f

/-- The frame read when its end symbol is valid (R8). -/
def validFrame (bytes : List Byte) (endValid : Bool) : Option Frame := if endValid then readFrame bytes else none

/-- The line after a frame has ended now (R2); while a jam runs on, the line stays busy until its last bit. -/
def State.frameEnds (s : State) : State :=
  s.mapRlp fun r => { r with line := if s.now < r.lastEnd then .jam else .ended, lastEnd := max r.lastEnd s.now }

/-- FRAME_RECEIVED (R8): a discarded frame has no effect beyond the view of the line. -/
def execFrameReceived (t : Moment) (bytes : List Byte) (endValid : Bool) (s : State) : Result :=
  .next (if s.rlp.attempt.isSome then s.advance t
    else
      match validFrame bytes endValid with
      | none => (s.advance t).frameEnds.refreshDeference
      | some f => ((s.advance t).frameEnds.takeFrame f).settle)

/-- A lost CO notice queued again while the round is open, for a CO-PROBE with the probe still UP; the record is cleared
(R147). A CO-PROBE that is not queued again leaves none queued for the round (R137). -/
def State.requeueClose (s : State) : State :=
  let t := s.mapCu fun c => { c with lost := none }
  match s.cu.lost with
  | some n =>
    if s.cu.isOpen && (n.kind != .coProbe || s.probeUp) then t.sendClose n
    else if n.kind = .coProbe then t.mapCu fun c => { c with probeReported := false }
    else t
  | none => t

/-- What the presence timer's expiry brings (R16, R76, R147, R166, R184): PRESENT filled, and then the lost notices queued again in
the order of the drives P0 and P1, the CU's, the HEAT-GIVE and the pending LEAVE, by the model's choice
(notes/assumptions/82.md). -/
def State.presence (s : State) (due : Moment) : State :=
  let a := (s.mapRlp fun r => { r with presenceTimer := some (due + s.presenceInterval) }).fillPresent
  let b := (a.eachFitted fun p t => t.requeueOutstanding p).requeueClose.requeueGive
  if b.sc.leaving = some .lost then b.sendLeave else b

/-- PRESENCE_TIMER_EXPIRY. -/
def execPresenceTimerExpiry (t : Moment) (s : State) : Result :=
  .next (s.expire s.rlp.presenceTimer t fun due u => (u.presence due).settle)

/-- The end of settling (R17, R37, R112). -/
def State.online (s : State) : State :=
  let t := s.mapRlp fun r => { r with port := .online, settleTimer := none }
  if s.ru.regime.settled then t
  else (t.mapRu fun r => { r with regime := { r.regime with settled := true } }).rewriteSections

/-- SETTLING_END. -/
def execSettlingEnd (t : Moment) (s : State) : Result :=
  .next (s.expire s.rlp.settleTimer t fun _ u => u.online.settle)

/-- A LIVE station not heard for 3 presence intervals (R27). -/
def State.silent (s : State) (n : Nat) : State :=
  ((s.mapPeer n fun x => { x with status := .silent, silence := none }).loseEntries n).raiseEvent
    (.peerStatus n .silent (s.peer n).doubtful)

/-- SILENCE_TIMER_EXPIRY. -/
def execSilenceTimerExpiry (t : Moment) (n : Nat) (s : State) : Result :=
  .next (s.expire (s.peer n).silence t fun _ u => (u.silent n).settle)

/-- The entries of a station that left vented removed (R29). -/
def State.dropClear (s : State) (n : Nat) : State := (s.mapPeer n fun x => { x with dropClear := none }).removeEntries n

/-- DROP_CLEAR_TIMER_EXPIRY. -/
def execDropClearTimerExpiry (t : Moment) (n : Nat) (s : State) : Result :=
  .next (s.expire (s.peer n).dropClear t fun _ u => (u.dropClear n).settle)

/-- The go-ahead of an unobjected own record (R43, R62, R165). -/
def State.handGoAhead (s : State) (c : Contest) : State :=
  match c.body with
  | .claim p =>
    if (s.ownEntry p).any fun e => e.state = .claimed && e.claimSeq = some c.target.seq then
      (s.goAhead p c.target.seq).scraperReopens p
    else s
  | .heatTake _ _ => s.mapIu fun i => { i with takePending := false }
  | .regime _ _ => s

/-- The end of a contest record's window (R43). -/
def State.windowEnds (s : State) (c : Contest) : State :=
  let t := s.dropContest c.target
  if c.target.station = s.own && !c.objected then t.handGoAhead c else t

/-- WINDOW_TIMER_EXPIRY. -/
def execWindowTimerExpiry (t : Moment) (target : Target) (s : State) : Result :=
  .next (match s.contest target with
    | some c => ((s.advance (max t c.due)).windowEnds c).settle
    | none => s.advance t)

end Sys2Proof.Machine
end

