-- ==== Sys2Proof/Machine/DriveCommands.lean ====
section
/-! DEFINITION. The commands of the pantograph drives: their timers, the housed input and the drop line. A drive whose
pantograph is not fitted takes no input (R49). -/

namespace Sys2Proof.Machine

/-- The expiry of a timer of a fitted drive. -/
def State.driveExpiry (s : State) (p : Pan) (tm : Drive → Timer) (t : Moment) (k : Moment → State → State) : State :=
  if s.fitted p then s.expire (tm (s.drive p)) t k else s.advance t

/-- The dead interval over: the valves are served (R51, R52). -/
def State.deadOver (s : State) (p : Pan) : State :=
  s.mapPd p fun d => Drive.serve { d with deadTimer := none } s.now s.deadInterval

/-- DEAD_INTERVAL_END. -/
def execDeadIntervalEnd (t : Moment) (p : Pan) (s : State) : Result :=
  .next (s.driveExpiry p (fun d => d.deadTimer) t fun _ u => u.deadOver p)

/-- When an open pulse ends. -/
def Drive.pulseEnd (d : Drive) : Timer :=
  match d.pulse with
  | .running due => some due
  | _ => none

/-- PULSE_END (R52). -/
def execPulseEnd (t : Moment) (p : Pan) (s : State) : Result :=
  .next (s.driveExpiry p Drive.pulseEnd t fun _ u => u.mapPd p fun d => d.pulseOver u.now u.deadInterval)

/-- The count a sensor conflict is found above (R71). -/
def sensorLimit : Int := 200

/-- The channel's part of housing (R88). -/
def PosChannel.reference (c : PosChannel) : PosChannel := { c with housingCount := c.count, count := 0 }

/-- Housing (R50, R55, R69, R71, R88): the indication set, the count referenced, the sensor check, then the waiting drive. -/
def State.housing (s : State) (p : Pan) : State :=
  let count := s.position p
  let a := (s.mapPd p fun d => { d with housed := true }).mapMu fun m => { m with pos := m.pos.set p (m.pos.get p).reference }
  let b := if sensorLimit < count then a.sensorConflict p count else a
  b.takeHousing p

/-- HOUSING: the housed input has been active since `since`, and the indication is set after 30 ms (R50). -/
def execHousing (t : Held) (p : Pan) (s : State) : Result :=
  .next (if s.fitted p then s.filter [(.housed p, true)] t.since t.moment fun _ u => (u.housing p).settle else s.advance t.moment)

/-- The housed input inactive: the indication is clear at once (R50). -/
def State.unhoused (s : State) (p : Pan) : State :=
  (s.mapPins fun x => x.set (.housed p) ⟨false, s.now⟩).mapPd p fun d => { d with housed := false }

/-- HOUSED_INPUT_INACTIVE (R50): a housing that had its 30 ms by then comes first. -/
def execHousedInputInactive (t : Moment) (p : Pan) (s : State) : Result :=
  .next (if s.fitted p then ((s.acceptUpTo 1 [.housed p] (fun _ u => (u.housing p).settle) t).advance t).unhoused p
    else s.advance t)

/-- A drop line level. -/
def State.setDropLine (s : State) (p : Pan) (b : Bool) : State := { s with dropLine := s.dropLine.set p b }

/-- DROP_LINE_ACTIVE (R53, R54). -/
def execDropLineActive (t : Moment) (p : Pan) (s : State) : Result :=
  .next (if s.dropLine.get p then s.advance t
    else if s.fitted p then (((s.advance t).setDropLine p true).dropDrive p .dropLine).settle
    else (s.advance t).setDropLine p true)

/-- DROP_LINE_INACTIVE (R53). -/
def execDropLineInactive (t : Moment) (p : Pan) (s : State) : Result := .next ((s.advance t).setDropLine p false)

/-- A raise that ends without contact: RAISE_TIMEOUT or NO_WIRE (R64, R75). The fault's event and notice come before the
lowering's DRIVE_STATE, and before the notice of a housing taken at once, by the model's choice (notes/assumptions/79.md). -/
def State.raiseFails (s : State) (p : Pan) (k : FaultKind) : State :=
  (s.driveFault p k (s.position p)).orderDown p .fault

/-- RAISE_TIMEOUT. -/
def execRaiseTimeout (t : Moment) (p : Pan) (s : State) : Result :=
  .next (s.driveExpiry p (fun d => d.raiseTimer) t fun _ u => (u.raiseFails p .raiseTimeout).settle)

/-- REGULATION_PERIOD (R65, R66). -/
def execRegulationPeriod (t : Moment) (p : Pan) (s : State) : Result :=
  .next (s.driveExpiry p (fun d => d.regulationTimer) t fun due u => u.beginPeriod p due)

/-- STUCK_UP (R70). -/
def State.stuckUp (s : State) (p : Pan) : State :=
  (s.mapPd p fun d => { d with lowerTimer := none }).driveFault p .stuckUp (s.position p)

/-- LOWER_TIMER_EXPIRY. -/
def execLowerTimerExpiry (t : Moment) (p : Pan) (s : State) : Result :=
  .next (s.driveExpiry p (fun d => d.lowerTimer) t fun _ u => (u.stuckUp p).settle)

end Sys2Proof.Machine
end

