-- ==== Sys2Proof/Machine/Measure.lean ====
section
/-! DEFINITION. The commands of the measurement unit (chapter 4): edges, captures and takes, position, arcs and the
odometer. An edge is a change of a filtered level, made at the moment the filter accepts it (R77). -/

namespace Sys2Proof.Machine

/-! ## Capturing channels -/

/-- The no-signal time, 100 ms (R81). -/
def noSignalTime : Nat := 100000

/-- Microseconds a running capture counter has counted, and its 16 bits (R79; notes/assumptions/15.md). -/
def CaptureRecord.elapsed (c : CaptureRecord) (now : Moment) : Nat :=
  match c.counterFrom with
  | some m => now - m
  | none => c.counterHeld

def CaptureRecord.counter (c : CaptureRecord) (now : Moment) : Nat := c.elapsed now % 65536

/-- The capture counter and overflow count set to 0 and running from a moment (R79, R82). -/
def CaptureRecord.restart (c : CaptureRecord) (now : Moment) : CaptureRecord :=
  { c with counterFrom := some now, counterHeld := 0, overflow := 0 }

/-- The capture counter standing where it is (notes/assumptions/15.md). -/
def CaptureRecord.stand (c : CaptureRecord) (now : Moment) : CaptureRecord :=
  { c with counterFrom := none, counterHeld := c.counter now }

/-- An accepted edge: the level, the signal status and the no-signal timer (R81). -/
def CaptureRecord.edge (c : CaptureRecord) (level : Bool) (now : Moment) : CaptureRecord :=
  { c with level := level, signal := true, noSignal := some (now + noSignalTime) }

/-- A capture made and offered: it replaces the one held, and a fresh one it replaces is overrun (R83). -/
def CaptureRecord.offer (c : CaptureRecord) (x : Capture) : CaptureRecord :=
  { c with capture := some x, overrun := c.overrun || c.fresh, fresh := true }

/-- The capture of NO_SIGNAL (R81). -/
def noSignalCapture : Capture := ⟨.noSignal, none, none, none, none⟩

/-- The passage to NO_SIGNAL (R81). -/
def CaptureRecord.quiet (c : CaptureRecord) : CaptureRecord :=
  { c with signal := false, noSignal := none }.offer noSignalCapture

/-- The frequency of eight periods (R79); at an interval of 0 it is free (notes/assumptions/11.md). -/
def frequencyOf (interval : Nat) : Nat := if interval = 0 then Config.zeroIntervalFrequency else 8000000 / interval

/-- The line voltage of a frequency, in tenths of a kV (R84). -/
def voltageOf (f f0 slope : Nat) : Nat := min 9999 ((f - f0) * 10 / slope)

/-- The contact force of a frequency, in N (R85). -/
def forceOf (f f0 slope : Nat) : Nat := min 65535 ((f - f0) / slope)

/-- The converted quantity of a channel (R84, R85). -/
def State.convert (s : State) (ch : PulseChan) (f : Nat) : Nat :=
  match ch with
  | .lv => voltageOf f (s.zeroFrequency ch) (s.slope ch)
  | _ => forceOf f (s.zeroFrequency ch) (s.slope ch)

/-- The capture of a closed measurement of a channel (R80). -/
def State.pulseCapture (s : State) (ch : PulseChan) (interval : Nat) : Capture :=
  if interval < 131072 then
    ⟨.valid, some interval, some (frequencyOf interval), some (s.convert ch (frequencyOf interval)), none⟩
  else ⟨.over, none, none, none, none⟩

/-- A rising edge of a pulse-interval channel (R79, R80). -/
def State.pulseRise (s : State) (ch : PulseChan) (c : PulseChannel) : PulseChannel :=
  match c.measurement with
  | none => ⟨c.cap.restart s.now, some ⟨s.now, 0⟩⟩
  | some m =>
    if m.periods = 7 then ⟨(c.cap.offer (s.pulseCapture ch (s.now - m.opened))).restart s.now, some ⟨s.now, 0⟩⟩
    else ⟨c.cap, some ⟨m.opened, m.periods + 1⟩⟩

/-- An edge of a pulse-interval channel (R79, R81). -/
def State.pulseEdge (s : State) (ch : PulseChan) (level : Bool) (c : PulseChannel) : PulseChannel :=
  if c.cap.level = level then c
  else
    let e : PulseChannel := ⟨c.cap.edge level s.now, c.measurement⟩
    if level then s.pulseRise ch e else e

/-- A pulse-interval channel of the measurement unit. -/
def Mu.pulse (m : Mu) : PulseChan → PulseChannel
  | .lv => m.lv
  | .frc0 => m.frc.p0
  | .frc1 => m.frc.p1

/-- A pulse-interval channel changed. -/
def Mu.setPulse (m : Mu) (ch : PulseChan) (c : PulseChannel) : Mu :=
  match ch with
  | .lv => { m with lv := c }
  | .frc0 => { m with frc := m.frc.set .p0 c }
  | .frc1 => { m with frc := m.frc.set .p1 c }

/-- The input pin of a pulse-interval channel. -/
def pulsePin : PulseChan → InputPin
  | .lv => .lv
  | .frc0 => .frc .p0
  | .frc1 => .frc .p1

/-- PULSE_INTERVAL_EDGE. -/
def execPulseIntervalEdge (t : Held) (ch : PulseChan) (level : Bool) (s : State) : Result :=
  .next (s.filter [(pulsePin ch, level)] t.since t.moment fun d u =>
    u.mapMu fun m => m.setPulse ch (u.pulseEdge ch (u.levelAt d (pulsePin ch)) (m.pulse ch)))

/-- The ZX capture at an edge (R82). -/
def zxCapture (interval : Nat) (level : Bool) : Capture := ⟨.valid, some interval, none, none, some level⟩

/-- An edge of ZX (R81, R82). -/
def ZxChannel.edge (c : ZxChannel) (level : Bool) (now : Moment) : ZxChannel :=
  if c.cap.level = level then c
  else
    let e := c.cap.edge level now
    match c.previous with
    | none => ⟨e.restart now, some now⟩
    | some m => ⟨(e.offer (zxCapture (now - m) level)).restart now, some now⟩

/-- ZERO_CROSSING_EDGE. -/
def execZeroCrossingEdge (t : Held) (level : Bool) (s : State) : Result :=
  .next (s.filter [(.zx, level)] t.since t.moment fun d u => u.mapMu fun m => { m with zx := m.zx.edge (u.levelAt d .zx) u.now })

/-- The capture record of a channel. -/
def Mu.cap (m : Mu) : CaptureChan → CaptureRecord
  | .lv => m.lv.cap
  | .zx => m.zx.cap
  | .frc0 => m.frc.p0.cap
  | .frc1 => m.frc.p1.cap

/-- The capture record of a channel changed. -/
def Mu.mapCap (m : Mu) (ch : CaptureChan) (f : CaptureRecord → CaptureRecord) : Mu :=
  match ch with
  | .lv => { m with lv := { m.lv with cap := f m.lv.cap } }
  | .zx => { m with zx := { m.zx with cap := f m.zx.cap } }
  | .frc0 => { m with frc := m.frc.set .p0 { m.frc.p0 with cap := f m.frc.p0.cap } }
  | .frc1 => { m with frc := m.frc.set .p1 { m.frc.p1 with cap := f m.frc.p1.cap } }

/-- CAPTURE_COUNTER_OVERFLOW (R79): a running counter that was set to 0 at `m` passes from 65535 to 0 for the k-th time at
`m + 65536 × k`. The pass that comes next after those counted raises the overflow count by one, up to "2 and more" (2), where
it stays. -/
def State.captureOverflow (s : State) (ch : CaptureChan) (t : Moment) : State :=
  match (s.mu.cap ch).counterFrom with
  | none => s.advance t
  | some m =>
    let k := (s.mu.cap ch).overflow
    if 2 ≤ k then s.advance t
    else (s.advance (max t (m + 65536 * (k + 1)))).mapMu fun x => x.mapCap ch fun c => { c with overflow := k + 1 }

/-- CAPTURE_COUNTER_OVERFLOW. -/
def execCaptureCounterOverflow (t : Moment) (ch : CaptureChan) (s : State) : Result := .next (s.captureOverflow ch t)

/-- A channel in NO_SIGNAL: a measurement in progress abandoned, the previous edge of ZX forgotten (R81). -/
def Mu.silence (m : Mu) (ch : CaptureChan) (now : Moment) : Mu :=
  let x := m.mapCap ch fun c => (c.stand now).quiet
  match ch with
  | .lv => { x with lv := { x.lv with measurement := none } }
  | .zx => { x with zx := { x.zx with previous := none } }
  | .frc0 => { x with frc := x.frc.set .p0 { x.frc.p0 with measurement := none } }
  | .frc1 => { x with frc := x.frc.set .p1 { x.frc.p1 with measurement := none } }

/-- NO_SIGNAL_TIMER_EXPIRY (R81). -/
def execNoSignalTimerExpiry (t : Moment) (ch : CaptureChan) (s : State) : Result :=
  .next (s.expire (s.mu.cap ch).noSignal t fun _ u => u.mapMu fun m => m.silence ch u.now)

/-- The accumulators after an LV capture is taken (R93). -/
def Accumulators.takeLv (a : Accumulators) (c : Capture) : Accumulators :=
  match c.validity, c.quantity with
  | .valid, some q => { a with voltageSum := a.voltageSum + q, voltageCount := a.voltageCount + 1 }
  | _, _ => { a with lvInvalid := true }

/-- The accumulators after a ZX capture is taken with its overrun flag (R93). -/
def Accumulators.takeZx (a : Accumulators) (c : Capture) (overrun : Bool) : Accumulators :=
  let b := if overrun then { a with zxOverrun := true } else a
  match c.validity, c.interval, c.level with
  | .valid, some n, some false => { b with highSum := b.highSum + n, highCount := b.highCount + 1 }
  | .valid, some n, some true => { b with lowSum := b.lowSum + n, lowCount := b.lowCount + 1 }
  | _, _, _ => b

/-- Fresh and overrun cleared by a take (R83). -/
def State.clearTake (s : State) (ch : CaptureChan) : State :=
  s.mapMu fun m => m.mapCap ch fun c => { c with fresh := false, overrun := false }

/-- A take by the channel's consumer (R83): the SG, or the drive when its pantograph is fitted. -/
def State.take (s : State) (ch : CaptureChan) (x : Capture) (overrun : Bool) : State :=
  match ch with
  | .lv => (s.clearTake ch).mapSg fun g => { g with acc := g.acc.takeLv x }
  | .zx => (s.clearTake ch).mapSg fun g => { g with acc := g.acc.takeZx x overrun }
  | .frc0 => if s.fitted .p0 then (s.clearTake ch).takeForce .p0 x else s
  | .frc1 => if s.fitted .p1 then (s.clearTake ch).takeForce .p1 x else s

/-- CAPTURE_TAKE (R83): the consumer takes a capture that is offered. -/
def execCaptureTake (t : Moment) (ch : CaptureChan) (s : State) : Result :=
  .next (match (s.mu.cap ch).fresh, (s.mu.cap ch).capture with
    | true, some x => ((s.advance t).take ch x (s.mu.cap ch).overrun).settle
    | _, _ => s.advance t)

/-! ## Position (R87) -/

/-- The phase state, 0 to 3 for the states 1 to 4 of R87. -/
def phaseState (a b : Bool) : Nat :=
  match a, b with
  | false, false => 0
  | true, false => 1
  | true, true => 2
  | false, true => 3

/-- A count kept within −32768 to 32767 (R87). -/
def limitCount (n : Int) : Int := max (-32768) (min 32767 n)

/-- The channel after its phases have become a pair (R87). -/
def PosChannel.edge (c : PosChannel) (a b : Bool) : PosChannel :=
  match (phaseState a b + 4 - phaseState c.a c.b) % 4 with
  | 0 => c
  | 1 => { c with a := a, b := b, count := limitCount (c.count + 1) }
  | 2 => { c with a := a, b := b, skips := min 255 (c.skips + 1) }
  | _ => { c with a := a, b := b, count := limitCount (c.count - 1) }

/-- What the drive makes of a changed count: NO_WIRE in RAISING above the maximum travel (R64), and a sensor conflict when a
housed pantograph's count rises above 200 (R71). -/
def State.watchCount (s : State) (p : Pan) (before : Int) : State :=
  let count := s.position p
  if !s.fitted p then s
  else if (s.drive p).housed && before ≤ sensorLimit && sensorLimit < count then s.sensorConflict p count
  else if (s.drive p).state = .raising && before ≤ s.maximumTravel && (s.maximumTravel : Int) < count then
    s.raiseFails p .noWire
  else s

/-- The phases of a position channel become a pair (R87), and the drive looks at the count. -/
def State.phases (s : State) (p : Pan) (a b : Bool) : State :=
  ((s.mapMu fun m => { m with pos := m.pos.set p ((m.pos.get p).edge a b) }).watchCount p (s.position p)).settle

/-- ENCODER_EDGE: each phase has its own filter, and phases accepted at one moment change together (R77, R87). -/
def execEncoderEdge (t : Held) (p : Pan) (a b : Bool) (s : State) : Result :=
  .next (s.filter [(.posA p, a), (.posB p, b)] t.since t.moment fun d u =>
    u.phases p (u.levelAt d (.posA p)) (u.levelAt d (.posB p)))

/-! ## Arcs and the odometer (R89 to R92) -/

/-- The channel after its level has become a value: a rising edge counts (R91). -/
def ArcChannel.edge (c : ArcChannel) (level : Bool) : ArcChannel :=
  if level && !c.level then
    { c with level := true, count := c.count + 1, overflow := if c.count = 65535 then min 2 (c.overflow + 1) else c.overflow }
  else { c with level := level }

/-- ARC_PULSE (R91). -/
def execArcPulse (t : Held) (p : Pan) (level : Bool) (s : State) : Result :=
  .next (s.filter [(.arc p, level)] t.since t.moment fun d u =>
    u.mapMu fun m => { m with arc := m.arc.set p ((m.arc.get p).edge (u.levelAt d (.arc p))) })

/-- The window result (R80, R91). -/
def ArcChannel.result (c : ArcChannel) : ArcResult :=
  match c.overflow with
  | 0 => .count c.count.toNat
  | 1 => .count (65536 + c.count.toNat)
  | _ => .over

/-- The channel at a window end (R91). -/
def ArcChannel.close (c : ArcChannel) : ArcChannel := { c with last := some c.result, count := 0, overflow := 0 }

/-- The pulse, millimetre and fraction counts after an axle pulse, and whether it makes a metre step (R89). -/
def Odo.pulse (o : Odo) (mm : Nat) : Odo × Bool :=
  let q := { o with pulses := o.pulses + 1, millimetres := o.millimetres + BitVec.ofNat 32 mm }
  if 1000 ≤ o.fraction + mm then ({ q with fraction := o.fraction + mm - 1000 }, true)
  else ({ q with fraction := o.fraction + mm }, false)

/-- A metre step's tests (R90): the points of the SQ and the CU (R115, R117, R118, R128), then every unit's, the proposal
point (R121), the probe point (R135) and the IU's tests among them. -/
def State.metreTests (s : State) : State := s.passSections.followSections.testLower.settle

/-- Whether a metre step ends the arc window (R92). -/
def State.windowCloses (s : State) : Bool := s.arcWindow ≤ s.mu.odo.windowMetres + 1

/-- The arc window advanced by a metre step (R91, R92); the arc window end is handed to the IU. -/
def State.advanceWindow (s : State) : State :=
  if s.windowCloses then
    ((s.mapMu fun m => { m with
      odo := { m.odo with windowMetres := 0 }, arc := ⟨m.arc.p0.close, m.arc.p1.close⟩ }).arcWindowEnd
      ⟨s.mu.arc.p0.result, s.mu.arc.p1.result⟩).settle
  else s.mapMu fun m => { m with odo := { m.odo with windowMetres := m.odo.windowMetres + 1 } }

/-- A metre step (R90): the count, the tests of the units against it, and then the arc window. -/
def State.metreStep (s : State) : State :=
  (s.mapMu fun m => { m with odo := { m.odo with metres := m.odo.metres + 1 } }).metreTests.advanceWindow

/-- A rising edge of ODO (R89). -/
def State.axlePulse (s : State) : State :=
  let r := s.mu.odo.pulse s.millimetresPerPulse
  let t := s.mapMu fun m => { m with odo := { r.1 with level := true } }
  if r.2 then t.metreStep else t

/-- An edge of ODO: a falling one makes only the level low. -/
def State.odoEdge (s : State) (level : Bool) : State :=
  if level then s.axlePulse else s.mapMu fun m => { m with odo := { m.odo with level := false } }

/-- AXLE_PULSE (R89). -/
def execAxlePulse (t : Held) (level : Bool) (s : State) : Result :=
  .next (s.filter [(.odo, level)] t.since t.moment fun d u => u.odoEdge (u.levelAt d .odo))

end Sys2Proof.Machine
end

