-- ==== Sys2Proof/Machine/GearCommands.lean ====
section
/-! DEFINITION. The commands of the switchgear, the rounds' timers, the ice unit's timers and the heaters. -/

namespace Sys2Proof.Machine

/-! ## Switchgear -/

/-- A change of the stable class handed on: LINE_CLASS, supervision and the probe's judgement (R95, R107, R137). -/
def State.classChanged (s : State) (before : LineClass) : State :=
  if s.sg.line.stable = before then s
  else (s.raiseEvent (.lineClass s.sg.line.stable before)).supervise.judgeProbe

/-- The end of a classifier window (R93 to R95). -/
def State.classify (s : State) (due : Moment) : State :=
  (s.mapSg fun g => { g with
    line := g.line.take (g.acc.result s.mu.lv.cap.signal)
    acc := Accumulators.empty, windowTimer := some (due + 160000) }).classChanged s.sg.line.stable

/-- CLASSIFIER_WINDOW_END. -/
def execClassifierWindowEnd (t : Moment) (s : State) : Result :=
  .next (s.expire s.sg.windowTimer t fun due u => (u.classify due).settle)

/-- The selector's filtered contacts. -/
def State.setSelContacts (s : State) (c : SelContacts) : State :=
  s.mapSg fun g => { g with selector := { g.selector with contacts := c } }

/-- The selector's filtered contacts changed (R98, R99). -/
def State.selectorFeedback (s : State) (c : SelContacts) : State := (s.setSelContacts c).selectorArrival.selectorWatch.settle

/-- SELECTOR_FEEDBACK_CHANGE: each contact has its own filter of 30 ms (R96). -/
def execSelectorFeedbackChange (t : Held) (c : SelContacts) (s : State) : Result :=
  .next (s.filter [(.selAc, c.ac), (.selOpn, c.opn), (.selDc, c.dc)] t.since t.moment fun d u =>
    u.selectorFeedback ⟨u.levelAt d .selAc, u.levelAt d .selOpn, u.levelAt d .selDc⟩)

/-- A leg not ended within 3 s (R98): SELECTOR_TIMEOUT, and the confirmed position before the leg returns. -/
def State.legTimeout (s : State) : State :=
  let x := s.sg.selector
  ((s.mapSg fun g => { g with selector := g.selector.atRest g.selector.before }).gearFault .selectorTimeout
    (.selector x.leg x.before) none).answerCu false

/-- SELECTOR_LEG_TIMEOUT. -/
def execSelectorLegTimeout (t : Moment) (s : State) : Result :=
  .next (s.expire s.sg.selector.legTimer t fun _ u => u.legTimeout.settle)

/-- An isolator's filtered contacts changed (R102); the isolator of a pantograph that is not fitted is not kept (R181). -/
def State.isolatorFeedback (s : State) (p : Pan) (c : IsoContacts) : State :=
  if s.fitted p then (((s.mapIso p fun i => { i with contacts := c }).isoArrival p).isoWatch p).settle
  else s.mapIso p fun _ => Isolator.reset c

/-- ISOLATOR_FEEDBACK_CHANGE: each contact has its own filter of 30 ms (R100). -/
def execIsolatorFeedbackChange (t : Held) (p : Pan) (c : IsoContacts) (s : State) : Result :=
  .next (s.filter [(.isoOpn p, c.opn), (.isoClosed p, c.closed)] t.since t.moment fun d u =>
    u.isolatorFeedback p ⟨u.levelAt d (.isoOpn p), u.levelAt d (.isoClosed p)⟩)

/-- A move not ended within 2 s (R102): ISOLATOR_TIMEOUT, and then "isolator failed", in the order of the rule's text
(notes/assumptions/65.md). -/
def State.moveTimeout (s : State) (p : Pan) : State :=
  (s.gearFault .isolatorTimeout (.isolator p (s.sg.iso.get p).moving) (some p)).isoFails p

/-- ISOLATOR_MOVE_TIMEOUT. -/
def execIsolatorMoveTimeout (t : Moment) (p : Pan) (s : State) : Result :=
  .next (s.expire (s.sg.iso.get p).moveTimer t fun _ u => (u.moveTimeout p).settle)

/-- A change of the filtered breaker input (R105, R106). -/
def State.breakerInput (s : State) (active : Bool) : State :=
  (s.mapSg fun g => { g with
    breakerOpen := active
    breakerTimer :=
      if active then none
      else if g.reasons.any then g.breakerTimer.or (s.timerFor s.breakerPeriod) else g.breakerTimer }).raiseEvent (.breakerConfirm active)

/-- BREAKER_INPUT_CHANGE: the input has a filter of 30 ms (R105). -/
def execBreakerInputChange (t : Held) (active : Bool) (s : State) : Result :=
  .next (s.filter [(.breaker, active)] t.since t.moment fun d u => (u.breakerInput (u.levelAt d .breaker)).settle)

/-- The breaker timer over: BREAKER_LATE with the reason set (R106, R109). -/
def State.breakerLate (s : State) : State :=
  let d := FaultDetail.breakerTimer s.sg.reasons
  (s.mapSg fun g => { g with breakerTimer := none }).raiseFault .breakerLate d none (Config.faultDetailByte d)

/-- BREAKER_TIMER_EXPIRY. -/
def execBreakerTimerExpiry (t : Moment) (s : State) : Result :=
  .next (s.expire s.sg.breakerTimer t fun _ u => u.breakerLate.settle)

/-- The dead-line timer over: LINE_DEAD with the metre count (R108). -/
def State.lineDead (s : State) : State :=
  (s.mapSg fun g => { g with deadLineTimer := none }).raiseEvent (.lineDead s.mu.odo.metres)

/-- DEAD_LINE_TIMER_EXPIRY. -/
def execDeadLineTimerExpiry (t : Moment) (s : State) : Result :=
  .next (s.expire s.sg.deadLineTimer t fun _ u => u.lineDead.settle)

/-! ## Rounds -/

/-- The round timer over (R142): CO-ABORT queued, or in ADOPTED the local close. In catch-up the timer is stopped. -/
def State.roundTimeoutOver (s : State) : State :=
  let t := s.mapCu fun c => { c with roundTimer := none }
  if s.cu.phase = .adopted then t.closeAborted .timeout
  else t.sendClose (.coAbort s.cu.number (systemCode s.cu.target) (if s.peerUnsure then 3 else 1))

/-- ROUND_TIMER_EXPIRY. -/
def execRoundTimerExpiry (t : Moment) (s : State) : Result :=
  .next (s.expire s.cu.roundTimer t fun _ u => u.roundTimeoutOver.settle)

/-- PROBE_WAIT_TIMER_EXPIRY (R137). -/
def execProbeWaitTimerExpiry (t : Moment) (s : State) : Result :=
  .next (s.expire s.cu.probeWait t fun _ u => u.reportProbe.settle)

/-- PROBE_RETRY_TIMER_EXPIRY (R136): the conditions of R135 are tested again within the step. -/
def execProbeRetryTimerExpiry (t : Moment) (s : State) : Result :=
  .next (s.expire s.cu.probeRetry t fun _ u => (u.mapCu fun c => { c with probeRetry := none }).settle)

/-! ## Ice unit -/

/-- The scraper retry timer over (R159): a record in CLAIMING goes to CLOSING when a condition of R158 is false, a claim still
CANCELLED among them; where they hold the drive is asked again within the step. -/
def State.scraperRetryOver (s : State) : State :=
  let t := s.mapIu fun i => { i with scraper := { i.scraper with retry := none } }
  match s.iu.scraper.phase, s.iu.scraper.pan with
  | .claiming, some p => if t.scraperMay p then t else t.closeScraper p
  | _, _ => t

/-- SCRAPER_RETRY_TIMER_EXPIRY. -/
def execScraperRetryTimerExpiry (t : Moment) (s : State) : Result :=
  .next (s.expire s.iu.scraper.retry t fun _ u => u.scraperRetryOver.settle)

/-- HEAT_RETRY_TIMER_EXPIRY (R165): the conditions of R165 are tested again within the step. -/
def execHeatRetryTimerExpiry (t : Moment) (s : State) : Result :=
  .next (s.expire s.iu.heatRetry t fun _ u => (u.mapIu fun i => { i with heatRetry := none, asked := none }).settle)

/-- RELEASE_TIMER_EXPIRY (R166): HEAT-GIVE carrying 0. -/
def execReleaseTimerExpiry (t : Moment) (s : State) : Result :=
  .next (s.expire s.iu.release t fun _ u => ((u.mapIu fun i => { i with release := none }).giveHeat 0).settle)

/-- HEATER_PERIOD (R167); the heater of a pantograph that is not fitted is not kept (R181). -/
def execHeaterPeriod (t : Moment) (p : Pan) (thermal : Bool) (s : State) : Result :=
  .next (if s.fitted p then
      s.expire (s.iu.heaters.get p).periodTimer t fun due u => u.beginHeaterPeriod p due thermal
    else s.advance t)

/-- The time into a heater period at which its active duty ends, in µs: the duty times 62.5 ms (R167). -/
def Heater.dutyTime (h : Heater) : Nat := h.active * 62500

/-- HEATER_DUTY_END (R167): time passes to the end of the active duty, from which the output is off; the output is a view
(Machine/Outputs.lean). -/
def execHeaterDutyEnd (t : Moment) (p : Pan) (s : State) : Result :=
  .next (if s.fitted p then s.advance (max t ((s.iu.heaters.get p).periodStart + (s.iu.heaters.get p).dutyTime))
    else s.advance t)

/-- THERMAL_TRIP (R168): while the enable is clear the input's change is not a trip. -/
def execThermalTrip (t : Moment) (p : Pan) (s : State) : Result :=
  .next (if s.fitted p && (s.iu.heaters.get p).enable then ((s.advance t).tripHeater p).settle else s.advance t)

end Sys2Proof.Machine
end

