-- ==== Sys2Proof/Machine/Supply.lean ====
section
/-! DEFINITION. Full reset and the supply monitor (chapter 10). -/

namespace Sys2Proof.Machine

/-- FULL_RESET (R187), at the end of the reset: every unit takes its reset values from what the pins show at its end; the
commands that wait are the model's own and stay (notes/assumptions/26.md). -/
def execFullReset (pins : ResetPins) (s : State) : Result := .next { State.resetOf pins with pending := s.pending }

/-- The drives at a supply fall (R53, R54). -/
def State.drivesSupplyFall (s : State) : State := s.eachFitted fun p t => t.dropDrive p .supply

/-- The heaters at a supply fall: every enable cleared (R168). -/
def State.heatersSupplyFall (s : State) : State :=
  s.mapIu fun i => { i with heaters := ⟨{ i.heaters.p0 with enable := false }, { i.heaters.p1 with enable := false }⟩ }

/-- A move in progress stopped (R102). -/
def State.stopMove (s : State) (p : Pan) : State := if (s.sg.iso.get p).moving.isSome then s.isoFails p else s

/-- The switchgear at a supply fall: a leg stopped with "selector failed", and each move stopped with "isolator failed"
(R99, R102). -/
def State.gearSupplyFall (s : State) : State :=
  let t := if s.sg.selector.busy then s.stopLeg.answerCu false else s
  (t.stopMove .p0).stopMove .p1

/-- The falling edge (R185): the flag, SUPPLY_STATE, then the port, the drives, the heaters and the switchgear
(notes/assumptions/35.md). -/
def State.supplyFall (s : State) : State :=
  ((s.mapSc fun x => { x with supplyLow := true }).raiseEvent (.supplyState true)).portSupplyFall.drivesSupplyFall.heatersSupplyFall.gearSupplyFall

/-- SUPPLY_FALL: a fall while the flag is set is no edge. -/
def execSupplyFall (t : Moment) (s : State) : Result :=
  .next (if s.sc.supplyLow then s.advance t else (s.advance t).supplyFall.settle)

/-- The rising edge restarts no operation (R186). -/
def State.supplyRise (s : State) : State :=
  (s.mapSc fun x => { x with supplyLow := false }).raiseEvent (.supplyState false)

/-- SUPPLY_RISE: a rise while the flag is clear is no edge. -/
def execSupplyRise (t : Moment) (s : State) : Result :=
  .next (if s.sc.supplyLow then (s.advance t).supplyRise.settle else s.advance t)

end Sys2Proof.Machine
end

