-- ==== Sys2Proof/Machine/HostCommands.lean ====
section
/-! DEFINITION. The host commands that act (chapter 9): each request is tested as R171 orders, answers with its result,
and has its effect in the same step. -/

namespace Sys2Proof.Machine

/-- A request that fails a test: it has no effect, and the response carries its result alone (R171). -/
def State.fails (s : State) (code : Byte) (r : ResultCode) : State := s.respond code r .empty

/-- A request that is taken: its response, with data formed as its effect leaves them, and the hand-offs (R171). -/
def State.taken (s : State) (code : Byte) (d : ResponseData) : State := (s.respond code .ok d).settle

/-- The frame of a host command: the tests of check and arguments, then the command's own part. -/
def State.hosted {α : Type} (s : State) (t : Moment) (code : Byte) (req : Request) (parse : State → List Byte → Option α)
    (act : α → State → State) : State :=
  match parseRequest code req (parse s) with
  | .error r => (s.advance t).fails code r
  | .ok a => act a (s.advance t)

/-! ## Configuration and membership -/

/-- A drive, isolator and heater that become fitted or cease to be: reset values from now (R181; notes/assumptions/16.md).
The change of the drive state raises no DRIVE_STATE by the model's choice (notes/assumptions/53.md). -/
def State.refit (s : State) (before : Bool) (housedInput : Bool) (p : Pan) : State :=
  if before = s.fitted p then s
  else
    let t := ((s.mapPd p fun _ => Drive.reset housedInput s.now s.deadInterval s.lowerLimit (s.collectorSetpoint 0)).mapIso p
      fun i => Isolator.reset i.contacts).mapHeater p fun _ => Heater.reset s.now
    ((t.clearArcs p).mapPins fun x => x.set (.housed p) ⟨housedInput, s.now⟩).mapIu fun i =>
      { i with scraper := { i.scraper with barred := i.scraper.barred.set p false } }

/-- The bytes written and the fingerprint computed again (R181, R182). -/
def State.writeConfig (s : State) (offset : Nat) (data : List Byte) (housed : Pair Bool) : State :=
  let t := s.mapSc fun x =>
    let m := x.config.writeAll offset data
    { x with config := m, fingerprint := if offset < 28 then fingerprintOf m else x.fingerprint }
  (t.refit (s.fitted .p0) housed.p0 .p0).refit (s.fitted .p1) housed.p1 .p1

/-- WRITE_CONFIG (R181). -/
def execWriteConfig (t : Moment) (req : Request) (housed : Pair Bool) (s : State) : Result :=
  .next (s.hosted t 0x01 req State.configWriteArg fun a u =>
    if u.sc.locked then u.fails 0x01 .locked
    else
      let v := u.writeConfig a.1 a.2 housed
      v.taken 0x01 (.fingerprint v.sc.fingerprint))

/-- READ_CONFIG (R181). -/
def execReadConfig (t : Moment) (req : Request) (s : State) : Result :=
  .next (s.hosted t 0x02 req (fun _ => configReadArg) fun a u =>
    u.respond 0x02 .ok (.config (u.sc.config.readAll a.1 a.2) u.sc.locked u.sc.fingerprint))

/-- JOIN's conditions (R183). -/
def State.mayJoin (s : State) : Bool :=
  isStation s.own && s.rlp.port = .offline && !s.sc.supplyLow && s.allDown &&
    [Pan.p0, Pan.p1].all fun p => !s.fitted p || s.panPosition p ≤ s.trainLength

/-- JOIN taken (R17, R104, R155, R183). -/
def State.join (s : State) : State :=
  let a := (s.mapSc fun x => { x with locked := true }).removeReason .host
  let b := a.mapRu fun r => { r with regime := { r.regime with settled := false } }
  (b.mapRlp fun r => { r with slot := some .join, port := .joining }).refreshIce

/-- JOIN. -/
def execJoin (t : Moment) (req : Request) (s : State) : Result :=
  .next (s.hosted t 0x03 req (fun _ => noArgs) fun _ u =>
    if u.mayJoin then u.join.taken 0x03 .empty else u.fails 0x03 .refused)

/-- LEAVE's conditions (R184). -/
def State.mayLeave (s : State) : Bool := s.transmits && !s.sc.supplyLow && s.sc.leaving = none

/-- LEAVE taken (R104, R166, R184): the LEAVE notice follows within the step once every fitted drive is housed. -/
def State.leave (s : State) : State :=
  let a := (s.mapSc fun x => { x with leaving := some .waiting }).addReason .host
  let b := a.orderAllDown .leave
  if 1 ≤ b.ownGrant then b.giveHeat 0 else b

/-- LEAVE. -/
def execLeave (t : Moment) (req : Request) (s : State) : Result :=
  .next (s.hosted t 0x04 req (fun _ => noArgs) fun _ u =>
    if u.mayLeave then u.leave.taken 0x04 .empty else u.fails 0x04 .refused)

/-! ## Pantographs (R72 to R74) -/

/-- RAISE (R72). A LOWERING drive whose enable is clear meets the BUSY row and the REFUSED row; it answers BUSY, the first of
them, by the model's choice (notes/assumptions/63.md). -/
def execRaise (t : Moment) (req : Request) (s : State) : Result :=
  .next (s.hosted t 0x10 req State.panArg fun p u =>
    match (u.drive p).state with
    | .lowering => u.fails 0x10 .busy
    | .dropped | .blocked => u.fails 0x10 .refused
    | _ =>
      if (u.drive p).enable then (u.mapPd p fun d => { d with raiseRequest := true }).taken 0x10 .empty
      else u.fails 0x10 .refused)

/-- LOWER (R72): the raise request is cleared by the order in every drive state. -/
def execLower (t : Moment) (req : Request) (s : State) : Result :=
  .next (s.hosted t 0x11 req State.panArg fun p u => (u.orderDown p .host).taken 0x11 .empty)

/-- The effect of BLOCK (R73). -/
def State.block (s : State) (p : Pan) : State :=
  let t := s.mapPd p fun d => { d with raiseRequest := false }
  let waiting (u : State) := u.mapPd p fun d => { d with pendingBlock := some (d.pendingBlock.getD .host) }
  match (s.drive p).state with
  | .down => t.blockNow p .host
  | .raising | .up => (waiting t).orderDown p .block
  | .lowering => waiting t
  | _ => t

/-- BLOCK. -/
def execBlock (t : Moment) (req : Request) (s : State) : Result :=
  .next (s.hosted t 0x12 req State.panArg fun p u => (u.block p).taken 0x12 .empty)

/-- UNBLOCK's conditions (R74). -/
def State.mayUnblock (s : State) (p : Pan) : Bool :=
  let d := s.drive p
  !s.dropLine.get p && !s.sc.supplyLow && !(d.housed && sensorLimit < s.position p) && (d.state = .down || d.state = .blocked)

/-- The effect of UNBLOCK (R74). -/
def State.unblock (s : State) (p : Pan) : State :=
  let t := s.mapPd p fun d => { d with enable := true }
  if (s.drive p).state = .blocked then (t.driveTo p .down none).sendYield p else t

/-- UNBLOCK. -/
def execUnblock (t : Moment) (req : Request) (s : State) : Result :=
  .next (s.hosted t 0x13 req State.panArg fun p u =>
    if u.mayUnblock p then (u.unblock p).taken 0x13 .empty else u.fails 0x13 .refused)

/-! ## Regime and changeover -/

/-- A command that queues a notice of origin host (R13, R171): NOT_JOINED, then its own conditions, then QUEUE_FULL, which a
queued vented LEAVE answers too (notes/assumptions/39.md). -/
def State.hostNotice (s : State) (code : Byte) (may : Bool) (n : Notice) (d : ResponseData) (f : State → State) : State :=
  if s.rlp.port != .online then s.fails code .notJoined
  else if !may then s.fails code .refused
  else if s.hostFull || s.ventedHeld then s.fails code .queueFull
  else ((f s).enqueue n true).taken code d

/-- SET_REGIME (R173). -/
def execSetRegime (t : Moment) (req : Request) (s : State) : Result :=
  .next (s.hosted t 0x20 req (fun _ => regimeArg) fun a u =>
    u.hostNotice 0x20 true (.regime (BitVec.ofNat 8 a.1.val) (BitVec.ofNat 8 (directionBit a.2))) .empty id)

/-- The kind and target codes of an announced section (section 11.2). -/
def sectionCodes : SectionKind → Byte × Byte
  | .neutral => (0, 0)
  | .system t => (1, supplyCode t)

/-- ANNOUNCE_SECTION (R111). -/
def execAnnounceSection (t : Moment) (req : Request) (s : State) : Result :=
  .next (s.hosted t 0x21 req (fun _ => sectionArg) fun a u =>
    u.hostNotice 0x21 true
      (.sectionAhead (BitVec.ofNat 8 u.own) u.sq.nextId (sectionCodes a.1).1 (sectionCodes a.1).2 a.2.1 a.2.2)
      (.localId u.sq.nextId) fun v => v.mapSq fun q => { q with nextId := q.nextId + 1 })

/-- PROPOSE_CHANGEOVER (R127). -/
def execProposeChangeover (t : Moment) (req : Request) (s : State) : Result :=
  .next (s.hosted t 0x22 req (fun _ => supplyArg) fun target u =>
    u.hostNotice 0x22 (!u.cu.isOpen && u.ru.regime.system != some target)
      (.coPropose (u.cu.number + 1) (supplyCode target) 0 0 0 0) .empty id)

/-- ABORT_CHANGEOVER (R143). -/
def execAbortChangeover (t : Moment) (req : Request) (s : State) : Result :=
  .next (s.hosted t 0x23 req (fun _ => noArgs) fun _ u =>
    u.hostNotice 0x23 (u.cu.isOpen && u.cu.phase != .adopted && !u.cu.catchUp)
      (.coAbort u.cu.number (systemCode u.cu.target) 2) .empty id)

/-- FORGET's condition (R30). -/
def State.mayForget (s : State) (n : Nat) : Bool :=
  n != s.own && ((s.peer n).status = .silent || (s.peer n).status = .foreign)

/-- The effect of FORGET (R11, R30, R132, R154, R163). -/
def State.forget (s : State) (n : Nat) : State :=
  let a := ((s.removeEntries n).closeStation n).mapPeer n fun _ => Peer.reset
  let b := (a.setGrant n 0).mapIu fun i => { i with table := tableSet i.table n none }
  (b.dropReady n).expect n none

/-- FORGET. -/
def execForget (t : Moment) (req : Request) (s : State) : Result :=
  .next (s.hosted t 0x24 req (fun _ => stationArg) fun n u =>
    if u.mayForget n then (u.forget n).taken 0x24 .empty else u.fails 0x24 .refused)

/-! ## Ice and heating -/

/-- The effect of SET-ICE (R153): a level is forced, or AUTO (`none`) keeps the observation. -/
def State.setIce (s : State) (o : Option Ice) : State :=
  match o with
  | some level => (s.mapIu fun i => { i with forced := true }).observe level
  | none => s.mapIu fun i => { i with forced := false }

/-- SET_ICE. -/
def execSetIce (t : Moment) (req : Request) (s : State) : Result :=
  .next (s.hosted t 0x28 req (fun _ => iceArg) fun o u => (u.setIce o).taken 0x28 .empty)

/-- HEAT (R169). -/
def execHeat (t : Moment) (req : Request) (s : State) : Result :=
  .next (s.hosted t 0x29 req (fun _ => onOffArg) fun b u => (u.mapIu fun i => { i with hostHeat := b }).taken 0x29 .empty)

/-- The effect of UNBLOCK-HEATER (R169). -/
def State.unblockHeater (s : State) (p : Pan) : State :=
  if (s.iu.heaters.get p).inService then s
  else (s.mapHeater p fun h => { h with inService := true, trips := [] }).raiseEvent (.heaterState p)

/-- UNBLOCK_HEATER. -/
def execUnblockHeater (t : Moment) (req : Request) (s : State) : Result :=
  .next (s.hosted t 0x2A req State.panArg fun p u =>
    if u.sc.supplyLow then u.fails 0x2A .refused else (u.unblockHeater p).taken 0x2A .empty)

/-! ## Faults -/

/-- The sticky fault summary as two bytes, bits 11 to 15 zero (section 11.4). -/
def State.faultSummary (s : State) : Word16 := s.lcp.faults.setWidth 16

/-- Whether one of the faults that hold FAULT is set (R104). -/
def State.gearFaulted (s : State) : Bool :=
  s.faultSet .selectorTimeout || s.faultSet .isolatorTimeout || s.faultSet .voltageMismatch

/-- A barred flag cleared, and CLOSED requested where R161 calls for it. -/
def State.unbar (s : State) (p : Pan) : State :=
  if s.iu.scraper.barred.get p then
    let t := s.mapIu fun i => { i with scraper := { i.scraper with barred := i.scraper.barred.set p false } }
    if (s.sg.iso.get p).confirmed != some .closed && ((s.drive p).state = .down || (s.drive p).state = .blocked) then
      t.requestIso p .closed true
    else t
  else s

/-- The effect of CLEAR-FAULTS (R104, R161, R179): the bits, then the SG, then the IU. -/
def State.clearFaults (s : State) (mask : Word16) : State :=
  let a := s.mapLcp fun l => { l with faults := l.faults &&& ~~~(mask.setWidth 11) }
  let b := if a.gearFaulted then a else a.removeReason .fault
  if b.faultSet .isolatorTimeout then b else (b.unbar .p0).unbar .p1

/-- CLEAR_FAULTS. -/
def execClearFaults (t : Moment) (req : Request) (s : State) : Result :=
  .next (s.hosted t 0x40 req (fun _ => maskArg) fun mask u =>
    let v := u.clearFaults mask
    v.taken 0x40 (.faults v.faultSummary))

/-- UNKNOWN_COMMAND (R171): a right check answers BAD_ARG. -/
def execUnknownCommand (t : Moment) (code : Byte) (req : Request) (s : State) : Result :=
  .next (s.hosted t code req (fun _ => fun _ => (none : Option Unit)) fun _ u => u)

/-- TRANSACTION_ABANDONED (R172): nothing is taken and no response is given. -/
def execTransactionAbandoned (t : Moment) (_received : List Byte) (s : State) : Result :=
  .next ((s.advance t).mapLcp fun l => { l with transaction := none })

end Sys2Proof.Machine
end

