-- ==== Sys2Proof/Machine/Reads.lean ====
section
/-! DEFINITION. The reads (section 9.3) and READ-EVENT (R177). A read returns copies of records in which each timer holds
its remaining time (notes/assumptions/28.md), and changes nothing but the response of the transaction. -/

namespace Sys2Proof.Machine

/-- A peer record with remaining times (R175). -/
def State.peerView (s : State) (n : Nat) : Peer :=
  let x := s.peer n
  { x with silence := s.remaining x.silence, dropClear := s.remaining x.dropClear }

/-- A drive record with remaining times. -/
def State.driveView (s : State) (p : Pan) : Drive :=
  let d := s.drive p
  { d with
    deadTimer := s.remaining d.deadTimer, raiseTimer := s.remaining d.raiseTimer
    lowerTimer := s.remaining d.lowerTimer, regulationTimer := s.remaining d.regulationTimer }

/-- An isolator record with its remaining move time. -/
def State.isoView (s : State) (p : Pan) : Isolator :=
  let i := s.sg.iso.get p
  { i with moveTimer := s.remaining i.moveTimer }

/-- A heater record with the remaining period. -/
def State.heaterView (s : State) (p : Pan) : Heater :=
  let h := s.iu.heaters.get p
  { h with periodTimer := s.remaining h.periodTimer }

/-- The round record with remaining times. -/
def State.roundView (s : State) : Cu :=
  { s.cu with
    roundTimer := s.remaining s.cu.roundTimer, probeWait := s.remaining s.cu.probeWait
    probeRetry := s.remaining s.cu.probeRetry }

/-- READ-STATUS part 0 (R174). -/
def State.stationStatus (s : State) : StationStatus where
  strap := s.sc.strap
  port := s.rlp.port
  regime := s.ru.regime
  supplyLow := s.sc.supplyLow
  locked := s.sc.locked
  fingerprint := s.sc.fingerprint
  reasons := s.sg.reasons
  breakerOutput := s.sg.reasons.any
  breakerConfirmed := s.sg.breakerOpen
  breakerRemaining := s.remaining s.sg.breakerTimer
  faults := s.faultSummary
  eventCount := s.lcp.events.length
  overflow := s.lcp.overflow
  milliseconds := s.milliseconds

/-- READ-STATUS part 2 (R174). -/
def State.lineStatus (s : State) : LineStatus where
  line := s.sg.line
  acc := s.sg.acc
  windowRemaining := s.remaining s.sg.windowTimer
  selector := { s.sg.selector with legTimer := s.remaining s.sg.selector.legTimer }
  deadLineRemaining := s.remaining s.sg.deadLineTimer

/-- READ-STATUS part 3 (R174): the score is the station's one score of R151 (notes/assumptions/72.md). -/
def State.iceStatus (s : State) : IceStatus :=
  let hist (p : Pan) : Option (List Nat) := if s.fitted p then some (s.iu.history.get p) else none
  let tally (p : Pan) : Option Nat := if s.fitted p then some (s.iu.tally.get p) else none
  { history := ⟨hist .p0, hist .p1⟩
    tally := ⟨tally .p0, tally .p1⟩
    score := s.score
    observation := s.iu.observation
    forced := s.iu.forced
    noCollector := s.iu.noCollector
    table := s.iu.table
    scraper := { s.iu.scraper with retry := s.remaining s.iu.scraper.retry } }

/-- The data of READ-STATUS for a part (R174). -/
def State.statusData (s : State) (part : Nat) : ResponseData :=
  match part with
  | 0 => .station s.stationStatus
  | 1 => .contests (s.ru.contests.map fun c => { c with due := c.due - s.now })
  | 2 => .line s.lineStatus
  | _ => .ice s.iceStatus

/-- READ_STATUS. -/
def execReadStatus (t : Moment) (req : Request) (s : State) : Result :=
  .next (s.hosted t 0x30 req (fun _ => numberArg 3) fun part u => u.respond 0x30 .ok (u.statusData part))

/-- READ_EVENT (R177): the head record stays until the response has been shifted out. -/
def execReadEvent (t : Moment) (req : Request) (s : State) : Result :=
  .next (s.hosted t 0x31 req (fun _ => noArgs) fun _ u =>
    u.respond 0x31 .ok (.event u.lcp.events.head? u.lcp.events.length u.lcp.overflow))

/-- Whether the transaction in progress is a READ-EVENT whose response carries a record. -/
def Lcp.carriesEvent (l : Lcp) : Bool :=
  match l.transaction with
  | some ⟨_, _, .event (some _) _ _⟩ => true
  | _ => false

/-- The head record removed; the overflow flag is cleared when the queue becomes empty (R177). -/
def Lcp.popEvent (l : Lcp) : Lcp :=
  { l with events := l.events.drop 1, overflow := l.overflow && !(l.events.drop 1).isEmpty, transaction := none }

/-- READ_EVENT_RESPONSE_COMPLETE (R177). -/
def execReadEventResponseComplete (t : Moment) (s : State) : Result :=
  .next (if s.lcp.carriesEvent then (s.advance t).mapLcp Lcp.popEvent
    else (s.advance t).mapLcp fun l => { l with transaction := none })

/-- READ_PEER (R175). -/
def execReadPeer (t : Moment) (req : Request) (s : State) : Result :=
  .next (s.hosted t 0x32 req (fun _ => stationArg) fun n u =>
    u.respond 0x32 .ok (.peer (u.peerView n) ((tableGet u.rlp.expected n).getD none)))

/-- READ_PAN_ENTRY (R175). -/
def execReadPanEntry (t : Moment) (req : Request) (s : State) : Result :=
  .next (s.hosted t 0x33 req (fun _ => entryArg) fun k u => u.respond 0x33 .ok (.panEntry (u.entry k.1 k.2)))

/-- READ_DRIVE (R175). -/
def execReadDrive (t : Moment) (req : Request) (s : State) : Result :=
  .next (s.hosted t 0x34 req State.panArg fun p u =>
    u.respond 0x34 .ok
      (.drive (u.driveView p) (u.isoView p) (u.heaterView p) (u.now - (u.iu.heaters.get p).periodStart)))

/-- READ_ROUND (R175). -/
def execReadRound (t : Moment) (req : Request) (s : State) : Result :=
  .next (s.hosted t 0x35 req (fun _ => noArgs) fun _ u =>
    u.respond 0x35 .ok (.round u.roundView (u.probeCandidate.map fun e => (e.station, e.pan))))

/-- READ_SECTION (R110, R175). -/
def execReadSection (t : Moment) (req : Request) (s : State) : Result :=
  .next (s.hosted t 0x36 req (fun _ => numberArg 7) fun n u =>
    u.respond 0x36 .ok
      (.sections ⟨u.sq.entries.length, u.sq.nextId, u.sq.raiseHold, u.sg.reasons.neutral, u.sq.entries[n]?⟩))

/-- READ_GRANTS (R175). -/
def execReadGrants (t : Moment) (req : Request) (s : State) : Result :=
  .next (s.hosted t 0x37 req (fun _ => noArgs) fun _ u =>
    u.respond 0x37 .ok
      (.grants ⟨u.iu.grants, u.heatBudget, u.effectiveBudget, u.activeGrants.length, u.need, u.demands, u.iu.takePending,
        u.remaining u.iu.release, u.remaining u.iu.heatRetry⟩))

/-- A capturing record as a read shows it: overflow count and remaining time as they stand (R78). -/
def State.capView (s : State) (c : CaptureRecord) : CaptureRecord := { c with noSignal := s.remaining c.noSignal }

/-- A pulse-interval channel as a read shows it. -/
def State.pulseView (s : State) (c : PulseChannel) : ChannelStatus :=
  .pulse { c with cap := s.capView c.cap } (c.cap.counter s.now)

/-- The record of a channel number (R78, R175, chapter 4). -/
def State.channelView (s : State) (n : Nat) : ChannelStatus :=
  match n with
  | 0 => .odo s.mu.odo
  | 1 => s.pulseView s.mu.lv
  | 2 => .zx { s.mu.zx with cap := s.capView s.mu.zx.cap } (s.mu.zx.cap.counter s.now)
  | 3 => .pos s.mu.pos.p0
  | 4 => .pos s.mu.pos.p1
  | 5 => s.pulseView s.mu.frc.p0
  | 6 => s.pulseView s.mu.frc.p1
  | 7 => .arc s.mu.arc.p0
  | _ => .arc s.mu.arc.p1

/-- READ_CHANNEL (R175). -/
def execReadChannel (t : Moment) (req : Request) (s : State) : Result :=
  .next (s.hosted t 0x38 req (fun _ => numberArg 8) fun n u => u.respond 0x38 .ok (.channel (u.channelView n)))

/-- READ_LINE (R175). -/
def execReadLine (t : Moment) (req : Request) (s : State) : Result :=
  .next (s.hosted t 0x39 req (fun _ => noArgs) fun _ u =>
    u.respond 0x39 .ok
      (.port ⟨u.rlp.port, u.rlp.queue.length, u.hostNotices, u.rlp.slot, u.rlp.collisions, u.rlp.recentSender,
        u.rlp.nextSeq, u.remaining u.rlp.presenceTimer, u.remaining u.rlp.settleTimer⟩))

end Sys2Proof.Machine
end

