-- ==== Sys2Proof/Machine/Outputs.lean ====
section
/-! DEFINITION. The outputs, as views of the state: the pins of section 10.6, the bytes of a response and of an event
record (R51, R97, R101, R103, R167, R170, R176, R177, sections 11.5 and 11.6). -/

namespace Sys2Proof.Machine

/-- FILL (R51, R53). -/
def State.fillOutput (s : State) (p : Pan) : Bool := (s.drive p).valve = .fill

/-- VENT (R51). -/
def State.ventOutput (s : State) (p : Pan) : Bool := (s.drive p).valve = .vent

/-- SEL_AC, SEL_OPEN, SEL_DC: the motor output of a position (R96). -/
def State.selectorOutput (s : State) (x : SelPos) : Bool := s.sg.selector.leg = some x

/-- ISO_OPEN and ISO_CLOSE (R101). -/
def State.isolatorOutput (s : State) (p : Pan) (x : IsoPos) : Bool := (s.sg.iso.get p).moving = some x

/-- BRK_OPEN (R103). -/
def State.breakerOutput (s : State) : Bool := s.sg.reasons.any

/-- HEAT (R167): a grant that ceased to be usable within the period turns nothing on again before the next one. -/
def State.heatOutput (s : State) (p : Pan) : Bool :=
  let h := s.iu.heaters.get p
  s.fitted p && h.inService && h.enable && s.grantUsable && !h.cut && s.now - h.periodStart < h.dutyTime

/-- INT: asserted while the event queue holds a record (R177). -/
def State.interruptOutput (s : State) : Bool := !s.lcp.events.isEmpty

/-- The frame bytes of the attempt in progress on LINE_TX (R5). -/
def State.lineOutput (s : State) : Option (List Byte) :=
  s.rlp.attempt.map fun a => Frame.bytes ⟨s.own, a.seq, a.notice⟩

/-- The output pins (sections 10.6 and 11): valves, motors, breaker-open, heaters, the interrupt line, and the frame bytes on
LINE_TX. -/
structure Outputs where
  fill : Pair Bool
  vent : Pair Bool
  selAc : Bool
  selOpen : Bool
  selDc : Bool
  isoOpen : Pair Bool
  isoClose : Pair Bool
  breakerOpen : Bool
  heat : Pair Bool
  interrupt : Bool
  line : Option (List Byte)
deriving DecidableEq, Repr

/-- Every output inactive, and the interrupt line released (R187). -/
def Outputs.inactive : Outputs where
  fill := ⟨false, false⟩
  vent := ⟨false, false⟩
  selAc := false
  selOpen := false
  selDc := false
  isoOpen := ⟨false, false⟩
  isoClose := ⟨false, false⟩
  breakerOpen := false
  heat := ⟨false, false⟩
  interrupt := false
  line := none

/-- The outputs as the units drive them. -/
def State.outputs (s : State) : Outputs where
  fill := ⟨s.fillOutput .p0, s.fillOutput .p1⟩
  vent := ⟨s.ventOutput .p0, s.ventOutput .p1⟩
  selAc := s.selectorOutput .ac
  selOpen := s.selectorOutput .opn
  selDc := s.selectorOutput .dc
  isoOpen := ⟨s.isolatorOutput .p0 .opn, s.isolatorOutput .p1 .opn⟩
  isoClose := ⟨s.isolatorOutput .p0 .closed, s.isolatorOutput .p1 .closed⟩
  breakerOpen := s.breakerOutput
  heat := ⟨s.heatOutput .p0, s.heatOutput .p1⟩
  interrupt := s.interruptOutput
  line := s.lineOutput

/-- Whether a full reset lasts: FULL_RESET stands at the front of the commands, and is taken at the reset's end
(notes/assumptions/26.md). -/
def State.resetting (s : State) : Bool :=
  match s.pending with
  | .fullReset _ :: _ => true
  | _ => false

/-- What the output pins show: every output inactive while a full reset lasts (R187), else as the units drive them. -/
def State.pinsShow (s : State) : Outputs := if s.resetting then Outputs.inactive else s.outputs

/-- The code of a result (section 11.5). -/
def resultByte : ResultCode → Byte
  | .ok => 0
  | .busy => 1
  | .refused => 2
  | .badArg => 3
  | .badCheck => 4
  | .notJoined => 5
  | .queueFull => 6
  | .locked => 7

/-- The kind code of an event (section 11.6). -/
def eventCode : Event → Byte
  | .fault k _ => BitVec.ofNat 8 (faultBit k)
  | .txDiscarded _ => 0x10
  | .txLost _ => 0x11
  | .peerStatus _ _ _ => 0x12
  | .peerFault _ _ _ _ => 0x13
  | .regimeChanged _ _ _ => 0x14
  | .regimeRefused _ => 0x15
  | .claimRefused _ _ _ _ => 0x16
  | .driveState _ _ _ => 0x17
  | .contactLoss _ => 0x18
  | .lineClass _ _ => 0x19
  | .selectorState _ _ => 0x1B
  | .isolatorState _ _ _ => 0x1C
  | .selectorFeedback _ => 0x1D
  | .isolatorFeedback _ _ => 0x1D
  | .breakerReasons _ => 0x1E
  | .breakerConfirm _ => 0x1F
  | .lineDead _ => 0x20
  | .sectionConflict _ _ => 0x21
  | .sectionRefused _ => 0x22
  | .sectionFlush _ => 0x23
  | .roundOpened _ _ _ _ => 0x24
  | .roundPhase _ _ => 0x25
  | .roundClosed _ _ _ => 0x26
  | .proposalIgnored _ _ => 0x27
  | .iceObservation _ _ => 0x28
  | .iceLevel _ => 0x29
  | .scraperState _ _ => 0x2A
  | .heatGrant _ => 0x2B
  | .heatState _ => 0x2C
  | .heatRefused _ => 0x2D
  | .heaterState _ => 0x2E
  | .supplyState _ => 0x2F

/-- The source type of an event with its two source bytes (R176, section 11.6). -/
def eventSource : Event → Byte × Byte × Byte
  | .fault _ (.drive p _) | .fault _ (.heater p) | .fault _ (.isolator p _) | .fault _ (.breakerSection p _) => (1, 0, panCode p)
  | .fault _ (.voltage p _ _) => (1, 0, faultPan p)
  | .fault _ (.breakerRound n) => (3, 0, n)
  | .driveState p _ _ | .claimRefused p _ _ _ | .contactLoss p | .isolatorState p _ _ | .isolatorFeedback p _ => (1, 0, panCode p)
  | .heaterState p => (1, 0, panCode p)
  | .scraperState p _ => (1, 0, faultPan p)
  | .peerStatus n _ _ => (2, 0, BitVec.ofNat 8 n)
  | .peerFault n _ _ _ => (2, 0, BitVec.ofNat 8 n)
  | .roundOpened n _ _ _ | .roundPhase n _ | .roundClosed n _ _ => (3, 0, n)
  | .sectionConflict k _ | .sectionRefused k | .proposalIgnored k _ => (4, k.origin, k.localId)
  | _ => (0, 0, 0)

/-- The code of a close reason (section 11.4). -/
def closeReasonCode : Option CloseReason → Byte
  | none => 0
  | some .wrongSystem => 1
  | some .noVoltage => 2
  | some .unclear => 3
  | some .timeout => 4
  | some .host => 5
  | some .peerUnknown => 6

/-- The two bytes of a section key. -/
def SectionKey.bytes (k : SectionKey) : List Byte := [k.origin, k.localId]

/-- The two bytes of the key of a round: origin 0 for none (section 11.2); an unknown key has no stated coding. -/
def RoundKey.bytes (e : Event) : RoundKey → List Byte
  | .none => [0, 0]
  | .unknown => [Config.detailCode e 1, Config.detailCode e 2]
  | .key k => k.bytes

/-- A number in a place of one byte, limited to the largest value the place holds (R176). -/
def limitedByte (n : Nat) : Byte := BitVec.ofNat 8 (min 255 n)

/-- The bytes of the values that an event carries beside its source, each as the rule that raises the event names it, with the
codes of chapter 11 and one byte for a value; a value for which chapter 11 gives no code has a free one
(notes/assumptions/9.md). CONTACT_LOSS (R75), SECTION_REFUSED (R113), HEAT_STATE (R164), HEATER_STATE (R169), HEATER_TRIP
(R168), the CU's BREAKER_LATE (R129), BUS_COLLISIONS and DUPLICATE_STATION (R7, R9) carry none. ISOLATOR_STATE, and
SELECTOR_STATE at an arrival, carry the confirmed position and the move or leg by the model's choice
(notes/assumptions/77.md). -/
def Event.details (e : Event) : List Byte :=
  let free := Config.detailCode e
  match e with
  | .fault _ (.drive _ detail) => [detail]
  | .fault _ (.selector _ _) => [free 0, free 1]
  | .fault _ (.isolator _ _) | .fault _ (.breakerTimer _) => [free 0]
  | .fault _ (.breakerSection _ key) => key.bytes
  | .fault _ (.voltage _ stable system) => [classCode stable, systemCode system]
  | .fault _ (.heater _) | .fault _ (.breakerRound _) | .fault _ .bare => []
  | .txDiscarded kind | .txLost kind => [kindCode kind]
  | .peerStatus _ _ _ => [free 0, free 1]
  | .peerFault _ code pan detail => [code, pan, detail]
  | .regimeChanged system band direction =>
    [systemCode system, BitVec.ofNat 8 band.val, BitVec.ofNat 8 (directionBit direction)]
  | .regimeRefused reason | .heatRefused reason => [reason]
  | .claimRefused _ role reason _ => [(role.map roleCode).getD 0, reason, free 2]
  | .driveState _ _ _ => [free 0, free 1]
  | .lineClass stable before => [classCode stable, classCode before]
  | .selectorState _ _ | .isolatorState _ _ _ | .selectorFeedback _ => [free 0, free 1]
  | .isolatorFeedback _ _ | .breakerReasons _ | .breakerConfirm _ | .supplyState _ => [free 0]
  | .lineDead metres =>
    [metres.extractLsb' 24 8, metres.extractLsb' 16 8, metres.extractLsb' 8 8, metres.extractLsb' 0 8]
  | .sectionConflict _ held => held.bytes
  | .sectionFlush removed => [limitedByte removed]
  | .roundOpened _ target key _ => (target.map supplyCode).getD (free 0) :: key.bytes e ++ [free 3]
  | .roundPhase _ _ | .scraperState _ _ | .proposalIgnored _ _ => [free 0]
  | .roundClosed _ _ reason => [free 0, closeReasonCode reason]
  | .iceObservation observation _ => [iceCode observation, free 1]
  | .iceLevel level => [iceCode level]
  | .heatGrant units => [limitedByte units]
  | .contactLoss _ | .sectionRefused _ | .heatState _ | .heaterState _ => []

/-- A byte put in at a place of a list. -/
def putAt (b : Byte) : Nat → List Byte → List Byte
  | n + 1, x :: rest => x :: putAt b n rest
  | _, rest => b :: rest

/-- Four bytes in the order that a number names, each of the 24 orders by one number below 24. -/
def arrange (order : Nat) : List Byte → List Byte
  | [a, b, c, d] => putAt a (order % 4) (putAt b (order / 4 % 3) (putAt c (order / 12 % 2) [d]))
  | bytes => bytes

/-- The four detail bytes of an event, those that no value takes 0 (section 11.6). A metre count fills all four, most
significant byte first; the places of other values are free, the same for every event of a kind (notes/assumptions/9.md). -/
def Event.detailBytes (e : Event) : List Byte :=
  let bytes := e.details ++ List.replicate (4 - e.details.length) 0
  match e with
  | .lineDead _ => bytes
  | _ => arrange (Config.detailOrder (eventCode e)) bytes

/-- The ten bytes of an event record (section 11.6). -/
def EventRecord.bytes (r : EventRecord) : List Byte :=
  let s := eventSource r.event
  [eventCode r.event, s.1, s.2.1, s.2.2] ++ r.event.detailBytes ++ [hiByte r.timestamp, loByte r.timestamp]

/-- The data bytes of a response: those the manual gives for READ-EVENT, WRITE-CONFIG, ANNOUNCE-SECTION, CLEAR-FAULTS and a
command without data (sections 11.5, 11.6); the other reads return fields without a layout, so their bytes are free, at most 255
(R170; notes/assumptions/28.md). -/
def ResponseData.bytes : ResponseData → List Byte
  | .empty => []
  | .fingerprint f => [f]
  | .localId i => [i]
  | .faults w => [hiByte w, loByte w]
  | .event head n o => [BitVec.ofNat 8 n, BitVec.ofNat 8 o.toNat] ++ (head.map EventRecord.bytes).getD []
  | d => (Config.readData d).take 255

/-- The response frame of the transaction in progress (R170). -/
def State.responseOutput (s : State) : Option (List Byte) :=
  s.lcp.transaction.map fun x => responseFrame (resultByte x.result) x.data.bytes

/-- The filler (R170). -/
def filler : Byte := 0x00

/-- The byte on the port's data output (R170): the filler while the request arrives (`none`), then the bytes of the response
from the byte after the request's check on (`some 0`), and the filler after the response check, also once the response is over
(a READ-EVENT's is with its check, R177). -/
def State.dataOutput (s : State) (position : Option Nat) : Byte :=
  match position, s.responseOutput with
  | some i, some bytes => bytes.getD i filler
  | _, _ => filler

end Sys2Proof.Machine
end

