-- ==== Sys2Proof/Machine/Dispatch.lean ====
section
/-! DEFINITION. One arm for each command. -/

namespace Sys2Proof.Machine

def exec (i : Instr) (s : State) : Host.Outcome State Fault Refusal :=
  match i with
  | .fullReset pins => Sys2Proof.Machine.execFullReset pins s
  | .supplyFall t => Sys2Proof.Machine.execSupplyFall t s
  | .supplyRise t => Sys2Proof.Machine.execSupplyRise t s
  | .lineIdle t => Sys2Proof.Machine.execLineIdle t s
  | .transmissionAttempt t => Sys2Proof.Machine.execTransmissionAttempt t s
  | .transmissionComplete t => Sys2Proof.Machine.execTransmissionComplete t s
  | .collision t => Sys2Proof.Machine.execCollision t s
  | .frameReceived t bytes endValid => Sys2Proof.Machine.execFrameReceived t bytes endValid s
  | .presenceTimerExpiry t => Sys2Proof.Machine.execPresenceTimerExpiry t s
  | .settlingEnd t => Sys2Proof.Machine.execSettlingEnd t s
  | .silenceTimerExpiry t station => Sys2Proof.Machine.execSilenceTimerExpiry t station s
  | .dropClearTimerExpiry t station => Sys2Proof.Machine.execDropClearTimerExpiry t station s
  | .windowTimerExpiry t target => Sys2Proof.Machine.execWindowTimerExpiry t target s
  | .deadIntervalEnd t pan => Sys2Proof.Machine.execDeadIntervalEnd t pan s
  | .pulseEnd t pan => Sys2Proof.Machine.execPulseEnd t pan s
  | .housing t pan => Sys2Proof.Machine.execHousing t pan s
  | .housedInputInactive t pan => Sys2Proof.Machine.execHousedInputInactive t pan s
  | .dropLineActive t pan => Sys2Proof.Machine.execDropLineActive t pan s
  | .dropLineInactive t pan => Sys2Proof.Machine.execDropLineInactive t pan s
  | .raiseTimeout t pan => Sys2Proof.Machine.execRaiseTimeout t pan s
  | .regulationPeriod t pan => Sys2Proof.Machine.execRegulationPeriod t pan s
  | .lowerTimerExpiry t pan => Sys2Proof.Machine.execLowerTimerExpiry t pan s
  | .pulseIntervalEdge t ch level => Sys2Proof.Machine.execPulseIntervalEdge t ch level s
  | .captureCounterOverflow t ch => Sys2Proof.Machine.execCaptureCounterOverflow t ch s
  | .zeroCrossingEdge t level => Sys2Proof.Machine.execZeroCrossingEdge t level s
  | .noSignalTimerExpiry t ch => Sys2Proof.Machine.execNoSignalTimerExpiry t ch s
  | .captureTake t ch => Sys2Proof.Machine.execCaptureTake t ch s
  | .encoderEdge t pan a b => Sys2Proof.Machine.execEncoderEdge t pan a b s
  | .arcPulse t pan level => Sys2Proof.Machine.execArcPulse t pan level s
  | .axlePulse t level => Sys2Proof.Machine.execAxlePulse t level s
  | .classifierWindowEnd t => Sys2Proof.Machine.execClassifierWindowEnd t s
  | .selectorFeedbackChange t contacts => Sys2Proof.Machine.execSelectorFeedbackChange t contacts s
  | .selectorLegTimeout t => Sys2Proof.Machine.execSelectorLegTimeout t s
  | .isolatorFeedbackChange t pan contacts => Sys2Proof.Machine.execIsolatorFeedbackChange t pan contacts s
  | .isolatorMoveTimeout t pan => Sys2Proof.Machine.execIsolatorMoveTimeout t pan s
  | .breakerInputChange t active => Sys2Proof.Machine.execBreakerInputChange t active s
  | .breakerTimerExpiry t => Sys2Proof.Machine.execBreakerTimerExpiry t s
  | .deadLineTimerExpiry t => Sys2Proof.Machine.execDeadLineTimerExpiry t s
  | .roundTimerExpiry t => Sys2Proof.Machine.execRoundTimerExpiry t s
  | .probeWaitTimerExpiry t => Sys2Proof.Machine.execProbeWaitTimerExpiry t s
  | .probeRetryTimerExpiry t => Sys2Proof.Machine.execProbeRetryTimerExpiry t s
  | .scraperRetryTimerExpiry t => Sys2Proof.Machine.execScraperRetryTimerExpiry t s
  | .heatRetryTimerExpiry t => Sys2Proof.Machine.execHeatRetryTimerExpiry t s
  | .releaseTimerExpiry t => Sys2Proof.Machine.execReleaseTimerExpiry t s
  | .heaterPeriod t pan thermal => Sys2Proof.Machine.execHeaterPeriod t pan thermal s
  | .heaterDutyEnd t pan => Sys2Proof.Machine.execHeaterDutyEnd t pan s
  | .thermalTrip t pan => Sys2Proof.Machine.execThermalTrip t pan s
  | .writeConfig t req housed => Sys2Proof.Machine.execWriteConfig t req housed s
  | .readConfig t req => Sys2Proof.Machine.execReadConfig t req s
  | .join t req => Sys2Proof.Machine.execJoin t req s
  | .leave t req => Sys2Proof.Machine.execLeave t req s
  | .raise t req => Sys2Proof.Machine.execRaise t req s
  | .lower t req => Sys2Proof.Machine.execLower t req s
  | .block t req => Sys2Proof.Machine.execBlock t req s
  | .unblock t req => Sys2Proof.Machine.execUnblock t req s
  | .setRegime t req => Sys2Proof.Machine.execSetRegime t req s
  | .announceSection t req => Sys2Proof.Machine.execAnnounceSection t req s
  | .proposeChangeover t req => Sys2Proof.Machine.execProposeChangeover t req s
  | .abortChangeover t req => Sys2Proof.Machine.execAbortChangeover t req s
  | .forget t req => Sys2Proof.Machine.execForget t req s
  | .setIce t req => Sys2Proof.Machine.execSetIce t req s
  | .heat t req => Sys2Proof.Machine.execHeat t req s
  | .unblockHeater t req => Sys2Proof.Machine.execUnblockHeater t req s
  | .readStatus t req => Sys2Proof.Machine.execReadStatus t req s
  | .readEvent t req => Sys2Proof.Machine.execReadEvent t req s
  | .readEventResponseComplete t => Sys2Proof.Machine.execReadEventResponseComplete t s
  | .readPeer t req => Sys2Proof.Machine.execReadPeer t req s
  | .readPanEntry t req => Sys2Proof.Machine.execReadPanEntry t req s
  | .readDrive t req => Sys2Proof.Machine.execReadDrive t req s
  | .readRound t req => Sys2Proof.Machine.execReadRound t req s
  | .readSection t req => Sys2Proof.Machine.execReadSection t req s
  | .readGrants t req => Sys2Proof.Machine.execReadGrants t req s
  | .readChannel t req => Sys2Proof.Machine.execReadChannel t req s
  | .readLine t req => Sys2Proof.Machine.execReadLine t req s
  | .clearFaults t req => Sys2Proof.Machine.execClearFaults t req s
  | .unknownCommand t code req => Sys2Proof.Machine.execUnknownCommand t code req s
  | .transactionAbandoned t received => Sys2Proof.Machine.execTransactionAbandoned t received s
  | .startSymbolHeard t => Sys2Proof.Machine.execStartSymbolHeard t s

end Sys2Proof.Machine
end

