-- ==== Sys2Proof/Machine/Step.lean ====
section
/-! DEFINITION. One step: the command at the front of the queue, or a microsecond of the timebase (R77). -/

namespace Sys2Proof.Machine

/-- The timebase moves on by 1 µs (R77; notes/assumptions/2.md). -/
def State.tick (s : State) : State := { s with now := s.now + 1 }

/-- The command at the front of the queue run on the state with the queue's rest; on an empty queue, a tick. -/
def step (s : State) : Host.Outcome State Fault Refusal :=
  match s.pending with
  | [] => .next s.tick
  | c :: rest => exec c { s with pending := rest }

/-- The state with the command that a word spells at the front of the queue; unchanged where the word spells none. -/
def State.withFetchWord (s : State) (nbits w : Nat) : State :=
  match decodeTableWord nbits w with
  | some c => { s with pending := c :: s.pending }
  | none => s

end Sys2Proof.Machine
end

