-- ==== Sys2Proof/Safety.lean ====
section
/-! DEFINITION. What stays true of the part at every step: the invariants the statements and proofs name. -/

namespace Sys2Proof.Machine

/-- The configuration block keeps its canonical form (R181). -/
def State.configCanonical (s : State) : Prop := s.sc.config.wf = true

/-- The event queue never holds more than 32 records (R177). -/
def State.eventsFit (s : State) : Prop := s.lcp.events.length ≤ eventCapacity

/-- The transmit queue holds up to 16 notices (R12). -/
def State.queueFits (s : State) : Prop := s.rlp.queue.length ≤ queueCapacity

/-- At most 8 contest records are open (R39). -/
def State.contestsFit (s : State) : Prop := s.ru.contests.length ≤ contestCapacity

/-- At most 8 section entries are held (R110). -/
def State.sectionsFit (s : State) : Prop := s.sq.entries.length ≤ sectionCapacity

/-- A run of window results counts to 3 at most (R95). -/
def State.runFits (s : State) : Prop := s.sg.line.runLength ≤ 3

/-- An arc history holds up to 8 window counts (R150). -/
def State.historiesFit (s : State) : Prop := ∀ p, (s.iu.history.get p).length ≤ 8

/-- The position and housing counts run from −32768 to 32767 (R87). -/
def State.countsFit (s : State) : Prop :=
  ∀ p, -32768 ≤ (s.mu.pos.get p).count ∧ (s.mu.pos.get p).count ≤ 32767 ∧
    -32768 ≤ (s.mu.pos.get p).housingCount ∧ (s.mu.pos.get p).housingCount ≤ 32767

/-- While the drive enable of a pantograph is clear, its fill valve is closed (R53). -/
def State.fillGated (s : State) : Prop := ∀ p, (s.drive p).enable = false → s.fillOutput p = false

/-! ## What the hand-offs of a step leave alone -/

/-- The records that change only where a command or a notice changes them by its own rule, and never in the hand-offs that
follow within the step (React.lean): time, pins and measurements, configuration, the port's counters and timers, the
replicated records but for the ice level, the classifier, the feedback contacts, and the host's settings. -/
structure Base where
  pending : List Instr
  now : Moment
  dropLine : Pair Bool
  pins : Pins
  mu : Mu
  strap : BitVec 5
  config : Memory
  locked : Bool
  fingerprint : Byte
  supplyLow : Bool
  port : PortState
  nextSeq : Byte
  expected : List (Option Byte)
  collisions : Nat
  recentSender : Bool
  line : LineView
  lastEnd : Moment
  presenceTimer : Timer
  settleTimer : Timer
  peers : List Peer
  roster : List Entry
  contests : List Contest
  system : Option Supply
  band : Fin 4
  direction : Direction
  settled : Bool
  lineRecord : LineRecord
  acc : Accumulators
  windowTimer : Timer
  selContacts : SelContacts
  isoContacts : Pair IsoContacts
  breakerOpen : Bool
  sections : Nat
  nextId : Byte
  observation : Ice
  forced : Bool
  noCollector : Nat
  table : List (Option Ice)
  grants : List Grant
  hostHeat : Bool
  transaction : Option Transaction
  enables : Pair Bool
  housed : Pair Bool
deriving DecidableEq, Repr

/-- The base of a state. -/
def State.base (s : State) : Base where
  pending := s.pending
  now := s.now
  dropLine := s.dropLine
  pins := s.pins
  mu := s.mu
  strap := s.sc.strap
  config := s.sc.config
  locked := s.sc.locked
  fingerprint := s.sc.fingerprint
  supplyLow := s.sc.supplyLow
  port := s.rlp.port
  nextSeq := s.rlp.nextSeq
  expected := s.rlp.expected
  collisions := s.rlp.collisions
  recentSender := s.rlp.recentSender
  line := s.rlp.line
  lastEnd := s.rlp.lastEnd
  presenceTimer := s.rlp.presenceTimer
  settleTimer := s.rlp.settleTimer
  peers := s.ru.peers
  roster := s.ru.roster
  contests := s.ru.contests
  system := s.ru.regime.system
  band := s.ru.regime.band
  direction := s.ru.regime.direction
  settled := s.ru.regime.settled
  lineRecord := s.sg.line
  acc := s.sg.acc
  windowTimer := s.sg.windowTimer
  selContacts := s.sg.selector.contacts
  isoContacts := ⟨s.sg.iso.p0.contacts, s.sg.iso.p1.contacts⟩
  breakerOpen := s.sg.breakerOpen
  sections := s.sq.entries.length
  nextId := s.sq.nextId
  observation := s.iu.observation
  forced := s.iu.forced
  noCollector := s.iu.noCollector
  table := s.iu.table
  grants := s.iu.grants
  hostHeat := s.iu.hostHeat
  transaction := s.lcp.transaction
  enables := ⟨s.pd.p0.enable, s.pd.p1.enable⟩
  housed := ⟨s.pd.p0.housed, s.pd.p1.housed⟩

/-- The base without what the application of a notice can change by the rule of its kind: the roster unit's records, the
section queue, the replicated ice and heat records and the own observation. -/
def Base.ground (b : Base) : Base :=
  { b with
    peers := [], roster := [], contests := [], system := none, band := 0, direction := .aForward, settled := false
    sections := 0, observation := .clear, table := [], grants := [] }

/-! ## Entry to LISTEN_ONLY -/

/-- What entry to LISTEN_ONLY makes of a state (R19): queue, slot and attempt emptied, no LEAVE pending, no notice kept to be
queued again (R76, R147, R166), no claim of a fitted drive left (R59), and each fitted drive ordered down with its raise request
kept (R68): RAISING and UP are LOWERING with target VENT and the lower timer running, or already housed DOWN or BLOCKED, and every
other drive state stays. -/
def State.silencedAs (s v : State) : Prop :=
  (v.rlp.port = .listenOnly ∧ v.rlp.queue = [] ∧ v.rlp.slot = none ∧ v.rlp.attempt = none ∧ v.sc.leaving = none ∧
    v.cu.lost = none ∧ v.iu.giveLost = none) ∧
  ∀ p, s.fitted p = true →
    (v.drive p).claimStage = .idle ∧ (v.drive p).outstanding = none ∧
    (v.drive p).raiseRequest = (s.drive p).raiseRequest ∧
    ((s.drive p).state = .raising ∨ (s.drive p).state = .up →
      (v.drive p).target = .vent ∧ (v.drive p).valve ≠ .fill ∧
      ((s.drive p).housed = false → (v.drive p).state = .lowering ∧ (v.drive p).lowerTimer = some (v.now + s.lowerLimit)) ∧
      ((s.drive p).housed = true → (v.drive p).state = .down ∨ (v.drive p).state = .blocked)) ∧
    ((s.drive p).state ≠ .raising → (s.drive p).state ≠ .up → (v.drive p).state = (s.drive p).state)

end Sys2Proof.Machine
end

