-- ==== Sys2Proof/Certificates/Slice0/Obligations.lean ====
section
/-! DEFINITION. The statements about the AS614 for the provers. A command whose effect other units follow within the step
answers `v.settle`, where `v` is the state after the command's own effect; `settle` leaves the base of a state alone, and
each statement says what that base is. `max s.now t` is the moment of the command (notes/assumptions/1.md), a timer's expiry is
at the moment it is due and a timer that restarts does so from there (3.md), the change of an input is accepted once the pin has
held it for its filter time (R77; 29.md), and the order of the hand-offs in `settle` is the model's (6.md). -/

open Sys2Proof Sys2Proof.Machine

/-! ## The step -/

/-- With a command at the front of the queue, a step is that command on the state with the queue's rest. -/
def Obligations.StepRunsTheCommandAtTheFront : Prop :=
  ∀ (c : Instr) (rest : List Instr) (s : State),
    step { s with pending := c :: rest } = exec c { s with pending := rest }

/-- On an empty queue a step lets 1 µs of the timebase pass (notes/assumptions/2.md). A command for which the part has no
occasion lets time pass to its moment and does nothing else (notes/assumptions/5.md): the expiry of a stopped timer, the end or
the collision of no attempt, an attempt before any deference point, and whatever comes to an unfitted pantograph's drive,
housed input or heater. Both are the model's choice. -/
def Obligations.EmptyQueueAndIdleCommandsPassTime : Prop :=
  (∀ s : State, s.pending = [] → step s = .next { s with now := s.now + 1 }) ∧
  ∀ (t : Moment) (s : State) (p : Pan),
    let idle (c : Instr) : Prop := exec c s = .next { s with now := max s.now t }
    let d := s.drive p
    let h := s.iu.heaters.get p
    ((s.rlp.presenceTimer = none → idle (.presenceTimerExpiry t)) ∧ (s.rlp.settleTimer = none → idle (.settlingEnd t)) ∧
      (∀ n, (s.peer n).silence = none → idle (.silenceTimerExpiry t n)) ∧
      (∀ n, (s.peer n).dropClear = none → idle (.dropClearTimerExpiry t n)) ∧
      (s.rlp.attempt = none → idle (.transmissionComplete t) ∧ idle (.collision t)) ∧
      (s.rlp.deference = none ∨ s.offeredNotice = none ∨ s.rlp.attempt ≠ none ∨ s.rlp.line = .busy →
        idle (.transmissionAttempt t))) ∧
    ((s.fitted p = false ∨ d.deadTimer = none → idle (.deadIntervalEnd t p)) ∧
      (s.fitted p = false ∨ (∀ due, d.pulse ≠ .running due) → idle (.pulseEnd t p)) ∧
      (s.fitted p = false ∨ d.raiseTimer = none → idle (.raiseTimeout t p)) ∧
      (s.fitted p = false ∨ d.regulationTimer = none → idle (.regulationPeriod t p)) ∧
      (s.fitted p = false ∨ d.lowerTimer = none → idle (.lowerTimerExpiry t p)) ∧
      (s.fitted p = false ∨ (s.pins.get (.housed p)).level = true ∧ d.housed = true → ∀ since, idle (.housing ⟨since, t⟩ p)) ∧
      (s.fitted p = false → idle (.housedInputInactive t p)) ∧ (s.dropLine.get p = true → idle (.dropLineActive t p))) ∧
    ((∀ ch, (s.mu.cap ch).noSignal = none → idle (.noSignalTimerExpiry t ch)) ∧
      ((s.pins.get .odo).level = true → s.mu.odo.level = true → ∀ since, idle (.axlePulse ⟨since, t⟩ true)) ∧
      (s.sg.windowTimer = none → idle (.classifierWindowEnd t)) ∧
      (s.sg.selector.legTimer = none → idle (.selectorLegTimeout t)) ∧
      ((s.sg.iso.get p).moveTimer = none → idle (.isolatorMoveTimeout t p)) ∧
      (s.sg.breakerTimer = none → idle (.breakerTimerExpiry t)) ∧ (s.sg.deadLineTimer = none → idle (.deadLineTimerExpiry t))) ∧
    ((s.cu.roundTimer = none → idle (.roundTimerExpiry t)) ∧ (s.cu.probeWait = none → idle (.probeWaitTimerExpiry t)) ∧
      (s.cu.probeRetry = none → idle (.probeRetryTimerExpiry t)) ∧
      (s.iu.scraper.retry = none → idle (.scraperRetryTimerExpiry t)) ∧
      (s.iu.heatRetry = none → idle (.heatRetryTimerExpiry t)) ∧ (s.iu.release = none → idle (.releaseTimerExpiry t)) ∧
      (∀ thermal, s.fitted p = false ∨ h.periodTimer = none → idle (.heaterPeriod t p thermal)) ∧
      (s.fitted p = false → idle (.heaterDutyEnd t p) ∧ idle (.thermalTrip t p)))

/-- Every command in every state ends in a next state, none stops the part; and no command touches the commands that wait,
the full reset included (notes/assumptions/26.md). -/
def Obligations.EveryCommandAnswersAndLeavesTheQueue : Prop :=
  ∀ (c : Instr) (s : State), ∃ u, exec c s = .next u ∧ u.pending = s.pending

/-- Time never runs back, but for a full reset, at whose end it starts again: a command whose moment is past happens now, by the
model's choice (notes/assumptions/1.md). Only a full reset and WRITE-CONFIG change the
configuration block or the fingerprint, and only a full reset the strap value (R180 to R182). -/
def Obligations.TimeAndBlockChangeOnlyByTheirCommands : Prop :=
  (∀ (c : Instr) (s u : State), (∀ pins, c ≠ .fullReset pins) → exec c s = .next u → s.now ≤ u.now) ∧
  (∀ (c : Instr) (s u : State), (∀ pins, c ≠ .fullReset pins) → (∀ t r h, c ≠ .writeConfig t r h) → exec c s = .next u →
      u.sc.config = s.sc.config ∧ u.sc.fingerprint = s.sc.fingerprint) ∧
  (∀ (c : Instr) (s u : State), (∀ pins, c ≠ .fullReset pins) → exec c s = .next u → u.sc.strap = s.sc.strap)

/-! ## Full reset -/

/-- What a full reset leaves in every unit (R187 and the rules it names), the filtered levels and contacts those of the pins at
its end (R77, R96, R100, R105) and the accumulators of the classifier empty (R93); the timebase starts at 0 and the response of the
port is none by the model's choice (notes/assumptions/1.md, 27.md), and the queue of commands is kept (26.md). While the reset
lasts, with FULL_RESET at the front of the commands (26.md), every output is inactive. -/
def Obligations.FullResetTakesTheResetValues : Prop :=
  (∀ (pins : ResetPins) (rest : List Instr) (s : State),
    let shown := State.pinsShow { s with pending := .fullReset pins :: rest }
    shown.fill = ⟨false, false⟩ ∧ shown.vent = ⟨false, false⟩ ∧ shown.selAc = false ∧ shown.selOpen = false ∧
      shown.selDc = false ∧ shown.isoOpen = ⟨false, false⟩ ∧ shown.isoClose = ⟨false, false⟩ ∧ shown.breakerOpen = false ∧
      shown.heat = ⟨false, false⟩ ∧ shown.interrupt = false ∧ shown.line = none) ∧
  ∀ (pins : ResetPins) (s : State), ∃ u, exec (.fullReset pins) s = .next u ∧
    u.pending = s.pending ∧ u.now = 0 ∧ u.dropLine = pins.dropLine ∧
    (∀ x, (u.pins.get x).since = 0 ∧ ((∀ p, x ≠ .housed p) → (u.pins.get x).level = u.filtered x)) ∧
    (∀ p, (u.pins.get (.housed p)).level = pins.housed.get p) ∧
    (u.rlp.port = .offline ∧ u.rlp.queue = [] ∧ u.rlp.slot = none ∧ u.rlp.attempt = none ∧ u.rlp.nextSeq = 0 ∧
      u.rlp.expected = List.replicate 24 none ∧ u.rlp.collisions = 0 ∧ u.rlp.recentSender = false ∧ u.rlp.lastEnd = 0 ∧
      u.rlp.line = .ended ∧ u.rlp.deference = none ∧ u.rlp.presenceTimer = none ∧ u.rlp.settleTimer = none) ∧
    (u.ru.peers = List.replicate 24 Peer.reset ∧ u.ru.roster = [] ∧ u.ru.contests = [] ∧ u.ru.regime.system = none ∧
      u.ru.regime.band = 0 ∧ u.ru.regime.direction = .aForward ∧ u.ru.regime.ice = .clear ∧ u.ru.regime.settled = false) ∧
    (∀ p, (u.drive p).state = (if pins.housed.get p then .down else .lowering) ∧ (u.drive p).enable = false ∧
      (u.drive p).valve = .closed ∧ (u.drive p).target = .vent ∧ (u.drive p).deadTimer = some 20000 ∧
      (u.drive p).raiseRequest = false ∧ (u.drive p).role = none ∧ (u.drive p).claimStage = .idle ∧
      (u.drive p).blockCause = none ∧ (u.drive p).pendingBlock = none ∧ (u.drive p).claimSeq = none ∧
      (u.drive p).outstanding = none ∧ (u.drive p).raiseTimer = none ∧ (u.drive p).regulationTimer = none ∧
      (u.drive p).episode = false ∧ (u.drive p).active = 70 ∧ (u.drive p).shadow = 70 ∧
      (u.drive p).lowerTimer = (if pins.housed.get p then none else some 6000000) ∧ (u.drive p).housed = false) ∧
    (u.mu.lv = ⟨CaptureRecord.reset pins.levels.lv, none⟩ ∧ u.mu.zx = ⟨CaptureRecord.reset pins.levels.zx, none⟩ ∧
      (∀ p, (u.mu.frc.get p) = ⟨CaptureRecord.reset (pins.levels.frc.get p), none⟩ ∧ (u.mu.pos.get p).count = 0 ∧
        (u.mu.pos.get p).housingCount = 0 ∧ (u.mu.pos.get p).skips = 0 ∧ (u.mu.arc.get p).count = 0 ∧
        (u.mu.arc.get p).overflow = 0 ∧ (u.mu.arc.get p).last = none ∧ (u.mu.arc.get p).level = pins.levels.arc.get p ∧
        (u.mu.pos.get p).a = pins.levels.posA.get p ∧ (u.mu.pos.get p).b = pins.levels.posB.get p) ∧
      u.mu.odo = ⟨pins.levels.odo, 0, 0, 0, 0, 0⟩) ∧
    (u.sg.line = ⟨none, none, 0, .dead⟩ ∧ u.sg.windowTimer = some 160000 ∧
      u.sg.selector.confirmed = selShows pins.selector ∧ u.sg.selector.busy = false ∧ u.sg.selector.target = none ∧
      u.sg.selector.leg = none ∧ u.sg.selector.legTimer = none ∧ u.sg.selector.contacts = pins.selector ∧
      u.sg.acc = ⟨0, 0, false, 0, 0, 0, 0, false⟩ ∧ (∀ p, (u.sg.iso.get p).contacts = pins.isolators.get p) ∧
      (∀ p, (u.sg.iso.get p).confirmed = isoShows (pins.isolators.get p) ∧ (u.sg.iso.get p).requested = some .closed ∧
        (u.sg.iso.get p).moving = none ∧ (u.sg.iso.get p).moveTimer = none) ∧
      u.sg.reasons = ⟨false, false, false, true⟩ ∧ u.sg.breakerOpen = pins.breakerOpen ∧ u.sg.breakerTimer = none ∧
      u.sg.deadLineTimer = none) ∧
    (u.sq.entries = [] ∧ u.sq.nextId = 0 ∧ u.sq.raiseHold = ⟨false, false⟩) ∧ u.cu = Cu.reset ∧
    (u.iu.history = ⟨[], []⟩ ∧ u.iu.tally = ⟨0, 0⟩ ∧ u.iu.observation = .clear ∧ u.iu.forced = false ∧
      u.iu.noCollector = 0 ∧ u.iu.table = List.replicate 24 none ∧
      u.iu.scraper = ⟨.none, none, none, ⟨false, false⟩⟩ ∧ u.iu.grants = [] ∧ u.iu.takePending = false ∧
      u.iu.heatRetry = none ∧ u.iu.release = none ∧ u.iu.hostHeat = false ∧
      (∀ p, (u.iu.heaters.get p).inService = true ∧ (u.iu.heaters.get p).enable = false ∧ (u.iu.heaters.get p).active = 0 ∧
        (u.iu.heaters.get p).shadow = 0 ∧ (u.iu.heaters.get p).trips = [] ∧
        (u.iu.heaters.get p).periodTimer = some 1000000)) ∧
    u.lcp = ⟨[], false, 0, none⟩ ∧
    (u.sc.strap = pins.strap ∧ u.sc.config = [] ∧ u.sc.fingerprint = fingerprintOf [] ∧ u.sc.locked = false ∧
      u.sc.leaving = none ∧ u.sc.supplyLow = pins.supplyLow)

/-- `State.reset` satisfies every invariant below. -/
def Obligations.ResetStateSatisfiesEveryInvariant : Prop :=
  State.reset.configCanonical ∧ State.reset.eventsFit ∧ State.reset.queueFits ∧ State.reset.contestsFit ∧
    State.reset.sectionsFit ∧ State.reset.fillGated ∧ State.reset.countsFit ∧ State.reset.historiesFit ∧ State.reset.runFits

/-! ## Invariants of every step -/

/-- The configuration block keeps its canonical form at every step (the form is the model's, notes/assumptions/30.md). -/
def Obligations.EveryStepKeepsTheBlockCanonical : Prop :=
  ∀ s u : State, s.configCanonical → step s = .next u → u.configCanonical

/-- The event queue never holds more than 32 records (R177), and the transmit queue never more than 16 notices (R12). -/
def Obligations.EveryStepKeepsTheQueuesWithinCapacity : Prop :=
  ∀ s u : State, step s = .next u → (s.eventsFit → u.eventsFit) ∧ (s.queueFits → u.queueFits)

/-- Never more than 8 contest records are open (R39), and never more than 8 section entries are held (R110, R113). -/
def Obligations.EveryStepKeepsTheTablesWithinCapacity : Prop :=
  ∀ s u : State, step s = .next u → (s.contestsFit → u.contestsFit) ∧ (s.sectionsFit → u.sectionsFit)

/-- The drive enable gates the fill valve at every step (R53). -/
def Obligations.EveryStepKeepsTheFillValveGated : Prop :=
  ∀ s u : State, s.fillGated → step s = .next u → u.fillGated

/-- Position counts stay within −32768 to 32767 (R87), arc histories within 8 counts (R150) and runs of window results within
3 (R95). -/
def Obligations.EveryStepKeepsCountsHistoriesAndRunsInRange : Prop :=
  ∀ s u : State, step s = .next u →
    (s.countsFit → u.countsFit) ∧ (s.historiesFit → u.historiesFit) ∧ (s.runFits → u.runFits)

/-! ## The frame on the line -/

/-- What a station sends is what a station reads: the frame of a notice of any kind, with every payload, from any origin 1 to
24 at any sequence, reads back as itself (R1, R8, sections 11.1 and 11.2). -/
def Obligations.EveryFrameReadsBackAsSent : Prop :=
  ∀ f : Frame, 1 ≤ f.origin → f.origin ≤ 24 → readFrame f.bytes = some f

/-! ## The roof line port -/

/-- LINE_IDLE: 12 bit times (48 µs) after the end of a frame or of a jam the line is idle; a start symbol makes it busy and the
station defers (R2, R3). A LINE_IDLE with no frame ended and a start symbol during an own attempt let time pass alone, by the
model's choice (notes/assumptions/5.md). -/
def Obligations.LineViewFollowsTheLine : Prop :=
  ∀ (t : Moment) (s : State),
    (s.rlp.line = .ended ∨ s.rlp.line = .jam → exec (.lineIdle t) s =
      .next { s with now := max s.now (max t (s.rlp.lastEnd + 48)), rlp := { s.rlp with line := .idle } }) ∧
    (s.rlp.line ≠ .ended → s.rlp.line ≠ .jam → exec (.lineIdle t) s = .next { s with now := max s.now t }) ∧
    (s.rlp.attempt = none → exec (.startSymbolHeard t) s =
      .next { s with now := max s.now t, rlp := { s.rlp with line := .busy, deference := none } }) ∧
    (s.rlp.attempt ≠ none → exec (.startSymbolHeard t) s = .next { s with now := max s.now t })

/-- A deference point that is computed lies at 12 + 64 × class + station number bit times of 4 µs after the end of the last
frame, plus 32 when the recent-sender flag is set, or 256 × m bit times after that for the smallest m at which it is still
ahead (R3; "ahead" is strict by the model's choice, notes/assumptions/36.md). TRANSMISSION_ATTEMPT at the deference point
sends the offered notice with the next send sequence; the frame takes 52 + 8 × length bit times of 4 µs (R1, R3, R5, R12). -/
def Obligations.AttemptBeginsAtTheDeferencePoint : Prop :=
  (∀ (s : State) (cls : Nat),
      let base := s.rlp.lastEnd + 4 * (12 + 64 * cls + s.own + if s.rlp.recentSender then 32 else 0)
      s.offeredClass = some cls → s.rlp.line ≠ .busy → s.rlp.attempt = none → s.rlp.deference = none →
        ∃ m point, s.refreshDeference.rlp.deference = some ⟨cls, s.rlp.recentSender, s.rlp.lastEnd, point⟩ ∧
          point = base + 4 * (256 * m) ∧ s.now < point ∧ (∀ k, k < m → base + 4 * (256 * k) ≤ s.now)) ∧
  (∀ (t : Moment) (s : State) (d : Deference) (fromSlot : Bool) (n : Notice),
      s.rlp.deference = some d → s.offeredNotice = some (fromSlot, n) → s.rlp.attempt = none → s.rlp.line ≠ .busy →
        let now := max s.now (max t d.point)
        exec (.transmissionAttempt t) s = .next { s with
          now := now
          rlp := { s.rlp with
            line := .busy, deference := none
            attempt := some ⟨fromSlot, n, s.rlp.nextSeq, now + 4 * (52 + 8 * n.payload.length)⟩
            queue := if fromSlot then s.rlp.queue else markAttempt (kindClass n.kind) s.rlp.queue } })

/-- TRANSMISSION_COMPLETE of any notice but LEAVE: the notice leaves the queue or the slot, the next send sequence advances,
the collision run count becomes 0, the recent-sender flag is set, a JOIN starts the presence and settling times, and the echo
is delivered; the echo changes only what the rule of its kind changes (R5, R10, R17). The completion of the own LEAVE puts
the port in OFFLINE with the transmit queue, the slot and the records of the line, the roster, the sections, the round and the
heat grants emptied, and leaves pins, measurements and configuration alone (R18, R123 and the rules named in R18). -/
def Obligations.CompletedTransmissionEntersItsEcho : Prop :=
  (∀ (t : Moment) (s : State) (a : Attempt), s.rlp.attempt = some a → a.notice.kind ≠ .leave →
      let now := max s.now (max t a.doneAt)
      let v : State := { s with
        now := now
        rlp := { s.rlp with
          queue := s.rlp.queue.filter fun q => !q.inAttempt
          slot := if a.fromSlot then none else s.rlp.slot
          attempt := none, nextSeq := s.rlp.nextSeq + 1, collisions := 0, recentSender := true, line := .ended, lastEnd := now
          presenceTimer := if a.notice.kind = .join then some (now + s.presenceInterval) else s.rlp.presenceTimer
          settleTimer := if a.notice.kind = .join then some (now + 2 * s.presenceInterval) else s.rlp.settleTimer } }
      exec (.transmissionComplete t) s = .next (v.deliver s.own a.seq a.notice).settle ∧
        (v.deliver s.own a.seq a.notice).settle.base.ground = v.base.ground) ∧
  (∀ (t : Moment) (s : State) (a : Attempt), s.rlp.attempt = some a → a.notice.kind = .leave →
      let now := max s.now (max t a.doneAt)
      ∃ v : State, exec (.transmissionComplete t) s = .next v.settle ∧
        (v.rlp.queue = [] ∧ v.rlp.slot = none ∧ v.rlp.attempt = none ∧ v.cu = Cu.reset ∧ v.sc.leaving = none ∧
          v.iu.takePending = false ∧ v.iu.heatRetry = none ∧ v.iu.giveLost = none ∧
          (∀ p, s.fitted p = true → (v.drive p).claimStage = .idle ∧ (v.drive p).claimSeq = none)) ∧
        v.settle.base = { s.base with
          now := now, port := .offline, nextSeq := s.rlp.nextSeq + 1, expected := List.replicate 24 none, collisions := 0
          recentSender := true, line := .ended, lastEnd := now, presenceTimer := none, settleTimer := none
          peers := List.replicate 24 Peer.reset, roster := [], contests := [], system := none, band := 0
          direction := .aForward, settled := false, sections := 0, table := List.replicate 24 none, grants := [] })

/-- COLLISION below the eighth: the notice stays, unless it has been withdrawn; the run count rises; the line is busy with the
jam of 16 bit times (64 µs), whose last bit is the end of the last frame; the recent-sender flag and the next send sequence
stay (R2, R6, R15). The eighth collision in a run: the
port enters LISTEN_ONLY and BUS_COLLISIONS is set in the fault summary (R7, R19); queue and slot are emptied, no claim and no
lost notice is left, a pending LEAVE is dropped (notes/assumptions/22.md), and every fitted drive that is raised or raising is
ordered down (R19, R59, R68, R76, R147). -/
def Obligations.CollisionsAreCountedUpToTheEighth : Prop :=
  (∀ (t : Moment) (s : State) (a : Attempt), s.rlp.attempt = some a → s.rlp.collisions + 1 < 8 →
      let now := max s.now t
      let v : State := { s with
        now := now
        rlp := { s.rlp with
          queue := (s.rlp.queue.filter fun q => !(q.inAttempt && q.withdrawn)).map fun q => { q with inAttempt := false }
          attempt := none, collisions := s.rlp.collisions + 1, line := .jam, lastEnd := now + 64 } }
      (s.attemptWithdrawn = false → exec (.collision t) s = .next v.settle) ∧
        ∃ u, exec (.collision t) s = .next u ∧ u.base = v.base) ∧
  (∀ (t : Moment) (s : State) (a : Attempt), s.rlp.attempt = some a → 8 ≤ s.rlp.collisions + 1 →
      ∃ u, exec (.collision t) s = .next u ∧ u.faultSet .busCollisions = true ∧
        u.base = { s.base with
          now := max s.now t, collisions := s.rlp.collisions + 1, line := .jam, lastEnd := max s.now t + 64
          port := .listenOnly, presenceTimer := none, settleTimer := none }) ∧
  (∀ (t : Moment) (s : State) (a : Attempt), s.rlp.attempt = some a → 8 ≤ s.rlp.collisions + 1 →
      ∃ v : State, exec (.collision t) s = .next v.settle ∧ v.now = max s.now t ∧ s.silencedAs v)

/-- FRAME_RECEIVED with a valid frame of another station, in every port state but OFFLINE: its end is the end of the last frame,
unless a jam runs on beyond it, and it clears the recent-sender flag, sets the expected sequence of its origin (none after a
LEAVE) and is delivered; beyond that it changes
only what the rule of its kind changes (R2, R4, R8, R10, R11). A sequence other than the expected one, but for a JOIN, marks the
origin doubtful and its entries UNKNOWN before the delivery, without role and claim sequence and with the records of their claims
closed, raises PEER_STATUS where it was not doubtful, and is followed at once by the units that look at the roster (R11, R28;
notes/assumptions/6.md). The delivery restarts the silence timer of a LIVE origin for 3 presence intervals (R27). -/
def Obligations.FrameOfAnotherStationIsDelivered : Prop :=
  (∀ (t : Moment) (bytes : List Byte) (s : State) (f : Frame), s.rlp.attempt = none → readFrame bytes = some f →
    f.origin ≠ s.own → s.rlp.port ≠ .offline →
      let now := max s.now t
      let v : State := { s with now := now, rlp := { s.rlp with
        line := if now < s.rlp.lastEnd then .jam else .ended, lastEnd := max s.rlp.lastEnd now, recentSender := false } }
      exec (.frameReceived t bytes true) s = .next (v.receive f).settle ∧
        (v.receive f).settle.base.ground = { v.base with
          expected := tableSet s.rlp.expected f.origin (if f.notice.kind = NoticeKind.leave then none else some (f.seq + 1)) }.ground) ∧
  (∀ (s : State) (f : Frame),
    let n := f.origin
    let delivered (x : State) : State :=
      let y := State.deliver { x with rlp := { x.rlp with expected := tableSet x.rlp.expected n (some (f.seq + 1)) } } n f.seq f.notice
      if f.notice.kind = .leave then { y with rlp := { y.rlp with expected := tableSet y.rlp.expected n none } } else y
    let expected := (tableGet s.rlp.expected n).getD none
    let x := State.loseEntries
      { s with ru := { s.ru with peers := tableSet s.ru.peers n { s.peer n with doubtful := true } } } n
    (f.notice.kind = .join ∨ expected = none ∨ expected = some f.seq → s.receive f = delivered s) ∧
    (f.notice.kind ≠ .join → ∀ q, expected = some q → q ≠ f.seq →
      ((s.peer n).doubtful = true → s.receive f = delivered x.rosterMoves) ∧
      ((s.peer n).doubtful = false →
        s.receive f = delivered (State.rosterMoves (x.raiseEvent (.peerStatus n (s.peer n).status true))))) ∧
    x.ru.peers = tableSet s.ru.peers n { s.peer n with doubtful := true } ∧
    (∀ e ∈ x.ru.roster, e.station = n → e.state = .unknown ∧ e.role = none ∧ e.claimSeq = none) ∧
    (∀ c ∈ x.ru.contests, c.target.station = n → ∀ p, c.body ≠ .claim p) ∧ x.rosterMoves.base = x.base) ∧
  (∀ (s : State) (n : Nat) (seq : Byte) (x : Notice),
    (n ≠ s.own → (s.peer n).status = .live → s.deliver n seq x = State.applyNotice { s with ru := { s.ru with
      peers := tableSet s.ru.peers n { s.peer n with silence := some (s.now + 3 * s.presenceInterval) } } } n seq x) ∧
    (n = s.own ∨ (s.peer n).status ≠ .live → s.deliver n seq x = s.applyNotice n seq x))

/-- FRAME_RECEIVED otherwise: a discarded frame changes only the view of the line; so does, in OFFLINE, a valid one, but for
the recent-sender flag, which a frame of another station clears; with an own attempt in progress the command is no frame's
end (R4, R8; notes/assumptions/5.md). A valid frame that carries the own number: DUPLICATE_STATION is set in the fault
summary, the frame is not delivered, and a port in JOINING or ONLINE enters LISTEN_ONLY (R9, R19); queue and slot are emptied,
no claim and no lost notice is left, a pending LEAVE is dropped (notes/assumptions/22.md), and every fitted drive that is raised
or raising is ordered down (R19, R59, R68, R76, R147). -/
def Obligations.OtherFramesAreNotDelivered : Prop :=
  (∀ (t : Moment) (bytes : List Byte) (valid : Bool) (s : State),
      let line : LineView := if max s.now t < s.rlp.lastEnd then .jam else .ended
      let lastEnd := max s.rlp.lastEnd (max s.now t)
      (s.rlp.attempt ≠ none → exec (.frameReceived t bytes valid) s = .next { s with now := max s.now t }) ∧
      (s.rlp.attempt = none → valid = false ∨ readFrame bytes = none →
        ∃ u, exec (.frameReceived t bytes valid) s = .next u ∧
          u = { s with now := max s.now t
                       rlp := { s.rlp with line := line, lastEnd := lastEnd, deference := u.rlp.deference } }) ∧
      (∀ f, s.rlp.attempt = none → valid = true → readFrame bytes = some f → s.rlp.port = .offline →
        ∃ u, exec (.frameReceived t bytes valid) s = .next u ∧
          u.base = { s.base with
            now := max s.now t, line := line, lastEnd := lastEnd
            recentSender := if f.origin = s.own then s.rlp.recentSender else false })) ∧
  (∀ (t : Moment) (bytes : List Byte) (s : State) (f : Frame), s.rlp.attempt = none → readFrame bytes = some f →
      f.origin = s.own → s.rlp.port ≠ .offline →
        let line : LineView := if max s.now t < s.rlp.lastEnd then .jam else .ended
        let lastEnd := max s.rlp.lastEnd (max s.now t)
        ∃ u, exec (.frameReceived t bytes true) s = .next u ∧ u.faultSet .duplicateStation = true ∧
          u.base = { s.base with
            now := max s.now t, line := line, lastEnd := lastEnd, port := .listenOnly
            presenceTimer := if s.rlp.port = .listenOnly then s.rlp.presenceTimer else none
            settleTimer := if s.rlp.port = .listenOnly then s.rlp.settleTimer else none }) ∧
  (∀ (t : Moment) (bytes : List Byte) (s : State) (f : Frame), s.rlp.attempt = none → readFrame bytes = some f →
      f.origin = s.own → s.rlp.port = .joining ∨ s.rlp.port = .online →
        ∃ v : State, exec (.frameReceived t bytes true) s = .next v.settle ∧ v.now = max s.now t ∧ s.silencedAs v)

/-- PRESENCE_TIMER_EXPIRY: the timer restarts for one presence interval and everything else of the base stays; with nothing
outstanding and no vented LEAVE in the queue, the slot is filled with PRESENT, unless a JOIN stands there (R16; what a
PRESENT being sent becomes is the model's choice, notes/assumptions/37.md). SETTLING_END: the port enters ONLINE and the
regime is settled (R17, R37). The moment a timer is due, and the restart from it, are the model's (notes/assumptions/3.md). -/
def Obligations.PresenceAndSettlingTimersExpire : Prop :=
  (∀ (t due : Moment) (s : State), s.rlp.presenceTimer = some due →
      let now := max s.now (max t due)
      (∃ u, exec (.presenceTimerExpiry t) s = .next u ∧
        u.base = { s.base with now := now, presenceTimer := some (due + s.presenceInterval) }) ∧
      (s.rlp.attempt = none → (∀ p, (s.drive p).outstanding = none) → s.cu.lost = none → s.iu.giveLost = none →
        s.sc.leaving ≠ some .lost → s.transmits = true → s.ventedHeld = false →
          exec (.presenceTimerExpiry t) s = .next (State.settle { s with
            now := now
            rlp := { s.rlp with
              presenceTimer := some (due + s.presenceInterval)
              slot := if s.rlp.slot = some .join then some .join else some .present } }))) ∧
  (∀ (t due : Moment) (s : State), s.rlp.settleTimer = some due →
      ∃ u, exec (.settlingEnd t) s = .next u ∧
        u.base = { s.base with now := max s.now (max t due), port := .online, settleTimer := none, settled := true })

/-! ## The roster unit -/

/-- SILENCE_TIMER_EXPIRY: the status becomes SILENT, every entry of the station UNKNOWN without role and claim sequence, the
records of its claims are closed, its other records and those of every other station stay open; nothing else of the base
changes (R27). DROP_CLEAR_TIMER_EXPIRY: the entries of a station that left vented are removed and the records of its claims
closed (R29). Its REGIME and HEAT-TAKE records stay open in both. -/
def Obligations.PeerTimersClearTheEntries : Prop :=
  (∀ (t due : Moment) (n : Nat) (s : State), (s.peer n).silence = some due →
      ∃ u, exec (.silenceTimerExpiry t n) s = .next u ∧
        u.base = { s.base with
          now := max s.now (max t due)
          peers := tableSet s.ru.peers n { s.peer n with status := .silent, silence := none }
          roster := s.ru.roster.map fun e => if e.station = n then e.cleared .unknown else e
          contests := u.ru.contests } ∧
        (∀ c ∈ u.ru.contests, c ∈ s.ru.contests ∧ (c.target.station = n → ∀ p, c.body ≠ .claim p)) ∧
        (∀ c ∈ s.ru.contests, c.target.station ≠ n → c ∈ u.ru.contests) ∧
        (∀ c ∈ s.ru.contests, (∀ d ∈ s.ru.contests, d.target = c.target → ∀ p, d.body ≠ .claim p) → c ∈ u.ru.contests)) ∧
  (∀ (t due : Moment) (n : Nat) (s : State), (s.peer n).dropClear = some due →
      ∃ u, exec (.dropClearTimerExpiry t n) s = .next u ∧
        u.base = { s.base with
          now := max s.now (max t due)
          peers := tableSet s.ru.peers n { s.peer n with dropClear := none }
          roster := s.ru.roster.filter fun e => e.station != n
          contests := u.ru.contests } ∧
        (∀ c ∈ u.ru.contests, c ∈ s.ru.contests ∧ (c.target.station = n → ∀ p, c.body ≠ .claim p)) ∧
        (∀ c ∈ s.ru.contests, c.target.station ≠ n → c ∈ u.ru.contests) ∧
        (∀ c ∈ s.ru.contests, (∀ d ∈ s.ru.contests, d.target = c.target → ∀ p, d.body ≠ .claim p) → c ∈ u.ru.contests))

/-- WINDOW_TIMER_EXPIRY: the record closes and, for a claim, window-open is cleared on the entry (R43). The go-ahead of an
own record that nobody objected: a CLAIM's is handed to the drive, and by a refusal there to the scraper run, when the entry
is still CLAIMED with that sequence, and a HEAT-TAKE's clears take-pending (R43, R62, R159, R165); every other record closes
with no go-ahead. Two open records of one target close together, by the model's choice (notes/assumptions/43.md). A target
without a record has no window, and only time passes, by the model's choice (notes/assumptions/5.md). -/
def Obligations.WindowEndClosesTheRecord : Prop :=
  ∀ (t : Moment) (target : Target) (s : State),
    (∀ c, s.contest target = some c →
      ∃ u, exec (.windowTimerExpiry t target) s = .next u ∧
        u.base = { s.base with
          now := max s.now (max t c.due)
          contests := s.ru.contests.filter fun x => x.target != target
          roster := match c.body with
            | .claim p => s.ru.roster.map fun e =>
                if e.station = target.station && e.pan = p then
                  (if e.claimSeq = some target.seq then { e with windowOpen := false } else e)
                else e
            | _ => s.ru.roster }) ∧
    (∀ c, s.contest target = some c →
      let w : State := State.dropContest { s with now := max s.now (max t c.due) } target
      (target.station ≠ s.own ∨ c.objected = true → exec (.windowTimerExpiry t target) s = .next w.settle) ∧
      (target.station = s.own → c.objected = false →
        (∀ band d, c.body = .regime band d → exec (.windowTimerExpiry t target) s = .next w.settle) ∧
        (∀ saved carried, c.body = .heatTake saved carried → exec (.windowTimerExpiry t target) s =
          .next (State.settle { w with iu := { w.iu with takePending := false } })) ∧
        (∀ p e, c.body = .claim p → w.ownEntry p = some e → e.state = .claimed → e.claimSeq = some target.seq →
          exec (.windowTimerExpiry t target) s = .next ((w.goAhead p target.seq).scraperReopens p).settle) ∧
        (∀ p e, c.body = .claim p → w.ownEntry p = some e → e.state ≠ .claimed ∨ e.claimSeq ≠ some target.seq →
          exec (.windowTimerExpiry t target) s = .next w.settle))) ∧
    (s.contest target = none → exec (.windowTimerExpiry t target) s = .next { s with now := max s.now t })

/-- YIELD, DROP and RAISED of any station, as they change its roster entries (R33, R34, R35): YIELD makes the entry DOWN and
DROP makes it DROPPING or BLOCKED, both without role, claim sequence and window-open and with the records of its claims
closed; RAISED makes a CLAIMED entry UP with the role carried, and changes no entry in another state. The premise: no two
open records of one target are of different claims, as they are while no station sends two claims under one sequence. A JOIN
or PRESENT of another station (R23 to R25): its peer record becomes LIVE with the bytes stored under the own fingerprint,
FOREIGN under another; each field fitted makes its entry, each field not fitted removes it, with the state taken as UNKNOWN
as R24 lists; a FOREIGN report leaves every entry it creates or replaces UNKNOWN, without role, claim sequence and
window-open, and the records of the sender's claims closed (R25); the first PRESENT under the own fingerprint settles an
unsettled regime: system, band and direction are those of its regime byte, and the open REGIME records close with no undo
(R37); and the CU and the IU then take the round byte, the observation and, LIVE, the grant (R145, R154, R163). The own
report makes the own record LIVE and the own entries (R26). -/
def Obligations.YieldDropAndRaisedChangeTheEntry : Prop :=
  (∀ (s : State) (n : Nat) (seq : Byte) (p : Pan),
    (∀ c ∈ s.ru.contests, ∀ d ∈ s.ru.contests, c.target = d.target → c.body = d.body) →
    let cleared (st : EntryState) : List Entry :=
      s.ru.roster.map fun e => if e.station = n && e.pan = p then e.cleared st else e
    let closed (u : State) : Prop := ∀ c ∈ u.ru.contests, c.target.station = n → c.body ≠ .claim p
    ((s.applyNotice n seq (.yield (panCode p))).ru.roster = cleared .down ∧ closed (s.applyNotice n seq (.yield (panCode p)))) ∧
    ((s.applyNotice n seq (.drop (panCode p) 0)).ru.roster = cleared .dropping ∧
      closed (s.applyNotice n seq (.drop (panCode p) 0))) ∧
    ((s.applyNotice n seq (.drop (panCode p) 1)).ru.roster = cleared .blocked ∧
      closed (s.applyNotice n seq (.drop (panCode p) 1))) ∧
    (∀ (e : Entry) (r : Role), s.entry n p = some e → e.state = .claimed → (r = .scraper → s.otherOccupying .scraper n p = false) →
      (s.applyNotice n seq (.raised (panCode p) (roleCode r))).ru.roster =
        s.ru.roster.map fun e => if e.station = n && e.pan = p then { e with state := .up, role := some r } else e) ∧
    (∀ (e : Entry) (r : Byte), s.entry n p = some e → e.state ≠ .claimed →
      s.applyNotice n seq (.raised (panCode p) r) = s)) ∧
  (∀ (s : State) (n : Nat) (seq : Byte) (r : Report) (present : Bool), 1 ≤ n → n ≤ 24 → n ≠ s.own → s.ru.peers.length = 24 →
    let t := s.applyPeerReport n present r
    let same : Prop := r.fingerprint = s.sc.fingerprint
    (let w := t.followUsable.takeRoundByte n present r.round (byteSystem r.regime)
     let x : State := { w with iu := { w.iu with table := tableSet w.iu.table n (some (byteIce r.regime)) } }
     let whole := s.applyNotice n seq (if present then .present r else .join r)
     (same → whole = x.setGrant n (r.heatFault.toNat / 16)) ∧ (¬ same → whole = x)) ∧
    t.peer n = { s.peer n with
      status := if r.fingerprint = s.sc.fingerprint then .live else .foreign, doubtful := false
      fingerprint := some r.fingerprint, regimeByte := some r.regime, heatUnits := some (r.heatFault.toNat / 16)
      roundByte := some r.round, faults := nibbleGroups (r.heatFault.toNat % 16), dropClear := none
      silence := if r.fingerprint = s.sc.fingerprint then some (s.now + 3 * s.presenceInterval) else none } ∧
    (let v : State := { s with ru := { s.ru with peers := tableSet s.ru.peers n (t.peer n) } }
     same → s.ru.regime.settled = true ∨ present = false →
      t.ru.roster = ((v.applyField n .p0 r.pan0).applyField n .p1 r.pan1).ru.roster) ∧
    (¬ same →
      (∀ p, let f := readField (match p with | .p0 => r.pan0 | .p1 => r.pan1)
        t.entry n p = if f.fitted then some ⟨n, p, f.position, f.kind, .unknown, none, none, false⟩ else none) ∧
      (∀ m p, m ≠ n → t.entry m p = s.entry m p) ∧
      (∀ c ∈ t.ru.contests, c ∈ s.ru.contests ∧ (c.target.station = n → ∀ p, c.body ≠ .claim p)) ∧
      (∀ c ∈ s.ru.contests, c.target.station ≠ n → c ∈ t.ru.contests) ∧
      (∀ c ∈ s.ru.contests, (∀ d ∈ s.ru.contests, d.target = c.target → ∀ p, d.body ≠ .claim p) → c ∈ t.ru.contests)) ∧
    (¬ same ∨ present = false ∨ s.ru.regime.settled = true → t.ru.regime = s.ru.regime) ∧
    (same → present = true → s.ru.regime.settled = false →
      let v : State := { s with ru := { s.ru with peers := tableSet s.ru.peers n (t.peer n) } }
      let w : State := (v.applyField n .p0 r.pan0).applyField n .p1 r.pan1
      t.ru.regime = { s.ru.regime with
        system := supplyOf (BitVec.ofNat 8 (r.regime.toNat / 32)), band := ⟨r.regime.toNat / 8 % 4, Nat.mod_lt _ (by decide)⟩
        direction := if r.regime.getLsbD 2 then .bForward else .aForward, settled := true } ∧
      t.ru.contests = w.ru.contests.filter (fun c => c.target.kind != .regime) ∧
      ((∀ c ∈ s.ru.contests, c.target.kind = .regime → ∀ p, c.body ≠ .claim p) → t.ru.roster = w.ru.roster))) ∧
  (∀ (s : State) (n : Nat) (p : Pan) (w : Word16),
    let f := readField w
    let u := s.applyField n p w
    let roled : Prop := f.state = .claimed ∨ f.state = .withdrawn ∨ f.state = .up
    let unknown : Prop := f.state = .unknown ∨ (roled ∧ f.role = none) ∨
      ((roled ∨ f.state = .dropping) ∧ f.role = some .scraper ∧ s.otherOccupying .scraper n p = true) ∨
      (s.cu.isOpen = true ∧ (∃ e, s.entry n p = some e ∧ e.state = .down) ∧ f.state = .claimed ∧
        ¬ (f.role = some .probe ∧ s.isProbeCandidate n p = true))
    (f.fitted = false → u.entry n p = none) ∧
    (f.fitted = true → ∃ e, u.entry n p = some e ∧ e.position = f.position ∧ e.kind = f.kind ∧
      (unknown → e.state = .unknown ∧ e.role = none ∧ e.claimSeq = none) ∧
      (¬ unknown → e.state = f.state ∧ (roled → e.role = f.role) ∧ (¬ roled → e.role = none) ∧
        (∀ e', s.entry n p = some e' → e'.state = f.state → e.claimSeq = e'.claimSeq ∧ e.windowOpen = e'.windowOpen) ∧
        ((∀ e', s.entry n p = some e' → e'.state ≠ f.state) → e.claimSeq = none ∧ e.windowOpen = false)))) ∧
  (∀ (s : State) (r : Report), 1 ≤ s.own → s.own ≤ 24 → s.ru.peers.length = 24 →
    let t := s.applyOwnReport r
    let v : State := { s with ru := { s.ru with peers := tableSet s.ru.peers s.own (t.peer s.own) } }
    (t.peer s.own).status = .live ∧ (t.peer s.own).silence = none ∧ (t.peer s.own).fingerprint = some r.fingerprint ∧
      t = (v.applyField s.own .p0 r.pan0).applyField s.own .p1 r.pan1)

/-- A CLAIM of another station for an entry held DOWN, with a record free, no round open and no other scraper against it:
the entry becomes CLAIMED with role, claim sequence and window-open, and a record is opened whose window is the objection
window (R31, R39). With the entry in any other state nothing in the roster changes and no record is opened. An OBJECT
against a CLAIM makes the CLAIMED entry with that sequence WITHDRAWN, with role and sequence kept, and sets its record's
objected flag; at the claimant the drive is handed the refusal; in any other state no entry changes; and own OBJECTs that
wait for the same target are withdrawn (R32, R41, R61; which of two entries with one sequence is meant, and that an OBJECT
in any other state leaves the objected flag as it is, are the model's choice, notes/assumptions/49.md, 62.md). An ONLINE
station evaluates every CLAIM, its own echo too, against its records before the claim's effect and queues an OBJECT with the
first reason of R45's table that applies; in every other port state it queues none (R40, R45, R46). At the claimant the
drive is then handed its echo with that reason (R59). -/
def Obligations.ClaimMakesADownEntryClaimed : Prop :=
  (∀ (s : State) (n : Nat) (seq : Byte) (p : Pan) (r : Role) (e : Entry), n ≠ s.own → s.entry n p = some e →
    let u := s.applyNotice n seq (.claim (panCode p) (roleCode r))
    (e.state = .down → s.ru.contests.length < 8 → s.cu.isOpen = false →
      (r = .scraper → s.otherOccupying .scraper n p = false) →
        u.ru.roster = (s.ru.roster.map fun e => if e.station = n && e.pan = p then
            { e with state := .claimed, role := some r, claimSeq := some seq, windowOpen := true } else e) ∧
          u.ru.contests = s.ru.contests ++ [⟨⟨n, seq, .claim⟩, .claim p, s.now + s.objectionWindow, false⟩]) ∧
    (e.state ≠ .down ∨ 8 ≤ s.ru.contests.length → u.ru.roster = s.ru.roster ∧ u.ru.contests = s.ru.contests)) ∧
  (∀ (s : State) (by' n : Nat) (q seq reason : Byte), n < 256 →
    let u := s.applyNotice by' q (.object (BitVec.ofNat 8 n) seq 0x10 reason)
    let t := s.withdrawObjects ⟨n, seq, .claim⟩
    (∀ x ∈ t.rlp.queue, objectsTo ⟨n, seq, .claim⟩ x.notice = true → x.inAttempt = true ∧ x.withdrawn = true) ∧
    (n ≠ s.own → u.rlp = t.rlp) ∧
    (∀ e, s.claimEntry n seq = some e → e.state = .claimed →
      u.ru.roster = (s.ru.roster.map fun x => if x.station = e.station && x.pan = e.pan then { x with state := .withdrawn } else x) ∧
      u.ru.contests = (s.ru.contests.map fun c => if c.target = ⟨n, seq, .claim⟩ then { c with objected := true } else c) ∧
      (n = s.own → ∃ v : State, v.ru.roster = u.ru.roster ∧ v.pd = s.pd ∧
        u = (v.refuse e.pan seq reason).claimFollows e.pan)) ∧
    ((∀ e, s.claimEntry n seq = some e → e.state ≠ .claimed) → u = t)) ∧
  (∀ (s : State) (n : Nat) (seq : Byte) (p : Pan) (r : Role),
    let u := s.applyNotice n seq (.claim (panCode p) (roleCode r))
    let free : Bool := decide (s.ru.contests.length < 8)
    let strange : Bool := (s.peer n).status = .foreign || (s.peer n).status = .silent
    let occ (x : Entry) : Bool := x.state != .down && x.state != .blocked
    let wire (x : Entry) : Bool := occ x && x.role != some .scraper
    let ahead (x y : Entry) : Bool := s.distance x.position + s.scraperGap ≤ s.distance y.position
    let near (x y : Entry) (d : Nat) : Bool := x.position < y.position + d && y.position < x.position + d
    let unserved (k : PanKind) (system : Option Supply) : Bool := !(system.any fun x => serves k x)
    let band := s.ru.regime.band
    let limit : Nat := if s.ru.regime.system = some .ac25 ∨ s.ru.regime.system = some .ac15 then min (s.cmax band) 2 else s.cmax band
    let reason (c : Entry) : Option ObjectReason :=
      let other (x : Entry) : Bool := occ x && !(x.station = c.station && x.pan = c.pan)
      if free = false then some .notReady else if strange then some .foreign else if c.state ≠ .down then some .state
      else if (s.cu.isOpen && r != .probe) || (r = .probe && (!s.cu.isOpen || !s.isProbeCandidate c.station c.pan ||
        !s.readyComplete || s.ru.roster.any other)) then some .round
      else if (if r = .probe then unserved c.kind s.cu.target else unserved c.kind s.ru.regime.system) then some .system
      else if r = .collector ∧ limit < s.ru.roster.countP wire + 1 then some .count
      else if r = .collector ∧ ((s.ru.roster.any fun x => wire x && near x c (s.smin band)) ||
        s.ru.roster.any fun x => other x && x.role = some .scraper && !ahead x c) then some .spacing
      else if r = .scraper ∧ (s.ru.regime.ice ≠ .scrape ∨ (s.ru.roster.any fun x => occ x && x.role = some .scraper) ∨
        (s.ru.roster.any fun x => wire x && !ahead c x) ∨
        ¬ (s.scraperCandidate.any fun x => x.station = c.station && x.pan = c.pan)) then some .scraper
      else none
    let judged (x : Option ObjectReason) : Option ObjectReason := if s.rlp.port = .online then x else none
    let objected (t : State) (x : Option ObjectReason) : State :=
      match judged x with
      | some why => t.send (.object (BitVec.ofNat 8 n) seq 0x10 (objectReasonCode why))
      | none => t
    let echoed (t : State) (x : Option ObjectReason) : State := if n = s.own then t.claimEcho p seq (judged x) else t
    (s.entry n p = none →
      let x : Option ObjectReason := if free = false then some .notReady else if strange then some .foreign else some .state
      u = echoed (objected s x) x) ∧
    (∀ c, s.entry n p = some c →
      let takes : Bool := c.state = .down && free && !(s.cu.isOpen && !(r = .probe && s.isProbeCandidate n p)) &&
        !(r = .scraper && s.otherOccupying .scraper n p)
      let t : State := if takes then { s with ru := { s.ru with
        roster := s.ru.roster.map fun e => if e.station = n && e.pan = p then
          { e with state := .claimed, role := some r, claimSeq := some seq, windowOpen := true } else e
        contests := s.ru.contests ++ [⟨⟨n, seq, .claim⟩, .claim p, s.now + s.objectionWindow, false⟩] } } else s
      u = echoed (objected t (reason c)) (reason c))) ∧
  (∀ (s : State) (x : Notice), s.transmits = true → s.ventedHeld = false → s.rlp.queue.length < 16 →
    (s.send x).rlp.queue = s.rlp.queue ++ [⟨x, false, false, false⟩])

/-- A REGIME changes band and direction and opens a record with those held before (R38, R39); an OBJECT against that record,
open and unobjected, restores them and sets its objected flag (R42). Both are stated of another station's REGIME, with no
other record in between. FAULT adds the group of its kind to the sender's fault summary and, for VOLTAGE_MISMATCH, sets the
regime system to NONE (R36), whatever its pantograph byte, by the model's choice (notes/assumptions/73.md); ICE of another
station enters the observation table (R154); HEAT-GIVE lowers a grant and never raises one (R163). A HEAT-TAKE of another
station sets its grant and opens a record with the grant held before, or with 8 records open changes nothing; an OBJECT
against that record restores the grant while it is still the one carried, and not otherwise (R39, R42, R162). A LEAVE of
another station makes it LEFT, removes its grant and its observation, closes its records and withdraws the OBJECTs that wait
against its notices; unvented its entries are removed, vented they become DROPPING and the drop-clear timer starts for 5 s
(R29, R132, R154). An ONLINE station evaluates every REGIME and HEAT-TAKE, its own echo too, against its records before the
notice's effect and queues an OBJECT with the first reason that applies, by the tables of R47 and R48; in every other port
state it queues none (R40, R46); the OBJECT is queued before the notice takes effect on regime or grant (R10, R38, R162), and
the events of a change of the regime stand in the model's order (notes/assumptions/80.md), as do HEAT_GRANT and HEAT_STATE
(79.md). An own HEAT-TAKE that finds no record free is refused with NOT_READY (R165). -/
def Obligations.RegimeFaultIceAndHeatNoticesApply : Prop :=
  (∀ (s : State) (n : Nat) (seq : Byte) (band : Fin 4) (d : Direction) (reason : Byte), n ≠ s.own → n < 256 →
      s.ru.contests.length < 8 → (∀ c ∈ s.ru.contests, c.target ≠ ⟨n, seq, .regime⟩) →
        let u := s.applyNotice n seq (.regime (BitVec.ofNat 8 band.val) (BitVec.ofNat 8 (directionBit d)))
        let v := u.applyNotice 1 0 (.object (BitVec.ofNat 8 n) seq 0x13 reason)
        u.ru.regime.band = band ∧ u.ru.regime.direction = d ∧ u.ru.regime.system = s.ru.regime.system ∧
          u.ru.contests = s.ru.contests ++
            [⟨⟨n, seq, .regime⟩, .regime s.ru.regime.band s.ru.regime.direction, s.now + s.objectionWindow, false⟩] ∧
          v.ru.regime.band = s.ru.regime.band ∧ v.ru.regime.direction = s.ru.regime.direction ∧
          v.ru.contests = s.ru.contests ++
            [⟨⟨n, seq, .regime⟩, .regime s.ru.regime.band s.ru.regime.direction, s.now + s.objectionWindow, true⟩]) ∧
  (∀ (s : State) (n : Nat) (seq : Byte), 1 ≤ n → n ≤ 24 → s.ru.peers.length = 24 → s.iu.table.length = 24 →
      (∀ (k : FaultKind) (pan detail : Byte),
        let u := s.applyNotice n seq (.fault (BitVec.ofNat 8 (faultBit k)) pan detail)
        (u.peer n).faults = (s.peer n).faults.union (faultGroup k) ∧
          u.ru.regime.system = if k = .voltageMismatch then none else s.ru.regime.system) ∧
      (∀ o : Ice, n ≠ s.own → tableGet (s.applyNotice n seq (.ice (iceCode o))).iu.table n = some (some o)) ∧
      (∀ units : Byte,
        (s.applyNotice n seq (.heatGive units)).iu.grants =
          if units.toNat % 16 < s.grantOf n then putGrant n (units.toNat % 16) s.iu.grants else s.iu.grants)) ∧
  (∀ (s : State) (n : Nat) (seq units reason : Byte), n ≠ s.own → n < 256 →
      let k := units.toNat % 16
      let target : Target := ⟨n, seq, .heatTake⟩
      let u := s.applyNotice n seq (.heatTake units)
      (8 ≤ s.ru.contests.length → u.iu.grants = s.iu.grants ∧ u.ru.contests = s.ru.contests) ∧
      (s.ru.contests.length < 8 → (∀ c ∈ s.ru.contests, c.target ≠ target) →
        u.iu.grants = putGrant n k s.iu.grants ∧
        u.ru.contests = s.ru.contests ++ [⟨target, .heatTake (s.grantOf n) k, s.now + s.objectionWindow, false⟩] ∧
        (∀ (v : State) (m : Nat) (q : Byte), v.ru = u.ru → n ≠ v.own →
          let w := v.applyNotice m q (.object (BitVec.ofNat 8 n) seq 0x16 reason)
          w.ru.contests = s.ru.contests ++ [⟨target, .heatTake (s.grantOf n) k, s.now + s.objectionWindow, true⟩] ∧
          w.iu.grants = if v.grantOf n = k then putGrant n (s.grantOf n) v.iu.grants else v.iu.grants))) ∧
  (∀ (s : State) (n : Nat) (seq flags : Byte), 1 ≤ n → n ≤ 24 → n ≠ s.own → s.ru.peers.length = 24 → s.iu.table.length = 24 →
      let u := s.applyNotice n seq (.leave flags)
      u.peer n = { s.peer n with
        status := .left, doubtful := false, silence := none
        dropClear := if flags.getLsbD 0 then some (s.now + 5000000) else (s.peer n).dropClear } ∧
      (flags.getLsbD 0 = false → ∀ e, e ∈ u.ru.roster → e.station ≠ n) ∧
      (flags.getLsbD 0 = true → ∀ e ∈ u.ru.roster, e.station = n → e.state = .dropping ∧ e.role = none ∧ e.claimSeq = none) ∧
      (∀ c ∈ u.ru.contests, c.target.station ≠ n) ∧
      (∀ x ∈ u.rlp.queue, objectsStation n x.notice = true → x.inAttempt = true) ∧
      u.iu.grants = putGrant n 0 s.iu.grants ∧ tableGet u.iu.table n = some none ∧ u.cu.ready = s.cu.ready.filter (· != n)) ∧
  (∀ (s : State) (n : Nat) (seq : Byte) (band : Fin 4) (d : Direction) (units : Byte),
    let free : Bool := decide (s.ru.contests.length < 8)
    let strange : Bool := (s.peer n).status = .foreign || (s.peer n).status = .silent
    let occ (x : Entry) : Bool := x.state != .down && x.state != .blocked
    let wire (x : Entry) : Bool := occ x && x.role != some .scraper
    let limit : Nat := if s.ru.regime.system = some .ac25 ∨ s.ru.regime.system = some .ac15 then min (s.cmax band) 2 else s.cmax band
    let objected (t : State) (kind : Byte) (x : Option ObjectReason) : State :=
      match x with
      | some why => if s.rlp.port = .online then t.send (.object (BitVec.ofNat 8 n) seq kind (objectReasonCode why)) else t
      | none => t
    let opened (target : Target) (body : ContestBody) : State :=
      { s with ru := { s.ru with contests := s.ru.contests ++ [⟨target, body, s.now + s.objectionWindow, false⟩] } }
    (let u := s.applyNotice n seq (.regime (BitVec.ofNat 8 band.val) (BitVec.ofNat 8 (directionBit d)))
     let reason : Option ObjectReason :=
       if free = false then some .notReady else if strange then some .foreign else if s.cu.isOpen then some .round
       else if (d ≠ s.ru.regime.direction ∧ s.ru.roster.any occ) ∨ (s.ru.contests.any fun c => c.target.kind = .regime) then some .state
       else if s.ru.regime.band < band ∧ limit < s.ru.roster.countP wire then some .count
       else if s.ru.regime.band < band ∧ anyWithin (s.smin band) (s.ru.roster.filter wire) then some .spacing
       else none
     u = if free then State.changeRegime
         (objected (opened ⟨n, seq, .regime⟩ (.regime s.ru.regime.band s.ru.regime.direction)) 0x13 reason) s.ru.regime.system band d
       else objected s 0x13 reason) ∧
    (let u := s.applyNotice n seq (.heatTake units)
     let k := units.toNat % 16
     let reason : Option ObjectReason :=
       if free = false then some .notReady else if strange then some .foreign
       else if s.heatBudget < ((putGrant n k s.iu.grants).map fun g => g.units).sum then some .budget else none
     (free = true → u = State.setGrant (objected (opened ⟨n, seq, .heatTake⟩ (.heatTake (s.grantOf n) k)) 0x16 reason) n k) ∧
     (free = false → n ≠ s.own → u = objected s 0x16 reason) ∧
     (free = false → n = s.own → u = State.refuseHeat (objected s 0x16 reason) 1)) ∧
    (∀ (gap : Nat) (l : List Entry), anyWithin gap l = true ↔
      ∃ (i j : Nat) (x y : Entry), i < j ∧ l[i]? = some x ∧ l[j]? = some y ∧ x.position < y.position + gap ∧ y.position < x.position + gap))

/-! ## The drives -/

/-- DEAD_INTERVAL_END, PULSE_END and REGULATION_PERIOD of a fitted drive, each at the moment it is due (notes/assumptions/3.md):
the dead interval over, the valves are served; an open pulse over, the target is CLOSED, or the decision of a period that ended
behind the pulse sets it (held behind it by the model's choice, 14.md); a period over, the setpoint of role and band is copied,
the timer restarts for 50 ms, and a reading more than 8 N below or above the setpoint is a fill or a vent pulse (R51, R52, R65,
R66). None of them changes anything but the drive. -/
def Obligations.DriveTimersServeTheValves : Prop :=
  ∀ (t due : Moment) (p : Pan) (s : State), s.fitted p = true →
    let d := s.drive p
    let now := max s.now (max t due)
    let out (x : Drive) : Host.Outcome State Fault Refusal := .next { s with now := now, pd := s.pd.set p x }
    (d.deadTimer = some due →
      exec (.deadIntervalEnd t p) s = out (Drive.serve { d with deadTimer := none } now s.deadInterval)) ∧
    (d.pulse = .running due → exec (.pulseEnd t p) s = out (d.pulseOver now s.deadInterval)) ∧
    (d.regulationTimer = some due →
      let set := match d.role with
        | some .scraper => s.scraperSetpoint
        | some .probe => s.probeSetpoint
        | _ => s.collectorSetpoint s.ru.regime.band
      exec (.regulationPeriod t p) s = out (Drive.decide
        { d with active := set, shadow := set, regulationTimer := some (due + 50000), reading := none }
        (match d.reading with
         | none => none
         | some f => if f + 8 < set then some .fill else if set + 8 < f then some .vent else none) now s.deadInterval))

/-- How a drive serves its valves (R52, R53): an open valve that is not the target closes and starts the dead interval; with
the pair closed and the timer stopped the target's valve opens, FILL only with the enable, and a waiting pulse then starts
its 20 ms; while the timer runs nothing opens. The end of a pulse sets the target CLOSED and ends the pulse; a decision FILL or
VENT sets that target with a pulse that waits, and HOLD sets CLOSED; a decision taken while a pulse is open waits behind it, and
sets the target when the pulse is over (R52, R66; the waiting is the model's choice, notes/assumptions/14.md). -/
def Obligations.ValvesAreServedTowardsTheTarget : Prop :=
  ∀ (d : Drive) (now dead : Nat),
    (d.valve ≠ .closed → d.target ≠ d.valve →
      d.serve now dead = { d with valve := .closed, deadTimer := some (now + dead) }) ∧
    (d.valve ≠ .closed → d.target = d.valve → d.serve now dead = d) ∧
    (d.valve = .closed → d.deadTimer ≠ none → d.serve now dead = d) ∧
    (d.valve = .closed → d.deadTimer = none → d.target = .vent → d.serve now dead =
      { d with valve := .vent, pulse := if d.pulse = .waiting then .running (now + 20000) else d.pulse }) ∧
    (d.valve = .closed → d.deadTimer = none → d.target = .fill → d.enable = true → d.serve now dead =
      { d with valve := .fill, pulse := if d.pulse = .waiting then .running (now + 20000) else d.pulse }) ∧
    (d.valve = .closed → d.target = .fill → d.enable = false → d.serve now dead = d) ∧
    (d.valve = .closed → d.target = .closed → d.serve now dead = d) ∧
    (let ended := Drive.serve { d with target := .closed, pulse := .idle, heldDecision := none } now dead
     (d.heldDecision = none → d.pulseOver now dead = ended) ∧
      (∀ v, d.heldDecision = some v →
        d.pulseOver now dead = Drive.serve { ended with target := v, pulse := .waiting } now dead)) ∧
    (∀ decision : Option Valve,
      (∀ due, d.pulse = .running due → d.decide decision now dead = { d with heldDecision := decision }) ∧
      ((∀ due, d.pulse ≠ .running due) → d.decide decision now dead =
        match decision with
        | none => Drive.serve { d with target := .closed, pulse := .idle, heldDecision := none } now dead
        | some v => Drive.serve { d with target := v, pulse := .waiting, heldDecision := none } now dead))

/-- HOUSING of a fitted drive whose housed input has been active for 30 ms since it became active: the indication is set
then, the position count becomes the housing count and 0, and a LOWERING drive within 200 counts and without a pending block
becomes DOWN and queues YIELD (R50, R69, R88; the acceptance's moment, notes/assumptions/29.md; DRIVE_STATE before the YIELD
by the model's choice, 79.md). Active for a shorter time the input stands active and nothing else happens.
HOUSED_INPUT_INACTIVE makes the input and the indication inactive at once, and nothing else when no housing was due before
it. -/
def Obligations.HousingReferencesTheCount : Prop :=
  ∀ (t since : Moment) (p : Pan) (s : State), s.fitted p = true →
    let c := s.mu.pos.get p
    let pins := s.pins.set (.housed p) ⟨true, since⟩
    let v : State := { s with
      now := max s.now (since + 30000), pins := pins, pd := s.pd.set p { s.drive p with housed := true }
      mu := { s.mu with pos := s.mu.pos.set p { c with housingCount := c.count, count := 0 } } }
    ((s.drive p).housed = false → (s.pins.get (.housed p)).level = false ∨ s.pins.get (.housed p) = ⟨true, since⟩ →
      (since + 30000 ≤ t →
        (∃ u, exec (.housing ⟨since, t⟩ p) s = .next u ∧ u.base = { v.base with now := max s.now t }) ∧
        (c.count ≤ 200 → (s.drive p).state = .lowering → (s.drive p).pendingBlock = none →
          exec (.housing ⟨since, t⟩ p) s = .next ((State.settle (((v.mapPd p fun d =>
            { d with lowerTimer := none, role := none, claimSeq := none, pendingBlock := none }).driveTo p .down none).sendYield
            p)).advance t))) ∧
      (t < since + 30000 → exec (.housing ⟨since, t⟩ p) s = .next { s with now := max s.now t, pins := pins })) ∧
    ((s.pins.get (.housed p)).level = (s.drive p).housed ∨ t < (s.pins.get (.housed p)).since + 30000 →
      exec (.housedInputInactive t p) s = .next { s with
        now := max s.now t, pins := s.pins.set (.housed p) ⟨false, max s.now t⟩
        pd := s.pd.set p { s.drive p with housed := false } })

/-- DROP_LINE_ACTIVE at an inactive drop line: the level is kept, the enable of the fitted drive is clear and its fill valve
closed when the step is over (R53), and the drive acts by its state (R54): DOWN becomes BLOCKED and queues DROP BLOCKED; RAISING,
UP and LOWERING become DROPPED, start the lower timer and queue DROP FALLING; both take the cause, without role, raise request,
pending block and the timers of a raise; DROPPED and BLOCKED stay. A drive already housed passes from DROPPED to BLOCKED (R55).
DROP_LINE_INACTIVE changes only the level. -/
def Obligations.DropLineClearsTheEnable : Prop :=
  (∀ (t : Moment) (p : Pan) (s : State),
    (s.dropLine.get p = false → s.fitted p = true →
      exec (.dropLineActive t p) s = .next (State.settle (State.dropDrive
        { s with now := max s.now t, dropLine := s.dropLine.set p true } p .dropLine)) ∧
      ∃ u, exec (.dropLineActive t p) s = .next u ∧
        u.base = { s.base with
          now := max s.now t, dropLine := s.dropLine.set p true
          enables := (⟨s.pd.p0.enable, s.pd.p1.enable⟩ : Pair Bool).set p false } ∧
        u.fillOutput p = false) ∧
    (s.dropLine.get p = false → s.fitted p = false →
      exec (.dropLineActive t p) s = .next { s with now := max s.now t, dropLine := s.dropLine.set p true }) ∧
    exec (.dropLineInactive t p) s = .next { s with now := max s.now t, dropLine := s.dropLine.set p false }) ∧
  (∀ (s : State) (p : Pan) (cause : BlockCause),
    let d := s.drive p
    let u := s.dropDrive p cause
    let dropped (st : DriveState) : Prop :=
      (u.drive p).state = st ∧ (u.drive p).blockCause = some cause ∧ (u.drive p).role = none ∧
        (u.drive p).raiseRequest = false ∧ (u.drive p).pendingBlock = none ∧ (u.drive p).raiseTimer = none ∧
        (u.drive p).regulationTimer = none ∧ (u.drive p).episode = false
    let admits : Prop := s.transmits = true ∧ s.ventedHeld = false ∧ s.rlp.queue.length < 16 ∧ d.claimStage ≠ .queued
    u.base = { s.base with enables := (⟨s.pd.p0.enable, s.pd.p1.enable⟩ : Pair Bool).set p false } ∧
    (u.drive p).target = .vent ∧
    (d.state = .down → dropped .blocked ∧
      (admits → u.rlp.queue = s.rlp.queue ++ [⟨.drop (panCode p) 1, false, false, false⟩])) ∧
    (d.state = .raising ∨ d.state = .up ∨ d.state = .lowering →
      (d.housed = false → dropped .dropped ∧ (u.drive p).lowerTimer = some (s.now + s.lowerLimit) ∧
        (admits → u.rlp.queue = s.rlp.queue ++ [⟨.drop (panCode p) 0, false, false, false⟩])) ∧
      (d.housed = true → dropped .blocked ∧ (u.drive p).lowerTimer = none)) ∧
    (d.state = .dropped ∨ d.state = .blocked → (u.drive p).state = d.state ∧ (u.drive p).blockCause = d.blockCause ∧
      u.rlp = s.rlp))

/-- RAISE_TIMEOUT and LOWER_TIMER_EXPIRY: the fault of the drive is raised with its event, bit and notice, and the raise
ends with the drive ordered down (R64, R68, R70, R75; the fault before the lowering by the model's choice,
notes/assumptions/79.md): the raise request is cleared and the fill valve closed, and a RAISING drive is LOWERING with
target VENT, the raise timer stopped and the lower timer running, or already housed DOWN or BLOCKED (R69). The base changes
in nothing but time. -/
def Obligations.DriveTimeoutsRaiseTheirFaults : Prop :=
  ∀ (t due : Moment) (p : Pan) (s : State), s.fitted p = true →
    let w : State := { s with now := max s.now (max t due) }
    ((s.drive p).raiseTimer = some due →
      exec (.raiseTimeout t p) s =
        .next (State.settle ((w.driveFault p .raiseTimeout (s.mu.pos.get p).count).orderDown p .fault)) ∧
      (let x := ((w.driveFault p .raiseTimeout (s.mu.pos.get p).count).orderDown p .fault).drive p
       (s.drive p).state = .raising →
         x.raiseRequest = false ∧ x.valve ≠ .fill ∧ x.target = .vent ∧ x.raiseTimer = none ∧
         ((s.drive p).housed = false → x.state = .lowering ∧ x.lowerTimer = some (w.now + s.lowerLimit)) ∧
         ((s.drive p).housed = true → (x.state = .down ∨ x.state = .blocked) ∧ x.lowerTimer = none)) ∧
      ∃ u, exec (.raiseTimeout t p) s = .next u ∧ u.faultSet .raiseTimeout = true ∧ u.base = w.base) ∧
    ((s.drive p).lowerTimer = some due →
      exec (.lowerTimerExpiry t p) s =
        .next (State.settle ((w.mapPd p fun d => { d with lowerTimer := none }).driveFault p .stuckUp (s.mu.pos.get p).count)) ∧
      ∃ u, exec (.lowerTimerExpiry t p) s = .next u ∧ u.faultSet .stuckUp = true ∧ u.base = w.base)

/-- The go-ahead for a STANDING claim with a role, of a drive DOWN with its enable, ONLINE, with the isolator confirmed in
the position of the role, begins the raise: RAISING, the raise timer, the valve target FILL; with the isolator in another
position the claim is refused with CLAIM_REFUSED STATE and a YIELD, in this order by the model's choice
(notes/assumptions/79.md); and a go-ahead that finds the drive otherwise is ignored (R62), one that finds an own YIELD
awaiting its echo (R69) or the role given up (the model's reading, notes/assumptions/61.md) among them. -/
def Obligations.GoAheadBeginsTheRaise : Prop :=
  ∀ (s : State) (p : Pan) (seq : Byte),
    let d := s.drive p
    let u := s.goAhead p seq
    let pos : IsoPos := if d.role = some .scraper then .opn else .closed
    let finds : Prop := d.role ≠ none ∧ d.claimStage = .standing ∧ d.claimSeq = some seq ∧ d.state = .down ∧ d.enable = true ∧
      s.rlp.port = .online ∧ ∀ q ∈ s.rlp.queue, q.notice ≠ .yield (panCode p)
    (finds → (s.sg.iso.get p).confirmed = some pos →
      (u.drive p).state = .raising ∧ (u.drive p).raiseTimer = some (s.now + s.raiseLimit) ∧
        (u.drive p).target = .fill ∧ (u.drive p).role = d.role ∧ (u.drive p).claimStage = .idle ∧ u.base = s.base) ∧
    (finds → (s.sg.iso.get p).confirmed ≠ some pos →
      u = (s.raiseEvent (.claimRefused p d.role 3 false)).yieldClaim p ∧ (u.drive p).state = .down ∧ u.base = s.base) ∧
    (¬ finds → u = s)

/-! ## The measurement unit -/

/-- The converted quantity of a VALID LV capture (R84), with the calibration items' ranges and defaults; an OVER or NO_SIGNAL
capture carries none. The frequency it is converted from is 8,000,000 divided by the interval in µs (R79). -/
def Obligations.LineVoltageConversion : Prop :=
  (∀ interval, 0 < interval → frequencyOf interval = 8000000 / interval) ∧
  (∀ (s : State) (interval : Nat), interval < 131072 →
    let f := frequencyOf interval
    let f0 := s.sc.config.item2 51
    let slope := s.sc.config.item2 53
    (s.pulseCapture .lv interval).validity = .valid ∧
      (s.pulseCapture .lv interval).quantity =
        some (if f < f0 then 0 else if 9999 < (f - f0) * 10 / slope then 9999 else (f - f0) * 10 / slope)) ∧
  (∀ (s : State) (interval : Nat), 131072 ≤ interval →
    (s.pulseCapture .lv interval).validity = .over ∧ (s.pulseCapture .lv interval).quantity = none) ∧
  noSignalCapture.quantity = none ∧ (⟨51, 2, 0, 65535⟩ : ConfigItem) ∈ configItems ∧
  (⟨53, 2, 1, 65535⟩ : ConfigItem) ∈ configItems ∧
  State.reset.sc.config.item2 51 = 10000 ∧ State.reset.sc.config.item2 53 = 3000

/-- The converted quantity of a VALID FRC0 or FRC1 capture (R85), with the calibration items' ranges and defaults; a VALID
capture is a valid reading of its drive, and an OVER or NO_SIGNAL capture an invalid one. The frequency it is converted from is
8,000,000 divided by the interval in µs (R79). -/
def Obligations.ContactForceConversion : Prop :=
  (∀ interval, 0 < interval → frequencyOf interval = 8000000 / interval) ∧
  (∀ (s : State) (ch : PulseChan) (interval z k : Nat), (ch = .frc0 ∧ z = 55 ∧ k = 57) ∨ (ch = .frc1 ∧ z = 59 ∧ k = 61) →
    (interval < 131072 →
      let f := frequencyOf interval
      let f0 := s.sc.config.item2 z
      let slope := s.sc.config.item2 k
      (s.pulseCapture ch interval).validity = .valid ∧
        (s.pulseCapture ch interval).quantity =
          some (if f < f0 then 0 else if 65535 < (f - f0) / slope then 65535 else (f - f0) / slope)) ∧
    (131072 ≤ interval → (s.pulseCapture ch interval).validity = .over)) ∧
  (∀ (s : State) (p : Pan) (c : Capture) (force : Nat), c.quantity = some force →
    (c.validity = .valid → s.takeForce p c = s.validReading p force) ∧
    (c.validity ≠ .valid → s.takeForce p c = s.invalidReading p)) ∧
  (∀ (s : State) (p : Pan) (c : Capture), c.validity ≠ .valid → s.takeForce p c = s.invalidReading p) ∧
  (∀ z ∈ [55, 59], (⟨z, 2, 0, 65535⟩ : ConfigItem) ∈ configItems ∧ State.reset.sc.config.item2 z = 5000) ∧
  (∀ k ∈ [57, 61], (⟨k, 2, 1, 65535⟩ : ConfigItem) ∈ configItems ∧ State.reset.sc.config.item2 k = 100)

/-- PULSE_INTERVAL_EDGE (R77, R79, R80, R81): a change held for 2 µs is an edge then; it sets level and SIGNAL and restarts the
no-signal timer of 100 ms; a rising edge opens a measurement, counts a period, or closes the measurement with a capture that is
fresh, and opens the next. It changes its pin and its channel and nothing else. A change not yet held so long stands at the pin
alone, and a level the channel already has is no edge. The premise: no earlier change of the pin waits (the moment of an edge
is the model's, notes/assumptions/29.md). -/
def Obligations.PulseEdgeMeasuresThePeriods : Prop :=
  (∀ interval, 0 < interval → frequencyOf interval = 8000000 / interval) ∧
  ∀ (t since : Moment) (ch : PulseChan) (level : Bool) (s : State),
    let c := s.mu.pulse ch
    (s.pins.get (pulsePin ch)).level = c.cap.level →
    let edge := max s.now (since + 2)
    let e : CaptureRecord := { c.cap with level := level, signal := true, noSignal := some (edge + 100000) }
    let out (x : PulseChannel) : Host.Outcome State Fault Refusal := .next { s with
      now := max s.now t, pins := s.pins.set (pulsePin ch) ⟨level, since⟩, mu := s.mu.setPulse ch x }
    (c.cap.level = level → exec (.pulseIntervalEdge ⟨since, t⟩ ch level) s = .next { s with now := max s.now t }) ∧
    (c.cap.level ≠ level → t < since + 2 → exec (.pulseIntervalEdge ⟨since, t⟩ ch level) s = out c) ∧
    (c.cap.level ≠ level → since + 2 ≤ t → level = false →
      exec (.pulseIntervalEdge ⟨since, t⟩ ch level) s = out ⟨e, c.measurement⟩) ∧
    (c.cap.level ≠ level → since + 2 ≤ t → level = true →
      (c.measurement = none → exec (.pulseIntervalEdge ⟨since, t⟩ ch level) s =
        out ⟨{ e with counterFrom := some edge, counterHeld := 0, overflow := 0 }, some ⟨edge, 0⟩⟩) ∧
      (∀ m, c.measurement = some m → m.periods ≠ 7 → exec (.pulseIntervalEdge ⟨since, t⟩ ch level) s =
        out ⟨e, some ⟨m.opened, m.periods + 1⟩⟩) ∧
      (∀ m, c.measurement = some m → m.periods = 7 → exec (.pulseIntervalEdge ⟨since, t⟩ ch level) s =
        out ⟨{ e with
          counterFrom := some edge, counterHeld := 0, overflow := 0, fresh := true, overrun := c.cap.overrun || c.cap.fresh
          capture := some (if edge - m.opened < 131072 then
              ⟨.valid, some (edge - m.opened), some (frequencyOf (edge - m.opened)),
                some (s.convert ch (frequencyOf (edge - m.opened))), none⟩
            else ⟨.over, none, none, none, none⟩) }, some ⟨edge, 0⟩⟩))

/-- ZERO_CROSSING_EDGE (R77, R81, R82): a change held for 20 µs is an edge then; the first edge begins the interval without a
capture; every later edge makes a VALID capture of the interval since the previous edge with the level after the edge. It
changes its pin and ZX and nothing else. A change not yet held so long stands at the pin alone. The premise: no earlier change
of the pin waits (the moment of an edge is the model's, notes/assumptions/29.md). -/
def Obligations.ZeroCrossingEdgeCapturesTheHalf : Prop :=
  ∀ (t since : Moment) (level : Bool) (s : State),
    let c := s.mu.zx
    (s.pins.get .zx).level = c.cap.level →
    let edge := max s.now (since + 20)
    let e : CaptureRecord := { c.cap with
      level := level, signal := true, noSignal := some (edge + 100000), counterFrom := some edge, counterHeld := 0, overflow := 0 }
    let out (x : ZxChannel) : Host.Outcome State Fault Refusal := .next { s with
      now := max s.now t, pins := s.pins.set .zx ⟨level, since⟩, mu := { s.mu with zx := x } }
    (c.cap.level = level → exec (.zeroCrossingEdge ⟨since, t⟩ level) s = .next { s with now := max s.now t }) ∧
    (c.cap.level ≠ level → t < since + 20 → exec (.zeroCrossingEdge ⟨since, t⟩ level) s = out c) ∧
    (c.cap.level ≠ level → since + 20 ≤ t → c.previous = none →
      exec (.zeroCrossingEdge ⟨since, t⟩ level) s = out ⟨e, some edge⟩) ∧
    (∀ m, c.cap.level ≠ level → since + 20 ≤ t → c.previous = some m → exec (.zeroCrossingEdge ⟨since, t⟩ level) s =
      out ⟨{ e with capture := some ⟨.valid, some (edge - m), none, none, some level⟩, fresh := true
                    overrun := c.cap.overrun || c.cap.fresh }, some edge⟩)

/-- CAPTURE_COUNTER_OVERFLOW: a running counter that was set to 0 at a moment passes 65535 for the first time 65,536 µs after it
and again after as long, and each pass counts up to "2 and more", where the count stays (R79). A counter that stands still has
no pass and only time passes, by the model's choice (notes/assumptions/5.md). NO_SIGNAL_TIMER_EXPIRY: the timer stops, the
status is NO_SIGNAL, a NO_SIGNAL capture replaces the one held and is fresh, a measurement is abandoned and ZX forgets its
previous edge (R81); the capture counter stands still from then on by the model's choice (notes/assumptions/15.md). -/
def Obligations.CounterOverflowAndSilenceOfAChannel : Prop :=
  ∀ (t : Moment) (ch : CaptureChan) (s : State),
    let c := s.mu.cap ch
    (∀ m, c.counterFrom = some m → c.overflow < 2 →
      exec (.captureCounterOverflow t ch) s = .next { s with
        now := max s.now (max t (m + 65536 * (c.overflow + 1)))
        mu := s.mu.mapCap ch fun c => { c with overflow := c.overflow + 1 } }) ∧
    (c.counterFrom = none ∨ 2 ≤ c.overflow → exec (.captureCounterOverflow t ch) s = .next { s with now := max s.now t }) ∧
    (∀ due, c.noSignal = some due →
      ∃ u, exec (.noSignalTimerExpiry t ch) s = .next u ∧ u = { s with now := max s.now (max t due), mu := u.mu } ∧
        u.mu.cap ch = { c with
          signal := false, noSignal := none, counterFrom := none, counterHeld := c.counter (max s.now (max t due))
          capture := some ⟨.noSignal, none, none, none, none⟩, fresh := true, overrun := c.overrun || c.fresh } ∧
        (ch = .lv → u.mu.lv.measurement = none) ∧ (ch = .frc0 → u.mu.frc.p0.measurement = none) ∧
        (ch = .frc1 → u.mu.frc.p1.measurement = none) ∧ (ch = .zx → u.mu.zx.previous = none) ∧
        (∀ x, x ≠ ch → u.mu.cap x = s.mu.cap x) ∧ u.mu.pos = s.mu.pos ∧ u.mu.arc = s.mu.arc ∧ u.mu.odo = s.mu.odo)

/-- CAPTURE_TAKE of a fresh capture: the flags are cleared, an LV or ZX capture enters the accumulators of the window in
progress, and a force capture goes to its fitted drive; nothing else of the base changes (R83, R93). Where nothing is fresh
there is nothing to take, and an unfitted drive takes nothing. A valid reading in RAISING at the contact threshold or above
begins the run of contact, and held so for 60 ms makes contact: UP, the raise timer stopped, a regulation period begun,
RAISED queued with the role (R63); below the threshold the run ends. In UP it is the reading of the period (R66), and below
20 N for more than 100 ms it raises CONTACT_LOSS once in an episode and adds to the arc tally (R67), up to 255 (R151). An
invalid reading ends both runs (R63, R67). -/
def Obligations.TakesClearTheFlagsAndFeedTheConsumer : Prop :=
  (∀ (t : Moment) (s : State),
    let cleared (ch : CaptureChan) : Mu := s.mu.mapCap ch fun c => { c with fresh := false, overrun := false }
    (∀ x, s.mu.lv.cap.fresh = true → s.mu.lv.cap.capture = some x →
      exec (.captureTake t .lv) s = .next (State.settle { s with
        now := max s.now t, mu := cleared .lv
        sg := { s.sg with acc := match x.validity, x.quantity with
          | .valid, some q => { s.sg.acc with voltageSum := s.sg.acc.voltageSum + q, voltageCount := s.sg.acc.voltageCount + 1 }
          | _, _ => { s.sg.acc with lvInvalid := true } } })) ∧
    (∀ x, s.mu.zx.cap.fresh = true → s.mu.zx.cap.capture = some x →
      ∃ u, exec (.captureTake t .zx) s = .next u ∧
        u.base = { s.base with now := max s.now t, mu := cleared .zx, acc := s.sg.acc.takeZx x s.mu.zx.cap.overrun } ∧
        (x.validity = .noSignal → u.sg.acc = { s.sg.acc with zxOverrun := s.sg.acc.zxOverrun || s.mu.zx.cap.overrun }) ∧
        (∀ n, x = zxCapture n false → u.sg.acc = { s.sg.acc with
          zxOverrun := s.sg.acc.zxOverrun || s.mu.zx.cap.overrun
          highSum := s.sg.acc.highSum + n, highCount := s.sg.acc.highCount + 1 }) ∧
        (∀ n, x = zxCapture n true → u.sg.acc = { s.sg.acc with
          zxOverrun := s.sg.acc.zxOverrun || s.mu.zx.cap.overrun
          lowSum := s.sg.acc.lowSum + n, lowCount := s.sg.acc.lowCount + 1 })) ∧
    (∀ x, s.fitted .p0 = true → s.mu.frc.p0.cap.fresh = true → s.mu.frc.p0.cap.capture = some x →
      exec (.captureTake t .frc0) s =
        .next (State.settle (State.takeForce { s with now := max s.now t, mu := cleared .frc0 } .p0 x)) ∧
      ∃ u, exec (.captureTake t .frc0) s = .next u ∧ u.base = { s.base with now := max s.now t, mu := cleared .frc0 }) ∧
    (∀ x, s.fitted .p1 = true → s.mu.frc.p1.cap.fresh = true → s.mu.frc.p1.cap.capture = some x →
      exec (.captureTake t .frc1) s =
        .next (State.settle (State.takeForce { s with now := max s.now t, mu := cleared .frc1 } .p1 x)) ∧
      ∃ u, exec (.captureTake t .frc1) s = .next u ∧ u.base = { s.base with now := max s.now t, mu := cleared .frc1 }) ∧
    (∀ ch, (s.mu.cap ch).fresh = false → exec (.captureTake t ch) s = .next { s with now := max s.now t }) ∧
    (s.fitted .p0 = false → ∃ u, exec (.captureTake t .frc0) s = .next u ∧ u.base = { s.base with now := max s.now t }) ∧
    (s.fitted .p1 = false → ∃ u, exec (.captureTake t .frc1) s = .next u ∧ u.base = { s.base with now := max s.now t })) ∧
  (∀ (s : State) (p : Pan) (x : Capture),
    (∀ force, x.validity = .valid → x.quantity = some force → s.takeForce p x = s.validReading p force) ∧
    (x.validity ≠ .valid → s.takeForce p x = s.invalidReading p)) ∧
  (∀ (s : State) (p : Pan) (force : Nat),
    let d := s.drive p
    let u := s.validReading p force
    let becomes (x : Drive) : State := { s with pd := s.pd.set p x }
    (s.invalidReading p = becomes { d with contactSince := none, lowSince := none }) ∧
    (d.state = .raising → force < s.contactThreshold → u = becomes { d with contactSince := none }) ∧
    (d.state = .raising → s.contactThreshold ≤ force → d.contactSince = none → u = becomes { d with contactSince := some s.now }) ∧
    (∀ m, d.state = .raising → s.contactThreshold ≤ force → d.contactSince = some m → s.now < m + 60000 → u = s) ∧
    (∀ m, d.state = .raising → s.contactThreshold ≤ force → d.contactSince = some m → m + 60000 ≤ s.now →
      (u.drive p).state = .up ∧ (u.drive p).role = d.role ∧ (u.drive p).raiseTimer = none ∧
        (u.drive p).regulationTimer = some (s.now + 50000) ∧ (u.drive p).active = s.shadowSetpoint d.role ∧
        (u.drive p).contactSince = none ∧ (u.drive p).episode = false ∧ u.base = s.base ∧
        (s.transmits = true → s.ventedHeld = false → s.rlp.queue.length < 16 → ∀ r, d.role = some r →
          u.rlp.queue = s.rlp.queue ++ [⟨.raised (panCode p) (roleCode r), false, false, false⟩])) ∧
    (d.state = .up → 20 ≤ force → u = becomes { d with reading := some force, lowSince := none, episode := false }) ∧
    (d.state = .up → force < 20 → (∀ m, d.lowSince = some m → s.now ≤ m + 100000) ∨ d.episode = true →
      u = becomes { d with reading := some force, lowSince := some (d.lowSince.getD s.now) }) ∧
    (∀ m, d.state = .up → force < 20 → d.lowSince = some m → m + 100000 < s.now → d.episode = false →
      u = State.raiseEvent { becomes { d with reading := some force, episode := true } with
        iu := { s.iu with tally := s.iu.tally.set p (min 255 (s.iu.tally.get p + 1)) } } (.contactLoss p)) ∧
    (d.state ≠ .raising → d.state ≠ .up → u = s))

/-- The input filters (R77): a pin that leaves its filtered level and holds the new one for its filter time (ODO 50 µs, ZX 20
µs, ARC 5 µs, the pulse and encoder inputs 2 µs; 30 ms for the housed inputs, the contacts and the breaker input, R50, R96,
R100, R105) has its change accepted then; held for a shorter time it stands at the pin alone, and a change that reverts before
its time leaves no trace. ENCODER_EDGE moves the phase pair when both phases are accepted (R87): one state on adds 1, one state
back takes 1, both phases at once add a skip; the count stays within −32768 to 32767 and the skips within 255. Nothing else of
the base changes. ARC_PULSE: a rising edge adds one to the window count, which wraps at 65535 into the overflow count, up to "2
and more"; a falling edge changes the level alone (R91). The premise of both: no earlier change of the pins waits (how a command
carries its change and when it is accepted is the model's, notes/assumptions/29.md). -/
def Obligations.EncoderAndArcInputsCount : Prop :=
  (∀ (s : State) (x : InputPin) (b : Bool) (since t : Moment) (edge : Moment → State → State),
      let due := since + filterTime x
      let held : State := { s with pins := s.pins.set x ⟨b, since⟩ }
      ((s.pins.get x).level = s.filtered x → b ≠ s.filtered x → due ≤ t →
        s.filter [(x, b)] since t edge = (edge due { held with now := max s.now due }).advance t) ∧
      ((s.pins.get x).level = s.filtered x → b ≠ s.filtered x → t < due →
        s.filter [(x, b)] since t edge = { held with now := max s.now t }) ∧
      ((s.pins.get x).level = s.filtered x → b = s.filtered x →
        s.filter [(x, b)] since t edge = { s with now := max s.now t }) ∧
      ((s.pins.get x).level ≠ s.filtered x → b = s.filtered x → since < (s.pins.get x).since + filterTime x →
        s.filter [(x, b)] since t edge = { held with now := max s.now t })) ∧
  (filterTime .odo = 50 ∧ filterTime .zx = 20 ∧ filterTime .lv = 2 ∧ filterTime .breaker = 30000 ∧
    (∀ p, filterTime (.arc p) = 5 ∧ filterTime (.frc p) = 2 ∧ filterTime (.posA p) = 2 ∧ filterTime (.posB p) = 2 ∧
      filterTime (.housed p) = 30000 ∧ filterTime (.isoOpn p) = 30000 ∧ filterTime (.isoClosed p) = 30000) ∧
    filterTime .selAc = 30000 ∧ filterTime .selOpn = 30000 ∧ filterTime .selDc = 30000) ∧
  (∀ (t since : Moment) (p : Pan) (a b : Bool) (s : State),
      let c := s.mu.pos.get p
      let forward : Bool := (a, b) = (!c.b, c.a)
      let backward : Bool := (a, b) = (c.b, !c.a)
      let c' : PosChannel :=
        if (a, b) = (c.a, c.b) then c
        else if forward then { c with a := a, b := b, count := max (-32768) (min 32767 (c.count + 1)) }
        else if backward then { c with a := a, b := b, count := max (-32768) (min 32767 (c.count - 1)) }
        else { c with a := a, b := b, skips := min 255 (c.skips + 1) }
      (s.pins.get (.posA p)).level = c.a → (s.pins.get (.posB p)).level = c.b → since + 2 ≤ t →
        ∃ u, exec (.encoderEdge ⟨since, t⟩ p a b) s = .next u ∧
          u.base = { s.base with
            now := max s.now t, pins := s.pins.take since [(.posA p, a), (.posB p, b)]
            mu := { s.mu with pos := s.mu.pos.set p c' } }) ∧
  (∀ (t since : Moment) (p : Pan) (level : Bool) (s : State),
      let c := s.mu.arc.get p
      let out (x : ArcChannel) : Host.Outcome State Fault Refusal := .next { s with
        now := max s.now t, pins := s.pins.set (.arc p) ⟨level, since⟩, mu := { s.mu with arc := s.mu.arc.set p x } }
      (s.pins.get (.arc p)).level = c.level →
        (level ≠ c.level → t < since + 5 → exec (.arcPulse ⟨since, t⟩ p level) s = out c) ∧
        (level = true → c.level = false → since + 5 ≤ t → exec (.arcPulse ⟨since, t⟩ p level) s =
          out { c with level := true, count := c.count + 1
                       overflow := if c.count = 65535 then min 2 (c.overflow + 1) else c.overflow }) ∧
        (level = c.level → exec (.arcPulse ⟨since, t⟩ p level) s = .next { s with now := max s.now t }) ∧
        (level = false → c.level = true → since + 5 ≤ t → exec (.arcPulse ⟨since, t⟩ p level) s = out { c with level := false }))

/-- AXLE_PULSE: a rising edge, held for 50 µs, counts a pulse and adds the millimetres per pulse; below 1000 mm of fraction
nothing else follows; at 1000 mm a metre step is made, which advances the metre count, has the units test their points against
it (the SQ, the CU and the IU, the proposal and probe points among them), and only then advances the arc window, whose end
closes both arc channels (R77, R89 to R92). A falling edge changes the level alone. The premise: no earlier change of the pin
waits (the moment of an edge is the model's, notes/assumptions/29.md). What the section queue does at its tests (R114): NEUTRAL is
held exactly while an own UP collector is within the neutral span of a NEUTRAL entry (R117); an own UP collector inside a NEUTRAL
entry with the breaker not confirmed open is ordered down with its raise request kept, with BREAKER_LATE the first time for entry
and pantograph (R118); a raise-hold flag is set exactly within the raise-hold range of a SYSTEM entry (R120). -/
def Obligations.AxlePulseDrivesTheOdometer : Prop :=
  (∀ (t since : Moment) (s : State),
    let o := s.mu.odo
    let mm := s.millimetresPerPulse
    let q : Odo := { o with level := true, pulses := o.pulses + 1, millimetres := o.millimetres + BitVec.ofNat 32 mm }
    let pins (b : Bool) : Pins := s.pins.set .odo ⟨b, since⟩
    (s.pins.get .odo).level = o.level →
    (o.level = true → since + 50 ≤ t → exec (.axlePulse ⟨since, t⟩ false) s = .next { s with
      now := max s.now t, pins := pins false, mu := { s.mu with odo := { o with level := false } } }) ∧
    (o.level = false → t < since + 50 → exec (.axlePulse ⟨since, t⟩ true) s = .next { s with
      now := max s.now t, pins := pins true }) ∧
    (o.level = false → since + 50 ≤ t → o.fraction + mm < 1000 → exec (.axlePulse ⟨since, t⟩ true) s = .next { s with
      now := max s.now t, pins := pins true, mu := { s.mu with odo := { q with fraction := o.fraction + mm } } }) ∧
    (o.level = false → since + 50 ≤ t → 1000 ≤ o.fraction + mm → o.windowMetres + 1 < s.arcWindow →
      ∃ u, exec (.axlePulse ⟨since, t⟩ true) s = .next u ∧ u.now = max s.now t ∧ u.pins = pins true ∧
        u.mu = { s.mu with odo := { q with
          fraction := o.fraction + mm - 1000, metres := o.metres + 1, windowMetres := o.windowMetres + 1 } }) ∧
    (o.level = false → since + 50 ≤ t → 1000 ≤ o.fraction + mm → s.arcWindow ≤ o.windowMetres + 1 →
      ∃ u, exec (.axlePulse ⟨since, t⟩ true) s = .next u ∧ u.now = max s.now t ∧ u.pins = pins true ∧ u.mu = { s.mu with
        odo := { q with fraction := o.fraction + mm - 1000, metres := o.metres + 1, windowMetres := 0 }
        arc := ⟨{ s.mu.arc.p0 with last := some s.mu.arc.p0.result, count := 0, overflow := 0 },
                { s.mu.arc.p1 with last := some s.mu.arc.p1.result, count := 0, overflow := 0 }⟩ }) ∧
    (o.level = false → since + 50 ≤ t → 1000 ≤ o.fraction + mm →
      let step : State := { s with
        now := max s.now (since + 50), pins := pins true
        mu := { s.mu with odo := { q with fraction := o.fraction + mm - 1000, metres := o.metres + 1 } } }
      exec (.axlePulse ⟨since, t⟩ true) s =
        .next (((step.passSections.followSections.testLower).settle.advanceWindow).advance t))) ∧
  (∀ (s : State) (p : Pan),
    let collector (q : Pan) : Prop := s.fitted q = true ∧ (s.drive q).state = .up ∧ (s.drive q).role = some .collector
    let between (a b : Word32) : Bool := s.reached a && !s.reached b
    let h := s.panDistance p
    let inside (e : SectionEntry) : Bool := e.kind = .neutral && between (moved e.start h) (moved e.finish h)
    let inSpan (q : Pan) (e : SectionEntry) : Prop := e.kind = .neutral ∧
      between (moved e.start (s.panDistance q - 20)) (moved e.finish (s.panDistance q + 20)) = true
    let holds : Prop := ∃ q, collector q ∧ ∃ e ∈ s.sq.entries, inSpan q e
    (s.followSections = ((s.holdNeutral.neutralTest .p0).neutralTest .p1).holdRaises) ∧
    ((holds → s.holdNeutral = s.addReason .neutral) ∧ (¬ holds → s.holdNeutral = s.removeReason .neutral) ∧
      (s.holdNeutral.sg.reasons.neutral = true ↔ holds)) ∧
    ((¬ collector p ∨ s.sg.breakerOpen = true ∨ s.sq.entries.find? inside = none → s.neutralTest p = s) ∧
      (∀ e, collector p → s.sg.breakerOpen = false → s.sq.entries.find? inside = some e →
        let down := s.orderDown p .lateBreaker
        (e.late.get p = true → s.neutralTest p = down) ∧
        (e.late.get p = false → s.neutralTest p = State.raiseFault { down with sq := { s.sq with
          entries := s.sq.entries.map fun x => if x.key = e.key then { x with late := x.late.set p true } else x } }
          .breakerLate (.breakerSection p e.key) (some p) e.key.localId) ∧
        (down.drive p).raiseRequest = (s.drive p).raiseRequest ∧ (down.drive p).valve ≠ .fill ∧
        ((s.drive p).housed = false → (down.drive p).state = .lowering) ∧ (down.drive p).state ≠ .up)) ∧
    (∃ flags : Pair Bool, s.holdRaises = { s with sq := { s.sq with raiseHold := flags } } ∧
      (flags.get p = true ↔ s.fitted p = true ∧ ∃ e ∈ s.sq.entries, e.kind ≠ .neutral ∧
        between (moved e.start (h - s.lowerDistance)) (moved e.finish (s.probeMargin + h + 1)) = true)))

/-! ## The section unit -/

/-- A SECTION applied (R112, R113): absorbed when its key is held; as NEUTRAL absorbed when it overlaps an entry; inserted,
its start the own metre count and the distance, when fewer than 8 entries are held, and refused with SECTION_REFUSED at 8; a
SYSTEM to the regime's system is taken as NEUTRAL with the rewritten flag; a SYSTEM that overlaps NEUTRAL entries alone takes
their place; one that overlaps a SYSTEM of a different target is not inserted and raises SECTION_CONFLICT (with the key of the
first in queue order by the model's choice, notes/assumptions/55.md), and one that overlaps a SYSTEM of its own target, and none
of a different one, is absorbed; with 8 entries held that it does not replace a SYSTEM is refused with SECTION_REFUSED. A new
entry stands before the first entry whose start does not lie before its own (R110). A key whose origin is no station number is
taken in like any other by the model's choice (notes/assumptions/56.md). -/
def Obligations.SectionNoticeEntersTheQueue : Prop :=
  ∀ (s : State) (n : Nat) (seq : Byte) (k : SectionKey) (dist len : Word16),
    let start := s.mu.odo.metres + dist.setWidth 32
    let e (kind : SectionKind) (rewritten : Bool) : SectionEntry :=
      ⟨k, kind, rewritten, start, start + len.setWidth 32, ⟨false, false⟩, false⟩
    let neutral := s.applyNotice n seq (.sectionAhead k.origin k.localId 0 0 dist len)
    let system (t : Supply) := s.applyNotice n seq (.sectionAhead k.origin k.localId 1 (supplyCode t) dist len)
    let free : Prop := (∀ x ∈ s.sq.entries, x.key ≠ k) ∧ ∀ x ∈ s.sq.entries, x.overlaps (e .neutral false) = false
    ((∃ x ∈ s.sq.entries, x.key = k) → neutral = s ∧ ∀ t, system t = s) ∧
    ((∃ x ∈ s.sq.entries, x.overlaps (e .neutral false) = true) → neutral = s) ∧
    (free → 8 ≤ s.sq.entries.length → neutral = s.raiseEvent (.sectionRefused k)) ∧
    (free → s.sq.entries.length < 8 → ∀ x, x ∈ neutral.sq.entries ↔ x = e .neutral false ∨ x ∈ s.sq.entries) ∧
    (∀ t, s.ru.regime.system = some t → free → s.sq.entries.length < 8 →
      ∀ x, x ∈ (system t).sq.entries ↔ x = e .neutral true ∨ x ∈ s.sq.entries) ∧
    (∀ t, s.ru.regime.system ≠ some t → (∀ x ∈ s.sq.entries, x.key ≠ k) →
      (∀ x ∈ s.sq.entries, x.overlaps (e (.system t) false) = true → x.kind = .neutral) →
      (s.sq.entries.filter fun x => !x.overlaps (e (.system t) false)).length < 8 →
      ∀ x, x ∈ (system t).sq.entries ↔
        x = e (.system t) false ∨ x ∈ s.sq.entries ∧ x.overlaps (e (.system t) false) = false) ∧
    (∀ t x, s.ru.regime.system ≠ some t → (∀ y ∈ s.sq.entries, y.key ≠ k) →
      ((s.sq.entries.filter fun y => y.overlaps (e (.system t) false)).find? fun y =>
        y.kind != .neutral && y.kind != .system t) = some x →
      system t = s.raiseEvent (.sectionConflict k x.key)) ∧
    (∀ t, s.ru.regime.system ≠ some t → (∀ y ∈ s.sq.entries, y.key ≠ k) →
      (∃ y ∈ s.sq.entries, y.overlaps (e (.system t) false) = true ∧ y.kind = .system t) →
      (∀ y ∈ s.sq.entries, y.overlaps (e (.system t) false) = true → y.kind = .neutral ∨ y.kind = .system t) →
      system t = s) ∧
    (∀ t, s.ru.regime.system ≠ some t → free → 8 ≤ s.sq.entries.length → system t = s.raiseEvent (.sectionRefused k)) ∧
    (free → s.sq.entries.length < 8 → ∃ before after, s.sq.entries = before ++ after ∧
      neutral.sq.entries = before ++ e .neutral false :: after ∧
      (∀ x ∈ before, notAfter start x.start = false) ∧ (∀ x, after.head? = some x → notAfter start x.start = true))

/-! ## The switchgear -/

/-- The window result at each expiry of the classifier's window timer, by the table of R94, tested in order. -/
def Obligations.WindowResultFollowsTheTable : Prop :=
  ∀ (t due : Moment) (s : State), s.sg.windowTimer = some due →
    let a := s.sg.acc
    let mean := a.voltageSum * 10 / a.voltageCount
    let crossings := a.highCount + a.lowCount
    let half := (a.highSum + a.lowSum) / crossings
    let high := a.highSum / a.highCount
    let low := a.lowSum / a.lowCount
    let agree : Prop := 1 ≤ a.highCount ∧ 1 ≤ a.lowCount ∧ 10 * max high low ≤ 12 * min high low
    let result : LineClass :=
      if a.voltageCount = 0 ∨ a.lvInvalid = true ∨ s.mu.lv.cap.signal = false then .unclear
      else if a.zxOverrun = true then .unclear
      else if mean < 50 then .dead
      else if agree ∧ 9500 ≤ half ∧ half ≤ 10500 ∧ 1750 ≤ mean ∧ mean ≤ 2900 then .live .ac25
      else if agree ∧ 28500 ≤ half ∧ half ≤ 31500 ∧ 1100 ≤ mean ∧ mean ≤ 1800 then .live .ac15
      else if crossings = 0 ∧ 200 ≤ mean ∧ mean ≤ 390 then .live .dc3
      else if crossings = 0 ∧ 100 ≤ mean ∧ mean ≤ 195 then .live .dc15
      else .unclear
    ∃ u, exec (.classifierWindowEnd t) s = .next u ∧ u.sg.line.lastResult = some result

/-- CLASSIFIER_WINDOW_END: the result is recorded, a run of three equal results makes it the stable class, the accumulators
are emptied and the window timer restarts for 160 ms from the moment it was due (notes/assumptions/3.md); nothing else of
the base changes (R93, R95). What supervision makes of the stable class: active with a system, an own UP collector and its
isolator CLOSED, it raises VOLTAGE_MISMATCH at a test that finds a mismatch where the test before found none (R107, R109;
the coding of its detail byte is free, notes/assumptions/8.md, and the BREAKER_REASONS of the FAULT reason follows it by the
model's choice, 79.md), and the dead-line timer starts for 2 s when supervision, DEAD and no UP collector inside a queued
section come to hold together, and stops when one ceases (R108). -/
def Obligations.ThreeEqualResultsMakeTheStableClass : Prop :=
  (∀ (t due : Moment) (s : State), s.sg.windowTimer = some due →
    let r := s.sg.acc.result s.mu.lv.cap.signal
    let n := if s.sg.line.runClass = some r then min 3 (s.sg.line.runLength + 1) else 1
    ∃ u, exec (.classifierWindowEnd t) s = .next u ∧
      u.base = { s.base with
        now := max s.now (max t due), windowTimer := some (due + 160000), acc := ⟨0, 0, false, 0, 0, 0, 0, false⟩
        lineRecord := ⟨some r, some r, n, if n = 3 then r else s.sg.line.stable⟩ }) ∧
  (∀ s : State,
    let stable := s.sg.line.stable
    let system := s.ru.regime.system
    let up (p : Pan) : Prop := s.fitted p = true ∧ (s.drive p).state = .up ∧ (s.drive p).role = some .collector
    let watched (p : Pan) : Prop := system ≠ none ∧ up p ∧ (s.sg.iso.get p).confirmed = some .closed
    let active : Prop := watched .p0 ∨ watched .p1
    let mismatch : Prop := active ∧ stable ≠ .dead ∧ ∀ x, system = some x → stable ≠ .live x
    let inside : Prop := ∃ p, up p ∧ ∃ e ∈ s.sq.entries,
      s.reached (moved e.start (s.panDistance p)) = true ∧ s.reached (moved e.finish (s.panDistance p)) = false
    let line : Prop := active ∧ stable = .dead ∧ ¬ inside
    let becomes (g : Sg) : State := { s with sg := g }
    ((¬ mismatch → s.supervise = becomes { s.sg with mismatchHeld := false }) ∧
      (mismatch → s.sg.mismatchHeld = true → s.supervise = s) ∧
      (∀ p, mismatch → s.sg.mismatchHeld = false → watched p → (p = .p1 → ¬ watched .p0) →
        let d : FaultDetail := .voltage (some p) stable system
        s.supervise = (State.raiseFault (becomes { s.sg with mismatchHeld := true }) .voltageMismatch d (some p)
          (Config.faultDetailByte d)).addReason .fault)) ∧
    ((line → s.sg.deadHeld = false →
        s.watchDeadLine = becomes { s.sg with deadHeld := true, deadLineTimer := some (s.now + 2000000) }) ∧
      (line → s.sg.deadHeld = true → s.watchDeadLine = s) ∧
      (¬ line → s.watchDeadLine = becomes { s.sg with deadHeld := false, deadLineTimer := none })))

/-- SELECTOR_FEEDBACK_CHANGE, ISOLATOR_FEEDBACK_CHANGE and BREAKER_INPUT_CHANGE of inputs that have held their levels for 30
ms keep the levels and change nothing else of the base (R96, R100, R105; the acceptance's moment, notes/assumptions/29.md).
The selector at rest takes another position shown, or none, as its confirmed one, with SWITCHGEAR_FEEDBACK (R99; also where
none was shown before, by the model's choice, notes/assumptions/66.md); the destination of its leg shown ends the leg: at
the target the selector is at rest and the CU is told, before it the next leg starts (R98). A request starts the first leg
towards its target, through OPEN, with the confirmed position at its start, NONE included, kept as the position before the
leg (the model's reading, notes/assumptions/45.md), is complete at once at the target, replaces the target of a selector
that is busy, and is declined unless every fitted drive is DOWN or BLOCKED (R97; the target of a request complete at once,
notes/assumptions/54.md). The destination of an isolator's move shown ends the move, and a further request is then served;
an isolator at rest takes what is shown as its confirmed position (R102; the values that ISOLATOR_STATE, and SELECTOR_STATE
at an arrival, carry are the model's choice, notes/assumptions/77.md); a request is complete at once in its position, starts
its move with the drive DOWN or BLOCKED, and is held otherwise and behind a move (R101). The isolator of an unfitted
pantograph takes its confirmed position from the contacts (R181; notes/assumptions/16.md). The breaker timer stops when the
breaker opens and starts, when stopped, when it closes with a reason held, with BREAKER_CONFIRM (R105, R106). Levels the
inputs already show are no change. The premise: no earlier change of the inputs waits. -/
def Obligations.FeedbackInputsAreKept : Prop :=
  (∀ (t since : Moment) (s : State) (c : SelContacts),
      let x := s.sg.selector
      let pins := s.pins.take since [(.selAc, c.ac), (.selOpn, c.opn), (.selDc, c.dc)]
      (s.pins.get .selAc).level = x.contacts.ac → (s.pins.get .selOpn).level = x.contacts.opn →
      (s.pins.get .selDc).level = x.contacts.dc → since + 30000 ≤ t →
        (c = x.contacts → exec (.selectorFeedbackChange ⟨since, t⟩ c) s = .next { s with now := max s.now t }) ∧
        (c ≠ x.contacts → exec (.selectorFeedbackChange ⟨since, t⟩ c) s =
          .next ((State.selectorFeedback { s with now := max s.now (since + 30000), pins := pins } c).advance t)) ∧
        ∃ u, exec (.selectorFeedbackChange ⟨since, t⟩ c) s = .next u ∧
          u.base = { s.base with now := max s.now t, pins := pins, selContacts := c }) ∧
  (∀ (s : State) (c : SelContacts),
      let x := s.sg.selector
      let becomes (y : Selector) : State := { s with sg := { s.sg with selector := y } }
      (x.busy = false → x.leg = none → selShows c ≠ x.confirmed → s.selectorFeedback c = State.settle (State.raiseEvent
        (becomes { x with contacts := c, confirmed := selShows c }) (.selectorFeedback (selShows c)))) ∧
      (∀ dest, x.leg = some dest → selShows c = some dest → x.target = some dest → s.selectorFeedback c = State.settle
        (State.answerCu (State.raiseEvent (becomes ⟨c, some dest, none, none, none, false, none⟩)
          (.selectorState (some dest) none)) true)) ∧
      (∀ dest target leg, x.leg = some dest → selShows c = some dest → x.target = some target → target ≠ dest →
        nextLeg (some dest) target = some leg → x.busy = true → s.selectorFeedback c = State.settle (State.raiseEvent
          (State.raiseEvent (becomes ⟨c, none, some target, some leg, some dest, true, some (s.now + 3000000)⟩)
            (.selectorState (some dest) none)) (.selectorState none (some leg))))) ∧
  (∀ (s : State) (dest : SelPos),
      let x := s.sg.selector
      let asked : State := { s with cu := { s.cu with selRequest := .asked, selAnswer := none } }
      (s.allDown = false → s.requestSelector dest = { s with cu := { s.cu with selRequest := .declined } }) ∧
      (s.allDown = true → x.busy = true →
        s.requestSelector dest = { asked with sg := { s.sg with selector := { x with target := some dest } } }) ∧
      (s.allDown = true → x.busy = false → x.confirmed = some dest → s.requestSelector dest = asked.answerCu true) ∧
      (s.allDown = true → x.busy = false → x.confirmed ≠ some dest →
        let leg : SelPos := if x.confirmed = some .opn then dest else .opn
        s.requestSelector dest = State.raiseEvent { asked with sg := { s.sg with selector := { x with
          target := some dest, leg := some leg, before := x.confirmed, confirmed := none, busy := true
          legTimer := some (s.now + 3000000) } } } (.selectorState none (some leg)))) ∧
  (∀ (t since : Moment) (s : State) (p : Pan) (c : IsoContacts),
      let i := s.sg.iso.get p
      let pins := s.pins.take since [(.isoOpn p, c.opn), (.isoClosed p, c.closed)]
      (s.pins.get (.isoOpn p)).level = i.contacts.opn → (s.pins.get (.isoClosed p)).level = i.contacts.closed →
      since + 30000 ≤ t →
        (c = i.contacts → exec (.isolatorFeedbackChange ⟨since, t⟩ p c) s = .next { s with now := max s.now t }) ∧
        (c ≠ i.contacts → exec (.isolatorFeedbackChange ⟨since, t⟩ p c) s =
          .next ((State.isolatorFeedback { s with now := max s.now (since + 30000), pins := pins } p c).advance t)) ∧
        (s.fitted p = true → ∃ u, exec (.isolatorFeedbackChange ⟨since, t⟩ p c) s = .next u ∧
          u.base = { s.base with
            now := max s.now t, pins := pins
            isoContacts := (⟨s.sg.iso.p0.contacts, s.sg.iso.p1.contacts⟩ : Pair IsoContacts).set p c }) ∧
        (s.fitted p = false → c ≠ i.contacts → exec (.isolatorFeedbackChange ⟨since, t⟩ p c) s = .next { s with
          now := max s.now t, pins := pins
          sg := { s.sg with iso := s.sg.iso.set p ⟨c, isoShows c, some .closed, none, none, false, false⟩ } })) ∧
  (∀ (s : State) (p : Pan) (c : IsoContacts), s.fitted p = true →
      let i := s.sg.iso.get p
      let becomes (y : Isolator) : State := { s with sg := { s.sg with iso := s.sg.iso.set p y } }
      (i.moving = none → isoShows c = i.confirmed → s.isolatorFeedback p c = (becomes { i with contacts := c }).settle) ∧
      (i.moving = none → isoShows c ≠ i.confirmed → s.isolatorFeedback p c = State.settle (State.raiseEvent
        (becomes { i with contacts := c, confirmed := isoShows c }) (.isolatorFeedback p (isoShows c)))) ∧
      (∀ dest, i.moving = some dest → isoShows c = some dest → s.isolatorFeedback p c = State.settle
        (State.serveIso (State.raiseEvent
          (becomes { i with contacts := c, confirmed := some dest, moving := none, moveTimer := none })
          (.isolatorState p (some dest) none)) p)) ∧
      (∀ dest, i.moving = some dest → isoShows c ≠ some dest →
        s.isolatorFeedback p c = (becomes { i with contacts := c }).settle)) ∧
  (∀ (s : State) (p : Pan),
      let i := s.sg.iso.get p
      let becomes (y : Isolator) : State := { s with sg := { s.sg with iso := s.sg.iso.set p y } }
      (∀ pos byIu, s.requestIso p pos byIu = State.serveIso (becomes { i with
        requested := some pos, askedIu := i.askedIu || byIu, askedCu := i.askedCu || !byIu }) p) ∧
      (i.moving ≠ none ∨ i.requested = none → s.serveIso p = s) ∧
      (∀ pos, i.moving = none → i.requested = some pos → i.confirmed = some pos →
        s.serveIso p = becomes { i with requested := none, askedIu := false, askedCu := false }) ∧
      (∀ pos, i.moving = none → i.requested = some pos → i.confirmed ≠ some pos →
        (s.fitted p = true → (s.drive p).state = .down ∨ (s.drive p).state = .blocked → s.serveIso p = State.raiseEvent
          (becomes { i with moving := some pos, confirmed := none, moveTimer := some (s.now + 2000000) })
          (.isolatorState p none (some pos))) ∧
        ((s.drive p).state ≠ .down → (s.drive p).state ≠ .blocked → s.serveIso p = s))) ∧
  (∀ (t since : Moment) (active : Bool) (s : State),
      let held := s.sg.reasons.neutral || s.sg.reasons.round || s.sg.reasons.fault || s.sg.reasons.host
      let at' := max s.now (since + 30000)
      let pins := s.pins.set .breaker ⟨active, since⟩
      (s.pins.get .breaker).level = s.sg.breakerOpen →
        (s.sg.breakerOpen ≠ active → since + 30000 ≤ t →
          exec (.breakerInputChange ⟨since, t⟩ active) s = .next ((State.settle (State.raiseEvent { s with
            now := at', pins := pins
            sg := { s.sg with
              breakerOpen := active
              breakerTimer := if active then none
                else if held then (match s.sg.breakerTimer with
                  | some due => some due
                  | none => some (at' + s.breakerPeriod))
                else s.sg.breakerTimer } } (.breakerConfirm active))).advance t)) ∧
        (s.sg.breakerOpen ≠ active → t < since + 30000 →
          exec (.breakerInputChange ⟨since, t⟩ active) s = .next { s with now := max s.now t, pins := pins }) ∧
        (s.sg.breakerOpen = active → exec (.breakerInputChange ⟨since, t⟩ active) s = .next { s with now := max s.now t }))

/-- SELECTOR_LEG_TIMEOUT and ISOLATOR_MOVE_TIMEOUT: the motor is released, the fault is raised with the FAULT reason, and
the unit that asked is then told (the order for an isolator is the model's reading, notes/assumptions/65.md, and that the
FAULT reason follows the fault is its choice, 79.md); nothing of the base changes but time (R98, R102, R104, R109). The
fault's detail byte is free (notes/assumptions/8.md). BREAKER_TIMER_EXPIRY: the timer stops and BREAKER_LATE is raised with
the reason set (R106). DEAD_LINE_TIMER_EXPIRY: the timer stops and LINE_DEAD is raised with the metre count (R108). Nothing
of the base changes but time. -/
def Obligations.GearTimeoutsRaiseTheirFaults : Prop :=
  (∀ (t due : Moment) (s : State),
      let w : State := { s with now := max s.now (max t due) }
      (s.sg.selector.legTimer = some due →
        exec (.selectorLegTimeout t) s = .next (State.settle ((State.gearFault { w with
          sg := { s.sg with selector := { s.sg.selector with
            confirmed := s.sg.selector.before, target := none, leg := none, before := none, busy := false, legTimer := none } } }
          .selectorTimeout (.selector s.sg.selector.leg s.sg.selector.before) none).answerCu false)) ∧
        ∃ u, exec (.selectorLegTimeout t) s = .next u ∧ u.faultSet .selectorTimeout = true ∧ u.base = w.base) ∧
      (∀ p, (s.sg.iso.get p).moveTimer = some due →
        exec (.isolatorMoveTimeout t p) s =
          .next (State.settle ((w.gearFault .isolatorTimeout (.isolator p (s.sg.iso.get p).moving) (some p)).isoFails p)) ∧
        ∃ u, exec (.isolatorMoveTimeout t p) s = .next u ∧ u.faultSet .isolatorTimeout = true ∧ u.base = w.base)) ∧
  (∀ (t due : Moment) (s : State),
      let w : State := { s with now := max s.now (max t due) }
      (s.sg.breakerTimer = some due →
        let d := FaultDetail.breakerTimer s.sg.reasons
        exec (.breakerTimerExpiry t) s = .next (State.settle (State.raiseFault { w with sg := { s.sg with breakerTimer := none } }
          .breakerLate d none (Config.faultDetailByte d))) ∧
        ∃ u, exec (.breakerTimerExpiry t) s = .next u ∧ u.faultSet .breakerLate = true ∧ u.base = w.base) ∧
      (s.sg.deadLineTimer = some due →
        exec (.deadLineTimerExpiry t) s = .next (State.settle (State.raiseEvent
          { w with sg := { s.sg with deadLineTimer := none } } (.lineDead s.mu.odo.metres))) ∧
        ∃ u, exec (.deadLineTimerExpiry t) s = .next u ∧ u.base = w.base))

/-! ## Rounds, ice and heating -/

/-- ROUND_TIMER_EXPIRY: CO-ABORT is queued, with PEER_UNKNOWN if a peer is SILENT, FOREIGN or doubtful and TIMEOUT otherwise;
in ADOPTED the round closes here ABORTED with reason TIMEOUT, in phase NONE with ROUND removed, and the system becomes NONE
(R139, R142). PROBE_WAIT_TIMER_EXPIRY: CO-PROBE is queued with the stable class as it stands (R137).
PROBE_RETRY_TIMER_EXPIRY: the timer stops, and the conditions are tested in the step (R136). The CO-PROBE counts as queued
for the round also where it is lost (the model's reading, notes/assumptions/25.md). The phases of a round: GATHER adds ROUND,
drops the raises and the scraper, suspends the heat grant and passes to LOWER where the lower point is reached or nothing is
fitted; LOWER with nothing fitted is READY, with every drive DOWN or BLOCKED SWITCH, and waits otherwise; the SG's
confirmation ends SWITCH in READY, its failure leaves the station in SWITCH, and in catch-up both close the round; READY and
PROBE follow the roster's probe, and a return to READY queues no second CO-READY (the model's reading,
notes/assumptions/19.md) (R128 to R131, R134, R140). ROUND_PHASE stands before what a phase's entry brings
(notes/assumptions/79.md), P0 acts before P1 (81.md), and GATHER cancels the STANDING claim of a BLOCKED drive too (84.md),
all by the model's choice. The moment a timer is due is the model's (notes/assumptions/3.md). -/
def Obligations.RoundTimersQueueTheirNotices : Prop :=
  (∀ (t due : Moment) (s : State),
    let now := max s.now (max t due)
    let unsure : Bool := stations.any fun n => (s.peer n).status = .silent || (s.peer n).status = .foreign || (s.peer n).doubtful
    (s.cu.roundTimer = some due → s.cu.phase ≠ .adopted →
      exec (.roundTimerExpiry t) s = .next (State.settle (State.sendClose { s with now := now, cu := { s.cu with roundTimer := none } }
        (.coAbort s.cu.number (systemCode s.cu.target) (if unsure then 3 else 1))))) ∧
    (s.cu.roundTimer = some due → s.cu.phase = .adopted →
      ∃ v : State, exec (.roundTimerExpiry t) s = .next v.settle ∧
        v = State.closeAborted { s with now := now, cu := { s.cu with roundTimer := none } } .timeout ∧
        v.cu.isOpen = false ∧ v.cu.outcome = .aborted ∧ v.cu.closeReason = some .timeout ∧ v.cu.phase = .none ∧
        v.cu.roundTimer = none ∧ v.sg.reasons.round = false ∧ v.settle.base = { s.base with now := now, system := none }) ∧
    (s.cu.probeWait = some due →
      exec (.probeWaitTimerExpiry t) s = .next (State.settle (State.sendClose { s with
        now := now, cu := { s.cu with probeWait := none, probeReported := true } }
        (.coProbe s.cu.number (systemCode s.cu.target) (classCode s.sg.line.stable))))) ∧
    (s.cu.probeRetry = some due →
      exec (.probeRetryTimerExpiry t) s = .next (State.settle { s with now := now, cu := { s.cu with probeRetry := none } }))) ∧
  (∀ s : State,
    s.enterGather = (((s.phaseTo .gather).addReason .round).dropRaises.scraperMeetsRound.followUsable).testLower ∧
    (s.cu.phase ≠ .gather → s.testLower = s) ∧
    (s.cu.phase = .gather →
      let reached : Bool := match s.cu.start with
        | none => true
        | some x => s.reached (moved x (s.frontDistance - s.lowerDistance))
      (reached = true ∨ s.anyFitted = false → s.testLower = s.enterLower) ∧
      (reached = false → s.anyFitted = true → s.testLower = s)) ∧
    (s.anyFitted = false → s.enterLower = (s.phaseTo .lower).enterReady) ∧
    (s.anyFitted = true → s.allDown = true → s.enterLower.cu.phase = .switch) ∧
    ((∃ p, s.fitted p = true ∧ ((s.drive p).state = .lowering ∨ (s.drive p).state = .dropped ∨
        ((s.drive p).state = .raising ∨ (s.drive p).state = .up) ∧ (s.drive p).housed = false)) →
      s.enterLower.cu.phase = .lower ∧ (∀ p, s.fitted p = true → (s.enterLower.drive p).state ≠ .raising ∧
        (s.enterLower.drive p).state ≠ .up)) ∧
    (∀ target, s.cu.target = some target →
      s.enterSwitch = (s.phaseTo .switch).requestSelector (selectorFor target)) ∧
    s.enterReady = (s.phaseTo .ready).send (.coReady s.cu.number (systemCode s.cu.target)) ∧
    (s.cu.phase = .switch → s.cu.catchUp = false → s.cu.selAnswer = some true →
      s.takeAnswer = State.enterReady { s with cu := { s.cu with selAnswer := none } }) ∧
    (s.cu.phase = .switch → s.cu.catchUp = false → s.cu.selAnswer = some false →
      s.takeAnswer = { s with cu := { s.cu with selAnswer := none, selRequest := .failed } }) ∧
    (∀ ok, s.cu.phase = .switch → s.cu.catchUp = true → s.cu.selAnswer = some ok →
      s.takeAnswer.cu.isOpen = false ∧ s.takeAnswer.cu.catchUp = false ∧ s.takeAnswer.cu.phase = .none ∧
        s.takeAnswer.sg.reasons.round = false) ∧
    (s.cu.phase = .ready → s.occupyingRole .probe = true → s.followProbeEntry = s.phaseTo .probe) ∧
    (s.cu.phase = .probe → s.occupyingRole .probe = false → s.followProbeEntry = s.phaseTo .ready) ∧
    (s.cu.phase ≠ .ready → s.cu.phase ≠ .probe → s.followProbeEntry = s))

/-- A round that closes DONE in READY or PROBE sets the regime system to its target, keeps number and target, and stands
closed with phase NONE; one that closes ABORTED sets the system to NONE (R138, R139, R141). Both leave band and direction. A
CO-PROPOSE completes an adoption that it agrees with, is absorbed or ignored while a round is open, under the record's key,
or to the system held, and opens the round otherwise, from the section queue's entry of its key or from its distance and
length (R126; the opening and the completion tell the section unit the key, one unknown as no key, notes/assumptions/58.md,
60.md). CO-READY, CO-PROBE and CO-ABORT meet the current round, an adoption they complete, or a newer round they open, and
are ignored otherwise: CO-READY adds its origin to the ready set; CO-PROBE closes the round DONE with the target measured, in
READY or PROBE, enters catch-up in other phases, and closes it ABORTED with another class; CO-ABORT closes it ABORTED; in
catch-up the last two are ignored and complete no adoption, and a completion in catch-up enters SWITCH at once (the model's
reading, notes/assumptions/46.md) (R132, R138 to R141, R144, R145). One with target NONE acts on the current round, which it
names by its number, as with any other target, and is ignored otherwise (the model's choice, notes/assumptions/21.md). A
PRESENT that shows an open round not held starts an adoption, with an empty ready set (R145; whatever its own-ready flag, by
the model's choice, 75.md), and in ADOPTED the selector is sent to OPEN once every own drive is DOWN or BLOCKED, at a station
without pantographs too; there the completion enters READY, and a move to OPEN still running has its target replaced by the
target's position (R97, R145). A key's origin above 24 is taken as it stands (the model's choice, 56.md). An opening passes
the phases that end at once before its notice is applied to the round, and acts on the selector's answer after it, by the
model's choice (83.md). -/
def Obligations.ClosingARoundSetsTheSystem : Prop :=
  (∀ (s : State) (reason : CloseReason),
    (let u := s.closeDone
     u.ru.regime.system = s.cu.target ∧ u.ru.regime.band = s.ru.regime.band ∧
       u.ru.regime.direction = s.ru.regime.direction ∧ u.cu.isOpen = false ∧ u.cu.outcome = .done ∧
       u.cu.phase = .none ∧ u.cu.number = s.cu.number ∧ u.cu.target = s.cu.target ∧ u.sg.reasons.round = false) ∧
    (let u := s.closeAborted reason
     u.ru.regime.system = none ∧ u.ru.regime.band = s.ru.regime.band ∧ u.ru.regime.direction = s.ru.regime.direction ∧
       u.cu.isOpen = false ∧ u.cu.outcome = .aborted ∧ u.cu.closeReason = some reason ∧ u.cu.phase = .none ∧
       u.cu.number = s.cu.number ∧ u.sg.reasons.round = false)) ∧
  (∀ (s : State) (origin : Nat) (seq n o i : Byte) (target : Supply) (d len : Word16),
    let k : RoundKey := if o = 0 then .none else .key ⟨o, i⟩
    let u := s.applyNotice origin seq (.coPropose n (supplyCode target) o i d len)
    let start := s.mu.odo.metres + d.setWidth 32
    let points : Option Word32 × Option Word32 := match s.sq.entries.find? fun e => e.key = ⟨o, i⟩ with
      | some e => if o = 0 then (none, none) else (some e.start, some e.finish)
      | none => if o = 0 then (none, none) else (some start, some (start + len.setWidth 32))
    let ignored (why : IgnoredReason) : State :=
      if origin = s.own then s.raiseEvent (.proposalIgnored ⟨o, i⟩ why) else s
    let agrees : Prop := s.cu.phase = .adopted ∧ s.cu.mod64 = true ∧ n.toNat % 64 = s.cu.number.toNat % 64
    let absorbs : Prop := (k ≠ .none ∧ k = s.cu.key) ∨ (k = .none ∧ s.cu.key = .none ∧ s.cu.target = some target)
    (agrees → u = s.completeAdoption n target k points.1 points.2) ∧
    (¬ agrees → s.cu.isOpen = true → absorbs → u = s) ∧
    (¬ agrees → s.cu.isOpen = true → ¬ absorbs → u = ignored .roundOpen) ∧
    (¬ agrees → s.cu.isOpen = false → k ≠ .none → k = s.cu.key → u = s) ∧
    (¬ agrees → s.cu.isOpen = false → k = .none ∨ k ≠ s.cu.key → s.ru.regime.system = some target → u = ignored .sameSystem) ∧
    (¬ agrees → s.cu.isOpen = false → k = .none ∨ k ≠ s.cu.key → s.ru.regime.system ≠ some target →
      u = s.openRound n target k points.1 points.2)) ∧
  (∀ (s : State) (n : Byte) (target : Supply) (k : RoundKey) (a b : Option Word32),
    let u := s.openRound n target k a b
    let asked : State := { s with cu := { s.cu with
      number := n, mod64 := false, key := k, target := some target, start := a, finish := b, selAnswer := none } }
    (u = (State.sectionsAtOpening (State.raiseEvent { s with cu := { s.cu with
        number := n, mod64 := false, isOpen := true, key := k, target := some target, start := a, finish := b, ready := []
        catchUp := false, breakerLate := false, roundTimer := some (s.now + s.roundTimeout), selRequest := .idle
        selAnswer := none, isoFailed := ⟨false, false⟩, probeReported := false } }
        (.roundOpened n (some target) k false)) (queuedKey k)).enterGather) ∧
    u.cu.isOpen = true ∧ u.cu.number = n ∧ u.cu.target = some target ∧ u.cu.key = k ∧ u.cu.start = a ∧ u.cu.finish = b ∧
      u.cu.ready = [] ∧ u.cu.catchUp = false ∧ u.cu.roundTimer = some (s.now + s.roundTimeout) ∧
      u.sg.reasons.round = true ∧ u.ru.regime = s.ru.regime ∧
    (s.anyFitted = true → s.completeAdoption n target k a b = (asked.sectionsAtOpening (queuedKey k)).enterSwitch) ∧
    (s.anyFitted = false →
      let told := asked.sectionsAtOpening (queuedKey k)
      let opening : Prop := s.sg.selector.busy = true ∧ s.sg.selector.target = some .opn
      (opening → s.completeAdoption n target k a b = (told.requestSelector (selectorFor target)).enterReady ∧
        (s.completeAdoption n target k a b).sg.selector = { s.sg.selector with target := some (selectorFor target) }) ∧
      (¬ opening → s.completeAdoption n target k a b = told.enterReady))) ∧
  (∀ (s : State) (origin : Nat) (seq n : Byte) (target : Supply) (measured : LineClass) (reason : CloseReason) (r : Byte),
    abortReasonOf r = some reason →
    let ready := s.applyNotice origin seq (.coReady n (supplyCode target))
    let probe := s.applyNotice origin seq (.coProbe n (supplyCode target) (classCode measured))
    let abort := s.applyNotice origin seq (.coAbort n (supplyCode target) r)
    let agrees : Prop := s.cu.phase = .adopted ∧ s.cu.mod64 = true ∧ n.toNat % 64 = s.cu.number.toNat % 64
    let current : Prop := s.cu.isOpen = true ∧ s.cu.mod64 = false ∧ n = s.cu.number
    let learned := s.learnedPoints target
    let meets (t : State) : Prop :=
      ready = (t.mapCu fun c => { c with ready := if c.ready.contains origin then c.ready else c.ready ++ [origin] }) ∧
      (s.cu.catchUp = true → probe = s ∧ abort = s) ∧
      (s.cu.catchUp = false → abort = t.closeAborted reason ∧
        (t.cu.target ≠ none → some measured = t.cu.target.map LineClass.live →
          (t.cu.phase = .ready ∨ t.cu.phase = .probe → probe = t.closeDone) ∧
          (t.cu.phase ≠ .ready → t.cu.phase ≠ .probe → probe = t.enterCatchUp)) ∧
        (some measured ≠ t.cu.target.map LineClass.live → probe = t.closeAborted
          (match measured with
           | .live _ => .wrongSystem
           | .dead => .noVoltage
           | .unclear => .unclear)))
    (current → meets s) ∧
    (agrees → s.cu.isOpen = true → meets (s.completeAdoption n target learned.1 learned.2.1 learned.2.2)) ∧
    (s.cu.isOpen = false → s.newer n = true → ¬ agrees →
      meets (s.openRound n target learned.1 learned.2.1 learned.2.2)) ∧
    (¬ current → ¬ agrees → s.cu.isOpen = true ∨ s.newer n = false → ready = s ∧ probe = s ∧ abort = s) ∧
    (let ready0 := s.applyNotice origin seq (.coReady n 0)
     let probe0 := s.applyNotice origin seq (.coProbe n 0 (classCode measured))
     let abort0 := s.applyNotice origin seq (.coAbort n 0 r)
     (current → ready0 = ready ∧ probe0 = probe ∧ abort0 = abort) ∧
     (¬ current → ready0 = s ∧ probe0 = s ∧ abort0 = s))) ∧
  (∀ s : State, s.cu.phase = .adopted → s.cu.catchUp = false →
    (s.allDown = true → s.cu.selRequest = .idle → s.followPhase = s.requestSelector .opn) ∧
    (s.allDown = false ∨ s.cu.selRequest ≠ .idle → s.followPhase = s) ∧ (s.anyFitted = false → s.allDown = true)) ∧
  (∀ s : State,
    let t := (State.setSystem { s with cu := { s.cu with
      outcome := .done, closeReason := none, catchUp := true, roundTimer := none, probeWait := none, probeRetry := none } }
      s.cu.target).probesToCollectors
    (s.anyFitted = false → s.enterCatchUp = t.closeLocal) ∧
    (s.anyFitted = true → s.cu.phase = .gather → s.enterCatchUp = t.enterLower) ∧
    (s.anyFitted = true → s.cu.phase = .lower ∨ s.cu.phase = .adopted ∨ s.cu.phase = .switch ∧ s.cu.selRequest ≠ .failed →
      s.enterCatchUp = t)) ∧
  (∀ (s : State) (origin : Nat) (round : Byte) (system : Option Supply),
    let n64 := round.toNat / 4
    origin ≠ s.own → (s.peer origin).status = .live → round.getLsbD 1 = true → s.cu.isOpen = false →
      (s.cu.outcome = .none ∨ n64 ≠ s.cu.number.toNat % 64) →
        let u := s.takeRoundByte origin true round system
        u.cu.isOpen = true ∧ u.cu.mod64 = true ∧ u.cu.number = BitVec.ofNat 8 n64 ∧ u.cu.phase = .adopted ∧
          u.cu.key = .unknown ∧ u.cu.target = none ∧ u.cu.start = none ∧ u.cu.finish = none ∧ u.cu.ready = [] ∧
          u.cu.roundTimer = some (s.now + s.roundTimeout) ∧ u.sg.reasons.round = true ∧
          (∀ p, s.fitted p = true → (u.drive p).state ≠ .raising ∧ (u.drive p).state ≠ .up))

/-- An arc window end at the IU (R150 to R152): the window counts of own collectors join their histories of at most 8, the
tallies return to 0, the no-collector count follows, and in mode AUTO the observation follows the score, or becomes CLEAR at
the eighth window without a collector; in mode FORCED it stays. It comes with the metre step that fills the arc window, after
the tests of that step, with the results of the two channels as they close (R90 to R92). -/
def Obligations.ArcWindowEndFeedsTheObservation : Prop :=
  (∀ (s : State) (r : Pair ArcResult),
    let u := s.arcWindowEnd r
    let o := s.iu.observation
    (∀ p, u.iu.history.get p =
      if s.upCollector p then
        let h := s.iu.history.get p ++
          [min 65535 ((match r.get p with | .count n => n | .over => 65535) + s.iu.tally.get p)]
        h.drop (h.length - 8)
      else s.iu.history.get p) ∧
    u.iu.tally = ⟨0, 0⟩ ∧
    (s.iu.forced = true → u.iu.observation = o) ∧
    (s.anyCollector = true → u.iu.noCollector = 0 ∧ (s.iu.forced = false → u.iu.observation =
      if s.scrapeThreshold ≤ u.score ∧ o ≠ .scrape then .scrape
      else if s.watchThreshold ≤ u.score ∧ o = .clear then .watch
      else if o = .scrape ∧ (u.score : Int) < s.scrapeThreshold - s.hysteresis then .watch
      else if o = .watch ∧ (u.score : Int) < s.watchThreshold - s.hysteresis then .clear
      else o)) ∧
    (s.anyCollector = false → u.iu.noCollector = min 8 (s.iu.noCollector + 1) ∧
      (s.iu.forced = false → u.iu.observation = if s.iu.noCollector = 7 then .clear else o))) ∧
  (∀ (t since : Moment) (s : State),
    let o := s.mu.odo
    let mm := s.millimetresPerPulse
    (s.pins.get .odo).level = false → o.level = false → since + 50 ≤ t → 1000 ≤ o.fraction + mm →
      s.arcWindow ≤ o.windowMetres + 1 →
        ∃ m : State, m.mu = { s.mu with odo := { o with
            level := true, pulses := o.pulses + 1, millimetres := o.millimetres + BitVec.ofNat 32 mm
            fraction := o.fraction + mm - 1000, metres := o.metres + 1 } } ∧
          exec (.axlePulse ⟨since, t⟩ true) s = .next ((State.settle (State.arcWindowEnd
            { m with mu := { m.mu with
              odo := { m.mu.odo with windowMetres := 0 }
              arc := ⟨{ s.mu.arc.p0 with last := some s.mu.arc.p0.result, count := 0, overflow := 0 },
                      { s.mu.arc.p1 with last := some s.mu.arc.p1.result, count := 0, overflow := 0 }⟩ } }
            ⟨s.mu.arc.p0.result, s.mu.arc.p1.result⟩)).advance t))

/-- SCRAPER_RETRY_TIMER_EXPIRY: the timer stops; in CLAIMING the run goes to CLOSING, with CLOSED requested (after
SCRAPER_STATE by the model's choice, notes/assumptions/85.md), when a condition of R158 is false; otherwise nothing else
happens but the tests of the step (R159). HEAT_RETRY_TIMER_EXPIRY: the timer stops, and the conditions of R165 are tested in
the step. RELEASE_TIMER_EXPIRY: the timer stops and HEAT-GIVE carrying 0 is queued (R166). None changes anything of the base
but time, and the moment each is due is the model's (notes/assumptions/3.md). -/
def Obligations.IceUnitTimersEndTheirWait : Prop :=
  ∀ (t due : Moment) (s : State),
    let now := max s.now (max t due)
    (s.iu.scraper.retry = some due →
      (∃ u, exec (.scraperRetryTimerExpiry t) s = .next u ∧ u.base = { s.base with now := now }) ∧
      (s.iu.scraper.phase ≠ .claiming → exec (.scraperRetryTimerExpiry t) s =
        .next (State.settle { s with now := now, iu := { s.iu with scraper := { s.iu.scraper with retry := none } } })) ∧
      (∀ p, s.iu.scraper.phase = .claiming → s.iu.scraper.pan = some p →
        let w : State := { s with now := now, iu := { s.iu with scraper := { s.iu.scraper with retry := none } } }
        (w.scraperMay p = true → exec (.scraperRetryTimerExpiry t) s = .next w.settle) ∧
        (w.scraperMay p = false → exec (.scraperRetryTimerExpiry t) s =
          .next ((w.scraperTo .closing).requestIso p .closed true).settle))) ∧
    (s.iu.heatRetry = some due → exec (.heatRetryTimerExpiry t) s =
      .next (State.settle { s with now := now, iu := { s.iu with heatRetry := none, asked := none } })) ∧
    (s.iu.release = some due → exec (.releaseTimerExpiry t) s =
      .next (State.settle (State.giveHeat { s with now := now, iu := { s.iu with release := none } } 0)))

/-- HEATER_PERIOD: the shadow duty is copied, the timer restarts for 1 s, and the enable is set with the heater in service,
the thermal input inactive and the supply sound (R167; when the input is sampled, notes/assumptions/17.md; the moment the
period is due, 3.md). HEATER_DUTY_END:
time passes to the end of the duty, from when the output is off. Neither changes anything else. When the grant ceases to be
usable both outputs are off at once, and stay off until a period start has copied a shadow duty (R164, R167). The effective
budget is 0 while a round is open or without an UP collector, half the heat budget with one, and the heat budget with more; the
active grants are the longest prefix of the list whose units sum to no more than it; and the own grant is usable when it is one of
them with no own HEAT-TAKE in contest (R164). -/
def Obligations.HeaterPeriodCopiesTheDuty : Prop :=
  (∀ (t : Moment) (p : Pan) (thermal : Bool) (s : State), s.fitted p = true →
    let h := s.iu.heaters.get p
    let duty : Nat :=
      if h.inService = false ∨ s.demands = false ∨ s.grantUsable = false then 0
      else if s.iu.hostHeat then 16
      else match s.ru.regime.ice with
        | .scrape => s.scrapeDuty
        | .watch => s.watchDuty
        | .clear => 0
    (∀ due, h.periodTimer = some due →
      exec (.heaterPeriod t p thermal) s = .next { s with
        now := max s.now (max t due)
        iu := { s.iu with heaters := s.iu.heaters.set p { h with
          cut := false, active := duty, shadow := duty, periodStart := due, periodTimer := some (due + 1000000)
          enable := h.enable || (h.inService && !thermal && !s.sc.supplyLow) } } }) ∧
    (∃ u, exec (.heaterDutyEnd t p) s = .next u ∧ u = { s with now := u.now } ∧
      u.now = max s.now (max t (h.periodStart + h.active * 62500)) ∧ u.heatOutput p = false)) ∧
  (∀ s : State, s.iu.usable = true → s.grantUsable = false →
    ∀ p, (s.followUsable.iu.heaters.get p).cut = true ∧ s.followUsable.heatOutput p = false) ∧
  (∀ s : State, ∀ p, (s.iu.heaters.get p).cut = true → s.followUsable.heatOutput p = false) ∧
  (∀ s : State,
    let up := s.ru.roster.countP fun e => e.state = .up && e.role = some .collector
    let units (gs : List Grant) : Nat := (gs.map fun g => g.units).sum
    let active := s.iu.grants.take s.activeGrants.length
    (s.effectiveBudget = if s.cu.isOpen = true ∨ up = 0 then 0 else if up = 1 then s.heatBudget / 2 else s.heatBudget) ∧
    (s.activeGrants = active ∧ units active ≤ s.effectiveBudget ∧
      ∀ k, k ≤ s.iu.grants.length → units (s.iu.grants.take k) ≤ s.effectiveBudget → k ≤ active.length) ∧
    (s.grantUsable = true ↔ (∃ g ∈ active, g.station = s.own) ∧
      ∀ c ∈ s.ru.contests, c.target.kind = .heatTake → c.target.station ≠ s.own))

/-- THERMAL_TRIP of an enabled heater: the enable is cleared; with fewer than two trips in the last 60 s the trip time is
kept and nothing else happens; the third within 60 s takes the heater out of service with HEATER_TRIP (R168). With the enable
clear the change is no trip. -/
def Obligations.ThirdTripTakesTheHeaterOut : Prop :=
  ∀ (t : Moment) (p : Pan) (s : State), s.fitted p = true →
    let now := max s.now t
    let h := s.iu.heaters.get p
    let recent := h.trips.filter fun x => now ≤ x + 60000000
    (h.enable = true → recent.length < 2 →
      exec (.thermalTrip t p) s = .next (State.settle { s with
        now := now, iu := { s.iu with heaters := s.iu.heaters.set p { h with enable := false, trips := recent ++ [now] } } })) ∧
    (h.enable = true → 2 ≤ recent.length →
      ∃ u, exec (.thermalTrip t p) s = .next u ∧ u.faultSet .heaterTrip = true ∧ u.base = { s.base with now := now } ∧
        (u.iu.heaters.get p).inService = false ∧ (u.iu.heaters.get p).enable = false ∧ (u.iu.heaters.get p).trips = []) ∧
    (h.enable = false → exec (.thermalTrip t p) s = .next { s with now := now })

/-! ## The command port -/

/-- A host request that fails the test of its check byte or of its arguments has no effect and answers BAD_CHECK or BAD_ARG
without data, for every command code (R170, R171). UNKNOWN_COMMAND answers BAD_ARG (or BAD_CHECK), TRANSACTION_ABANDONED
leaves no response; neither has any other effect (R171, R172). -/
def Obligations.TurnedAwayRequestsHaveNoEffect : Prop :=
  (∀ (t : Moment) (r : Request) (housed : Pair Bool) (s : State),
      let out (code : Byte) (x : ResultCode) : Host.Outcome State Fault Refusal :=
        .next { s with now := max s.now t, lcp := { s.lcp with transaction := some ⟨code, x, .empty⟩ } }
      let pan : Bool := (s.panArg r.args).isSome
      let none' : Bool := r.args.isEmpty
      let commands : List (Byte × Instr × Bool) :=
        [(0x01, .writeConfig t r housed, (s.configWriteArg r.args).isSome), (0x02, .readConfig t r, (configReadArg r.args).isSome),
         (0x03, .join t r, none'), (0x04, .leave t r, none'), (0x10, .raise t r, pan), (0x11, .lower t r, pan),
         (0x12, .block t r, pan), (0x13, .unblock t r, pan), (0x20, .setRegime t r, (regimeArg r.args).isSome)] ++
        [(0x21, .announceSection t r, (sectionArg r.args).isSome), (0x22, .proposeChangeover t r, (supplyArg r.args).isSome),
         (0x23, .abortChangeover t r, none'), (0x24, .forget t r, (stationArg r.args).isSome),
         (0x28, .setIce t r, (iceArg r.args).isSome), (0x29, .heat t r, (onOffArg r.args).isSome),
         (0x2A, .unblockHeater t r, pan), (0x30, .readStatus t r, (numberArg 3 r.args).isSome), (0x31, .readEvent t r, none')] ++
        [(0x32, .readPeer t r, (stationArg r.args).isSome), (0x33, .readPanEntry t r, (entryArg r.args).isSome),
         (0x34, .readDrive t r, pan), (0x35, .readRound t r, none'), (0x36, .readSection t r, (numberArg 7 r.args).isSome),
         (0x37, .readGrants t r, none'), (0x38, .readChannel t r, (numberArg 8 r.args).isSome), (0x39, .readLine t r, none'),
         (0x40, .clearFaults t r, (maskArg r.args).isSome)]
      ∀ x ∈ commands,
        (r.check ≠ requestCheck x.1 r.args → exec x.2.1 s = out x.1 .badCheck) ∧
        (r.check = requestCheck x.1 r.args → x.2.2 = false → exec x.2.1 s = out x.1 .badArg)) ∧
  (∀ (t : Moment) (code : Byte) (r : Request) (received : List Byte) (s : State),
      (exec (.unknownCommand t code r) s = .next { s with
        now := max s.now t
        lcp := { s.lcp with
          transaction := some ⟨code, if r.check = requestCheck code r.args then .badArg else .badCheck, .empty⟩ } }) ∧
      (exec (.transactionAbandoned t received) s =
        .next { s with now := max s.now t, lcp := { s.lcp with transaction := none } }))

/-- RAISE and LOWER (R56, R72): RAISE of a drive in DOWN, RAISING or UP with its enable sets the raise request; it is BUSY in
LOWERING and REFUSED in DROPPED or BLOCKED or without the enable, with no effect; LOWER orders the drive down with cause
HOST, which clears the raise request. Nothing of the base changes but time and the response. A LOWERING drive without the enable
is BUSY by the model's choice (notes/assumptions/63.md). The collector claim is queued exactly when every condition of R57 holds:
the drive then has the role and the stage QUEUED, and the CLAIM stands at the tail of a queue with room. -/
def Obligations.RaiseAndLowerMoveTheRequest : Prop :=
  (∀ (t : Moment) (r : Request) (s : State) (p : Pan), s.panArg r.args = some p →
    let d := s.drive p
    let answer (code : Byte) (x : ResultCode) : State :=
      { s with now := max s.now t, lcp := { s.lcp with transaction := some ⟨code, x, .empty⟩ } }
    (r.check = requestCheck 0x10 r.args →
      (d.state = .down ∨ d.state = .raising ∨ d.state = .up → d.enable = true →
        exec (.raise t r) s = .next (State.settle { answer 0x10 .ok with pd := s.pd.set p { d with raiseRequest := true } })) ∧
      (d.state = .down ∨ d.state = .raising ∨ d.state = .up → d.enable = false → exec (.raise t r) s = .next (answer 0x10 .refused)) ∧
      (d.state = .lowering → exec (.raise t r) s = .next (answer 0x10 .busy)) ∧
      (d.state = .dropped ∨ d.state = .blocked → exec (.raise t r) s = .next (answer 0x10 .refused))) ∧
    (r.check = requestCheck 0x11 r.args →
      ∃ v : State, exec (.lower t r) s = .next v.settle ∧ v.base = (answer 0x11 .ok).base ∧ (v.drive p).raiseRequest = false ∧
        (d.state = .down ∨ d.state = .dropped ∨ d.state = .blocked → (v.drive p).state = d.state) ∧
        (d.state = .raising ∨ d.state = .up → d.housed = false → (v.drive p).state = .lowering ∧ (v.drive p).target = .vent ∧
          (v.drive p).lowerTimer = some (max s.now t + s.lowerLimit)))) ∧
  (∀ (s : State) (p : Pan),
    let d := s.drive p
    let u := s.claimCollector p
    let may : Prop := s.fitted p = true ∧ d.raiseRequest = true ∧ d.state = .down ∧ d.enable = true ∧ d.claimStage = .idle ∧
      (∃ e, s.ownEntry p = some e ∧ e.state = .down) ∧ s.rlp.port = .online ∧ s.cu.isOpen = false ∧ s.ru.regime.system ≠ none ∧
      s.sq.raiseHold.get p = false ∧ (s.sg.iso.get p).confirmed = some .closed
    (¬ may → u = s) ∧
    (may → s.ventedHeld = false → s.rlp.queue.length < 16 →
      u.rlp.queue = s.rlp.queue ++ [⟨.claim (panCode p) 1, false, false, false⟩] ∧
      (u.drive p).claimStage = .queued ∧ (u.drive p).role = some .collector ∧ (u.drive p).state = .down ∧ u.base = s.base))

/-- BLOCK and UNBLOCK (R73, R74): BLOCK clears the raise request, makes a DOWN drive BLOCKED with cause HOST at once and a
LOWERING one wait for its housing; UNBLOCK of a DOWN or BLOCKED drive, with drop line and supply sound and no housed count
above 200, sets the enable and returns a BLOCKED drive to DOWN; otherwise it is REFUSED with no effect. -/
def Obligations.BlockAndUnblockChangeTheService : Prop :=
  ∀ (t : Moment) (r : Request) (s : State) (p : Pan), s.panArg r.args = some p →
    let d := s.drive p
    let answer (code : Byte) (x : ResultCode) : State :=
      { s with now := max s.now t, lcp := { s.lcp with transaction := some ⟨code, x, .empty⟩ } }
    (r.check = requestCheck 0x12 r.args →
      ∃ v : State, exec (.block t r) s = .next v.settle ∧ v.base = (answer 0x12 .ok).base ∧ (v.drive p).raiseRequest = false ∧
        (d.state = .down → (v.drive p).state = .blocked ∧ (v.drive p).blockCause = some .host) ∧
        (d.state = .lowering → d.pendingBlock = none → (v.drive p).state = .lowering ∧ (v.drive p).pendingBlock = some .host)) ∧
    (r.check = requestCheck 0x13 r.args →
      let sound : Bool := !s.dropLine.get p && !s.sc.supplyLow && !(d.housed && decide (200 < (s.mu.pos.get p).count)) &&
        (d.state = .down || d.state = .blocked)
      (sound = true → ∃ v : State, exec (.unblock t r) s = .next v.settle ∧
        v.base = { (answer 0x13 .ok).base with enables := (⟨s.pd.p0.enable, s.pd.p1.enable⟩ : Pair Bool).set p true } ∧
        (v.drive p).state = .down) ∧
      (sound = false → exec (.unblock t r) s = .next (answer 0x13 .refused)))

/-- An internal notice, queued by a unit's own rules (R12, R14): it stands at the tail of a queue with room; at 16 notices
the most recently queued host notice not in an attempt makes room, with TX_DISCARDED of its kind; without one it is dropped
with TX_LOST of its own kind, PRESENT is filled at once (R16; one that is being sent does not clear it, the model's reading,
notes/assumptions/37.md), and the drive's, the CU's or the IU's record of lost notices holds it (R76, R147, R166; in place of
one recorded before, by the model's choice, notes/assumptions/76.md). Outside JOINING and ONLINE, or with the vented LEAVE
queued, nothing happens. The four commands that queue a notice of origin host (R13, R111, R127, R143, R173): outside ONLINE
they answer NOT_JOINED, against their own conditions REFUSED, and with 8 host notices or 16 notices queued (or the vented
LEAVE, by inference, notes/assumptions/39.md) QUEUE_FULL, all with no effect; otherwise their notice stands at the tail of the
queue, and ANNOUNCE-SECTION returns its local id and advances the next one. -/
def Obligations.HostNoticesEnterTheQueue : Prop :=
  (∀ (s : State) (x : Notice) (lost : State → State),
    let sends (u : State) : Prop := s.send x = u ∧ s.sendOr x lost = u
    let place (q : List QueuedNotice) (u : State) : State := { u with rlp := { s.rlp with queue := q ++ [⟨x, false, false, false⟩] } }
    let admits : Prop := (s.rlp.port = .joining ∨ s.rlp.port = .online) ∧ s.ventedHeld = false
    (¬ admits → sends s) ∧
    (admits → s.rlp.queue.length < 16 → sends (place s.rlp.queue s)) ∧
    (admits → 16 ≤ s.rlp.queue.length → ∀ before old after, s.rlp.queue = before ++ old :: after →
      old.host = true → old.inAttempt = false → (∀ q ∈ after, q.host = true → q.inAttempt = true) →
      sends (place (before ++ after) (s.raiseEvent (.txDiscarded old.notice.kind)))) ∧
    (admits → 16 ≤ s.rlp.queue.length → (∀ q ∈ s.rlp.queue, q.host = true → q.inAttempt = true) →
      let u : State := { s.raiseEvent (.txLost x.kind) with rlp := { s.rlp with
        slot := some (if s.rlp.slot = some .join then .join else .present)
        attempt := s.rlp.attempt.map fun a => if a.notice.kind = .present then { a with fromSlot := false } else a } }
      s.send x = u ∧ s.sendOr x lost = lost u ∧
      (∀ p o, s.sendDrive p x o = u.mapPd p fun d => { d with outstanding := some o }) ∧
      s.sendClose x = { u with cu := { u.cu with lost := some x } } ∧
      (∀ k, x = .heatGive (BitVec.ofNat 8 k) → s.giveHeat k = { u with iu := { u.iu with giveLost := some k } }))) ∧
  ∀ (t : Moment) (r : Request) (s : State),
    let answer (code : Byte) (x : ResultCode) (d : ResponseData) : State :=
      { s with now := max s.now t, lcp := { s.lcp with transaction := some ⟨code, x, d⟩ } }
    let queued (v : State) (n : Notice) : State :=
      { v with rlp := { s.rlp with queue := s.rlp.queue ++ [⟨n, true, false, false⟩] } }
    let full : Bool := decide (8 ≤ s.hostNotices) || decide (16 ≤ s.rlp.queue.length) || s.ventedHeld
    let rule (c : Instr) (code : Byte) (may : Bool) (n : Notice) (d : ResponseData) (v : State) : Prop :=
      (s.rlp.port ≠ .online → exec c s = .next (answer code .notJoined .empty)) ∧
      (s.rlp.port = .online → may = false → exec c s = .next (answer code .refused .empty)) ∧
      (s.rlp.port = .online → may = true → full = true → exec c s = .next (answer code .queueFull .empty)) ∧
      (s.rlp.port = .online → may = true → full = false →
        exec c s = .next (queued { v with lcp := (answer code .ok d).lcp } n).settle)
    let v := answer 0 .ok .empty
    (∀ b d, r.check = requestCheck 0x20 r.args → regimeArg r.args = some (b, d) →
      rule (.setRegime t r) 0x20 true (.regime (BitVec.ofNat 8 b.val) (BitVec.ofNat 8 (directionBit d))) .empty v) ∧
    (∀ k dist len, r.check = requestCheck 0x21 r.args → sectionArg r.args = some (k, dist, len) →
      rule (.announceSection t r) 0x21 true
        (.sectionAhead (BitVec.ofNat 8 s.own) s.sq.nextId (sectionCodes k).1 (sectionCodes k).2 dist len)
        (.localId s.sq.nextId) { v with sq := { s.sq with nextId := s.sq.nextId + 1 } }) ∧
    (∀ target, r.check = requestCheck 0x22 r.args → supplyArg r.args = some target →
      rule (.proposeChangeover t r) 0x22 (!s.cu.isOpen && s.ru.regime.system != some target)
        (.coPropose (s.cu.number + 1) (supplyCode target) 0 0 0 0) .empty v) ∧
    (r.check = requestCheck 0x23 r.args → r.args = [] →
      rule (.abortChangeover t r) 0x23 (s.cu.isOpen && s.cu.phase != .adopted && !s.cu.catchUp)
        (.coAbort s.cu.number (systemCode s.cu.target) 2) .empty v)

/-- FORGET of a SILENT or FOREIGN peer: its record, entries, table entry, grant and expected sequence are removed and no
other station's; in any other status, or of the own number, it is REFUSED with no effect (R11, R30, R154, R163). -/
def Obligations.ForgetRemovesThePeer : Prop :=
  ∀ (t : Moment) (r : Request) (s : State) (n : Nat), r.check = requestCheck 0x24 r.args → stationArg r.args = some n →
    let may : Bool := n != s.own && ((s.peer n).status = .silent || (s.peer n).status = .foreign)
    let done (x : ResultCode) : Option Transaction := some ⟨0x24, x, .empty⟩
    (may = true → ∃ u, exec (.forget t r) s = .next u ∧
      u.base = { s.base with
        now := max s.now t, transaction := done .ok
        peers := tableSet s.ru.peers n Peer.reset
        roster := s.ru.roster.filter fun e => e.station != n
        contests := s.ru.contests.filter fun c => c.target.station != n
        table := tableSet s.iu.table n none
        grants := putGrant n 0 s.iu.grants
        expected := tableSet s.rlp.expected n none }) ∧
    (may = false → exec (.forget t r) s =
      .next { s with now := max s.now t, lcp := { s.lcp with transaction := done .refused } })

/-- SET-ICE: a level is forced, AUTO keeps the observation; OK in every port state, and nothing else of the base changes
(R153). HEAT sets the host heat flag; UNBLOCK-HEATER returns a heater to service with no trip times, leaves one in service
alone, and is REFUSED at supply-low (R169). -/
def Obligations.IceAndHeatCommandsSetTheirFlags : Prop :=
  (∀ (t : Moment) (r : Request) (s : State), r.check = requestCheck 0x28 r.args →
      let done : Option Transaction := some ⟨0x28, .ok, .empty⟩
      (∀ level, iceArg r.args = some (some level) → ∃ u, exec (.setIce t r) s = .next u ∧
        u.base = { s.base with now := max s.now t, forced := true, observation := level, transaction := done }) ∧
      (iceArg r.args = some none → ∃ u, exec (.setIce t r) s = .next u ∧
        u.base = { s.base with now := max s.now t, forced := false, transaction := done }) ∧
      (∀ b : Byte, iceArg [b] = if b = 0 then some (some .clear) else if b = 1 then some (some .watch)
        else if b = 2 then some (some .scrape) else if b = 3 then some none else none)) ∧
  (∀ (t : Moment) (r : Request) (s : State),
      let answer (code : Byte) (x : ResultCode) : State :=
        { s with now := max s.now t, lcp := { s.lcp with transaction := some ⟨code, x, .empty⟩ } }
      (∀ b, r.check = requestCheck 0x29 r.args → onOffArg r.args = some b →
        exec (.heat t r) s = .next (State.settle { answer 0x29 .ok with iu := { s.iu with hostHeat := b } })) ∧
      (∀ p, r.check = requestCheck 0x2A r.args → s.panArg r.args = some p →
        let h := s.iu.heaters.get p
        (s.sc.supplyLow = true → exec (.unblockHeater t r) s = .next (answer 0x2A .refused)) ∧
        (s.sc.supplyLow = false → h.inService = true → exec (.unblockHeater t r) s = .next (State.settle (answer 0x2A .ok))) ∧
        (s.sc.supplyLow = false → h.inService = false → exec (.unblockHeater t r) s =
          .next (State.settle (State.raiseEvent { answer 0x2A .ok with
            iu := { s.iu with heaters := s.iu.heaters.set p { h with inService := true, trips := [] } } } (.heaterState p))))))

/-- CLEAR-FAULTS: the bits of the mask are cleared, every other bit stays, and the response carries the summary after the
clearing; with SELECTOR_TIMEOUT, ISOLATOR_TIMEOUT and VOLTAGE_MISMATCH all clear then, FAULT leaves the breaker reasons, and
with ISOLATOR_TIMEOUT clear no pantograph is barred; the base changes in nothing but time and the response (R104, R161,
R179). READ_EVENT_RESPONSE_COMPLETE: after a READ-EVENT that carried a record the head record leaves the queue, and the
overflow flag is cleared when the queue becomes empty; after any other response nothing leaves it. The response is over
(R177). -/
def Obligations.FaultsAreClearedAndEventsRemoved : Prop :=
  (∀ (t : Moment) (r : Request) (s : State) (mask : Word16), r.check = requestCheck 0x40 r.args → maskArg r.args = some mask →
      let left : BitVec 11 := s.lcp.faults &&& ~~~(mask.setWidth 11)
      ∃ v : State, exec (.clearFaults t r) s = .next v.settle ∧ v.lcp.faults = left ∧
        (left.getLsbD (faultBit .selectorTimeout) = false → left.getLsbD (faultBit .isolatorTimeout) = false →
          left.getLsbD (faultBit .voltageMismatch) = false → v.sg.reasons.fault = false) ∧
        (left.getLsbD (faultBit .selectorTimeout) = true ∨ left.getLsbD (faultBit .isolatorTimeout) = true ∨
          left.getLsbD (faultBit .voltageMismatch) = true → v.sg.reasons = s.sg.reasons) ∧
        (left.getLsbD (faultBit .isolatorTimeout) = false → v.iu.scraper.barred = ⟨false, false⟩) ∧
        (left.getLsbD (faultBit .isolatorTimeout) = true → v.iu.scraper.barred = s.iu.scraper.barred) ∧
        v.base = { s.base with
          now := max s.now t, transaction := some ⟨0x40, .ok, .faults (left.setWidth 16)⟩ }) ∧
  (∀ (t : Moment) (s : State),
      (∀ head n o, s.lcp.transaction = some ⟨0x31, .ok, .event (some head) n o⟩ →
        exec (.readEventResponseComplete t) s = .next { s with
          now := max s.now t
          lcp := { s.lcp with events := s.lcp.events.drop 1, transaction := none
                              overflow := s.lcp.overflow && decide (2 ≤ s.lcp.events.length) } }) ∧
      ((∀ code x head n o, s.lcp.transaction ≠ some ⟨code, x, .event (some head) n o⟩) →
        exec (.readEventResponseComplete t) s = .next { s with
          now := max s.now t, lcp := { s.lcp with transaction := none } }))

/-- WRITE-CONFIG to an unlocked block (R181, R182): the bytes written read back, every other byte of the block reads as
before, the fingerprint is computed again when a train-wide byte is written, and the response carries it; a locked block
answers LOCKED with no effect. The premise is the invariant of the block's form. Each band of Cmax, Smin and the COLLECTOR
setpoints is a one-byte item at which a write may begin or end (the model's reading, notes/assumptions/48.md). -/
def Obligations.WriteConfigWritesItsBytesAlone : Prop :=
  ∀ (t : Moment) (r : Request) (housed : Pair Bool) (s : State) (offset : Nat) (data : List Byte),
    r.check = requestCheck 0x01 r.args → s.configWriteArg r.args = some (offset, data) →
    (s.sc.locked = true → exec (.writeConfig t r housed) s = .next { s with
      now := max s.now t, lcp := { s.lcp with transaction := some ⟨0x01, .locked, .empty⟩ } }) ∧
    (s.sc.locked = false → s.configCanonical → ∃ u, exec (.writeConfig t r housed) s = .next u ∧ u.now = max s.now t ∧
      (∀ a, u.sc.config.read a = if offset ≤ a ∧ a < offset + data.length then data.getD (a - offset) 0 else s.sc.config.read a) ∧
      u.sc.fingerprint = (if offset < 28 then fingerprintOf u.sc.config else s.sc.fingerprint) ∧
      u.lcp.transaction = some ⟨0x01, .ok, .fingerprint u.sc.fingerprint⟩ ∧
      ((∀ p, s.fitted p = ({ s with sc := { s.sc with config := s.sc.config.writeAll offset data } } : State).fitted p) →
        u.base = { s.base with
          now := max s.now t, config := u.sc.config, fingerprint := u.sc.fingerprint, transaction := u.lcp.transaction }))

/-- JOIN: with a station number, in OFFLINE, the supply sound, every fitted drive DOWN or BLOCKED and every fitted position
within the train, it locks the block, removes HOST, clears the settled flag and enters JOINING with JOIN in the slot;
otherwise it is REFUSED with no effect (R17, R104, R183). LEAVE in JOINING or ONLINE, the supply sound and none pending:
leave-pending is set, HOST is added, every fitted drive's raise request is cleared and the drive ordered down with cause
LEAVE (R60, R68; P0 before P1 by the model's choice, notes/assumptions/81.md), and HEAT-GIVE 0 is queued when a grant is held
(R166); otherwise it is REFUSED with no effect (R104, R184). -/
def Obligations.JoinAndLeaveMoveThePort : Prop :=
  (∀ (t : Moment) (r : Request) (s : State), r.check = requestCheck 0x03 r.args → r.args = [] →
      let ready : Prop := 1 ≤ s.sc.strap.toNat ∧ s.sc.strap.toNat ≤ 24 ∧ s.rlp.port = .offline ∧ s.sc.supplyLow = false ∧
        ∀ p, s.fitted p = true → ((s.drive p).state = .down ∨ (s.drive p).state = .blocked) ∧ s.panPosition p ≤ s.trainLength
      (ready → ∃ v : State, exec (.join t r) s = .next v.settle ∧ v.rlp.slot = some .join ∧ v.sg.reasons.host = false ∧
        v.base = { s.base with
          now := max s.now t, locked := true, settled := false, port := .joining, transaction := some ⟨0x03, .ok, .empty⟩ }) ∧
      (¬ ready → exec (.join t r) s = .next { s with
        now := max s.now t, lcp := { s.lcp with transaction := some ⟨0x03, .refused, .empty⟩ } })) ∧
  (∀ (t : Moment) (r : Request) (s : State), r.check = requestCheck 0x04 r.args → r.args = [] →
      let may : Prop := (s.rlp.port = .joining ∨ s.rlp.port = .online) ∧ s.sc.supplyLow = false ∧ s.sc.leaving = none
      (may → ∃ v : State, exec (.leave t r) s = .next v.settle ∧ v.sc.leaving ≠ none ∧ v.sg.reasons.host = true ∧
        (∀ p, s.fitted p = true → (v.drive p).raiseRequest = false) ∧
        v.base = { s.base with now := max s.now t, transaction := some ⟨0x04, .ok, .empty⟩ }) ∧
      (may →
        let b := State.orderAllDown (State.addReason
          { s with now := max s.now t, sc := { s.sc with leaving := some .waiting } } .host) .leave
        let v : State := if 1 ≤ s.ownGrant then b.giveHeat 0 else b
        exec (.leave t r) s = .next (State.settle { v with lcp := { v.lcp with transaction := some ⟨0x04, .ok, .empty⟩ } }) ∧
        (1 ≤ s.ownGrant → b.ventedHeld = false → b.rlp.queue.length < 16 →
          v.rlp.queue = b.rlp.queue ++ [⟨.heatGive 0, false, false, false⟩]) ∧
        ∀ p, s.fitted p = true →
          let d := s.drive p
          (d.state = .raising ∨ d.state = .up → (v.drive p).state ≠ .raising ∧ (v.drive p).state ≠ .up ∧
            (v.drive p).target = .vent ∧ (v.drive p).valve ≠ .fill ∧
            (d.housed = false → (v.drive p).state = .lowering ∧ (v.drive p).lowerTimer = some (max s.now t + s.lowerLimit))) ∧
          (d.state ≠ .raising → d.state ≠ .up → (v.drive p).state = d.state) ∧
          (d.state = .down → d.claimStage = .standing → (v.drive p).claimStage = .cancelled) ∧
          (d.state = .down → d.claimStage = .queued → (v.drive p).claimStage = .idle ∨ (v.drive p).cancelPending = true)) ∧
      (¬ may → exec (.leave t r) s = .next { s with
        now := max s.now t, lcp := { s.lcp with transaction := some ⟨0x04, .refused, .empty⟩ } }))

/-- The reads of configuration, status, peers, entries and events change nothing but the response (R174, R175, R177, R181).
The reads of drives, rounds, sections, grants, channels and the line change nothing but the response (R175). The port shifts
out the filler while a request arrives, then result, length, data and check of the response, and the filler after it (R170,
sections 11.5 and 11.6); of the reads whose data have no layout, all but READ-EVENT, the data bytes are free (the model's
choice, notes/assumptions/28.md). -/
def Obligations.ReadsChangeNothingButTheResponse : Prop :=
  (∀ (t : Moment) (r : Request) (s : State),
      let w : State := { s with now := max s.now t }
      let answer (code : Byte) (d : ResponseData) : Host.Outcome State Fault Refusal :=
        .next { w with lcp := { s.lcp with transaction := some ⟨code, .ok, d⟩ } }
      (∀ o n, r.check = requestCheck 0x02 r.args → configReadArg r.args = some (o, n) → exec (.readConfig t r) s =
        answer 0x02 (.config (s.sc.config.readAll o n) s.sc.locked s.sc.fingerprint)) ∧
      (∀ part, r.check = requestCheck 0x30 r.args → numberArg 3 r.args = some part →
        exec (.readStatus t r) s = answer 0x30 (w.statusData part)) ∧
      (r.check = requestCheck 0x31 r.args → r.args = [] → exec (.readEvent t r) s =
        answer 0x31 (.event s.lcp.events.head? s.lcp.events.length s.lcp.overflow)) ∧
      (∀ n, r.check = requestCheck 0x32 r.args → stationArg r.args = some n → exec (.readPeer t r) s =
        answer 0x32 (.peer (w.peerView n) ((tableGet s.rlp.expected n).getD none))) ∧
      (∀ n p, r.check = requestCheck 0x33 r.args → entryArg r.args = some (n, p) →
        exec (.readPanEntry t r) s = answer 0x33 (.panEntry (s.entry n p)))) ∧
  (∀ (t : Moment) (r : Request) (s : State),
      let w : State := { s with now := max s.now t }
      let answer (code : Byte) (d : ResponseData) : Host.Outcome State Fault Refusal :=
        .next { w with lcp := { s.lcp with transaction := some ⟨code, .ok, d⟩ } }
      (∀ p, r.check = requestCheck 0x34 r.args → s.panArg r.args = some p → exec (.readDrive t r) s =
        answer 0x34 (.drive (w.driveView p) (w.isoView p) (w.heaterView p) (w.now - (s.iu.heaters.get p).periodStart))) ∧
      (r.check = requestCheck 0x35 r.args → r.args = [] → exec (.readRound t r) s =
        answer 0x35 (.round w.roundView (w.probeCandidate.map fun e => (e.station, e.pan)))) ∧
      (∀ n, r.check = requestCheck 0x36 r.args → numberArg 7 r.args = some n → exec (.readSection t r) s =
        answer 0x36 (.sections ⟨s.sq.entries.length, s.sq.nextId, s.sq.raiseHold, s.sg.reasons.neutral, s.sq.entries[n]?⟩)) ∧
      (r.check = requestCheck 0x37 r.args → r.args = [] → exec (.readGrants t r) s =
        answer 0x37 (.grants ⟨s.iu.grants, s.heatBudget, s.effectiveBudget, s.activeGrants.length, s.need, s.demands,
          s.iu.takePending, w.remaining s.iu.release, w.remaining s.iu.heatRetry⟩)) ∧
      (∀ n, r.check = requestCheck 0x38 r.args → numberArg 8 r.args = some n →
        exec (.readChannel t r) s = answer 0x38 (.channel (w.channelView n))) ∧
      (r.check = requestCheck 0x39 r.args → r.args = [] → exec (.readLine t r) s =
        answer 0x39 (.port ⟨s.rlp.port, s.rlp.queue.length, s.hostNotices, s.rlp.slot, s.rlp.collisions, s.rlp.recentSender,
          s.rlp.nextSeq, w.remaining s.rlp.presenceTimer, w.remaining s.rlp.settleTimer⟩))) ∧
  (∀ (s : State) (x : Transaction), s.lcp.transaction = some x →
      let d := x.data.bytes
      let result : Byte := match x.result with
        | .ok => 0x00
        | .busy => 0x01
        | .refused => 0x02
        | .badArg => 0x03
        | .badCheck => 0x04
        | .notJoined => 0x05
        | .queueFull => 0x06
        | .locked => 0x07
      let body : List Byte := [result, BitVec.ofNat 8 d.length] ++ d
      let frame := body ++ [body.foldl (fun a b => a ^^^ b) 0x5A]
      s.responseOutput = some frame ∧ d.length ≤ 255 ∧
      (∀ i b, frame[i]? = some b → s.dataOutput (some i) = b) ∧ (∀ i, frame.length ≤ i → s.dataOutput (some i) = 0x00) ∧
      (x.data = .empty → d = []) ∧ (∀ f, x.data = .fingerprint f → d = [f]) ∧ (∀ k, x.data = .localId k → d = [k]) ∧
      (∀ m, x.data = .faults m → d = [m.extractLsb' 8 8, m.extractLsb' 0 8]) ∧
      (∀ head n o, x.data = .event head n o →
        d = [BitVec.ofNat 8 n, if o then 1 else 0] ++ (head.map EventRecord.bytes).getD [])) ∧
  (∀ s : State, s.dataOutput none = 0x00 ∧ (s.lcp.transaction = none → ∀ i, s.dataOutput i = 0x00))

/-! ## The supply -/

/-- SUPPLY_FALL: the flag is set, every fitted drive's enable is cleared with its fill valve closed, every heater enable is
cleared, JOINING becomes OFFLINE and every other port state stays (R18, R53, R168, R185). The drives act by their states, with
the cause SUPPLY (R54); in ONLINE the vented LEAVE then stands alone in the queue, with slot, attempt and a pending LEAVE gone;
and a selector leg and isolator moves in progress are stopped where the feedback stands (R18, R99, R102). SUPPLY_RISE clears the
flag and changes nothing else of the base (R186). An edge to the level the flag already shows is none. -/
def Obligations.SupplyEdgesSetAndClearTheFlag : Prop :=
  ∀ (t : Moment) (s : State),
    (s.sc.supplyLow = false → ∃ u, exec (.supplyFall t) s = .next u ∧ u.now = max s.now t ∧ u.sc.supplyLow = true ∧
      (∀ p, s.fitted p = true → (u.drive p).enable = false ∧ u.fillOutput p = false) ∧
      (∀ p, (u.iu.heaters.get p).enable = false) ∧
      u.rlp.port = (if s.rlp.port = .joining then .offline else s.rlp.port) ∧ u.mu = s.mu ∧ u.sc.config = s.sc.config) ∧
    (s.sc.supplyLow = false → ∃ v : State, exec (.supplyFall t) s = .next v.settle ∧
      (s.rlp.port = .online → v.rlp.queue = [⟨.leave 1, false, false, false⟩] ∧ v.rlp.slot = none ∧ v.rlp.attempt = none ∧
        v.sc.leaving = none ∧ (s.rlp.attempt ≠ none → v.rlp.line = .jam ∧ v.rlp.lastEnd = max s.now t + 64)) ∧
      (∀ p, s.fitted p = true →
        ((s.drive p).state = .down → (v.drive p).state = .blocked ∧ (v.drive p).blockCause = some .supply) ∧
        ((s.drive p).state = .raising ∨ (s.drive p).state = .up ∨ (s.drive p).state = .lowering → (s.drive p).housed = false →
          (v.drive p).state = .dropped ∧ (v.drive p).blockCause = some .supply) ∧
        ((s.drive p).state = .dropped ∨ (s.drive p).state = .blocked → (v.drive p).state = (s.drive p).state)) ∧
      v.sg.selector.busy = false ∧
      (s.sg.selector.busy = true → v.sg.selector.confirmed = selShows s.sg.selector.contacts ∧ v.sg.selector.target = none ∧
        v.sg.selector.leg = none ∧ v.sg.selector.legTimer = none) ∧
      (∀ p, (v.sg.iso.get p).moving = none ∧
        ((s.sg.iso.get p).moving ≠ none → (v.sg.iso.get p).confirmed = isoShows (s.sg.iso.get p).contacts ∧
          (v.sg.iso.get p).requested = none ∧ (v.sg.iso.get p).moveTimer = none))) ∧
    (s.sc.supplyLow = true → exec (.supplyFall t) s = .next { s with now := max s.now t }) ∧
    (s.sc.supplyLow = true → ∃ u, exec (.supplyRise t) s = .next u ∧
      u.base = { s.base with now := max s.now t, supplyLow := false }) ∧
    (s.sc.supplyLow = false → exec (.supplyRise t) s = .next { s with now := max s.now t })
end

