-- ==== Sys2Proof/Laws/State.lean ====
section
/-! SUPPORT. One lemma per unit per update: what each update of one unit of State leaves of the others, and what `advance`
leaves; each is true by rfl. -/

namespace Sys2Proof.Laws

open Sys2Proof.Machine

variable (s : State)

@[simp] theorem mapPins_pending (f : Pins → Pins) : (s.mapPins f).pending = s.pending := rfl
@[simp] theorem mapPins_now (f : Pins → Pins) : (s.mapPins f).now = s.now := rfl
@[simp] theorem mapPins_dropLine (f : Pins → Pins) : (s.mapPins f).dropLine = s.dropLine := rfl
@[simp] theorem mapPins_pins (f : Pins → Pins) : (s.mapPins f).pins = f s.pins := rfl
@[simp] theorem mapPins_rlp (f : Pins → Pins) : (s.mapPins f).rlp = s.rlp := rfl
@[simp] theorem mapPins_ru (f : Pins → Pins) : (s.mapPins f).ru = s.ru := rfl
@[simp] theorem mapPins_pd (f : Pins → Pins) : (s.mapPins f).pd = s.pd := rfl
@[simp] theorem mapPins_mu (f : Pins → Pins) : (s.mapPins f).mu = s.mu := rfl
@[simp] theorem mapPins_sg (f : Pins → Pins) : (s.mapPins f).sg = s.sg := rfl
@[simp] theorem mapPins_sq (f : Pins → Pins) : (s.mapPins f).sq = s.sq := rfl
@[simp] theorem mapPins_cu (f : Pins → Pins) : (s.mapPins f).cu = s.cu := rfl
@[simp] theorem mapPins_iu (f : Pins → Pins) : (s.mapPins f).iu = s.iu := rfl
@[simp] theorem mapPins_lcp (f : Pins → Pins) : (s.mapPins f).lcp = s.lcp := rfl
@[simp] theorem mapPins_sc (f : Pins → Pins) : (s.mapPins f).sc = s.sc := rfl
@[simp] theorem mapRlp_pending (f : Rlp → Rlp) : (s.mapRlp f).pending = s.pending := rfl
@[simp] theorem mapRlp_now (f : Rlp → Rlp) : (s.mapRlp f).now = s.now := rfl
@[simp] theorem mapRlp_dropLine (f : Rlp → Rlp) : (s.mapRlp f).dropLine = s.dropLine := rfl
@[simp] theorem mapRlp_pins (f : Rlp → Rlp) : (s.mapRlp f).pins = s.pins := rfl
@[simp] theorem mapRlp_rlp (f : Rlp → Rlp) : (s.mapRlp f).rlp = f s.rlp := rfl
@[simp] theorem mapRlp_ru (f : Rlp → Rlp) : (s.mapRlp f).ru = s.ru := rfl
@[simp] theorem mapRlp_pd (f : Rlp → Rlp) : (s.mapRlp f).pd = s.pd := rfl
@[simp] theorem mapRlp_mu (f : Rlp → Rlp) : (s.mapRlp f).mu = s.mu := rfl
@[simp] theorem mapRlp_sg (f : Rlp → Rlp) : (s.mapRlp f).sg = s.sg := rfl
@[simp] theorem mapRlp_sq (f : Rlp → Rlp) : (s.mapRlp f).sq = s.sq := rfl
@[simp] theorem mapRlp_cu (f : Rlp → Rlp) : (s.mapRlp f).cu = s.cu := rfl
@[simp] theorem mapRlp_iu (f : Rlp → Rlp) : (s.mapRlp f).iu = s.iu := rfl
@[simp] theorem mapRlp_lcp (f : Rlp → Rlp) : (s.mapRlp f).lcp = s.lcp := rfl
@[simp] theorem mapRlp_sc (f : Rlp → Rlp) : (s.mapRlp f).sc = s.sc := rfl
@[simp] theorem mapRu_pending (f : Ru → Ru) : (s.mapRu f).pending = s.pending := rfl
@[simp] theorem mapRu_now (f : Ru → Ru) : (s.mapRu f).now = s.now := rfl
@[simp] theorem mapRu_dropLine (f : Ru → Ru) : (s.mapRu f).dropLine = s.dropLine := rfl
@[simp] theorem mapRu_pins (f : Ru → Ru) : (s.mapRu f).pins = s.pins := rfl
@[simp] theorem mapRu_rlp (f : Ru → Ru) : (s.mapRu f).rlp = s.rlp := rfl
@[simp] theorem mapRu_ru (f : Ru → Ru) : (s.mapRu f).ru = f s.ru := rfl
@[simp] theorem mapRu_pd (f : Ru → Ru) : (s.mapRu f).pd = s.pd := rfl
@[simp] theorem mapRu_mu (f : Ru → Ru) : (s.mapRu f).mu = s.mu := rfl
@[simp] theorem mapRu_sg (f : Ru → Ru) : (s.mapRu f).sg = s.sg := rfl
@[simp] theorem mapRu_sq (f : Ru → Ru) : (s.mapRu f).sq = s.sq := rfl
@[simp] theorem mapRu_cu (f : Ru → Ru) : (s.mapRu f).cu = s.cu := rfl
@[simp] theorem mapRu_iu (f : Ru → Ru) : (s.mapRu f).iu = s.iu := rfl
@[simp] theorem mapRu_lcp (f : Ru → Ru) : (s.mapRu f).lcp = s.lcp := rfl
@[simp] theorem mapRu_sc (f : Ru → Ru) : (s.mapRu f).sc = s.sc := rfl
@[simp] theorem mapMu_pending (f : Mu → Mu) : (s.mapMu f).pending = s.pending := rfl
@[simp] theorem mapMu_now (f : Mu → Mu) : (s.mapMu f).now = s.now := rfl
@[simp] theorem mapMu_dropLine (f : Mu → Mu) : (s.mapMu f).dropLine = s.dropLine := rfl
@[simp] theorem mapMu_pins (f : Mu → Mu) : (s.mapMu f).pins = s.pins := rfl
@[simp] theorem mapMu_rlp (f : Mu → Mu) : (s.mapMu f).rlp = s.rlp := rfl
@[simp] theorem mapMu_ru (f : Mu → Mu) : (s.mapMu f).ru = s.ru := rfl
@[simp] theorem mapMu_pd (f : Mu → Mu) : (s.mapMu f).pd = s.pd := rfl
@[simp] theorem mapMu_mu (f : Mu → Mu) : (s.mapMu f).mu = f s.mu := rfl
@[simp] theorem mapMu_sg (f : Mu → Mu) : (s.mapMu f).sg = s.sg := rfl
@[simp] theorem mapMu_sq (f : Mu → Mu) : (s.mapMu f).sq = s.sq := rfl
@[simp] theorem mapMu_cu (f : Mu → Mu) : (s.mapMu f).cu = s.cu := rfl
@[simp] theorem mapMu_iu (f : Mu → Mu) : (s.mapMu f).iu = s.iu := rfl
@[simp] theorem mapMu_lcp (f : Mu → Mu) : (s.mapMu f).lcp = s.lcp := rfl
@[simp] theorem mapMu_sc (f : Mu → Mu) : (s.mapMu f).sc = s.sc := rfl
@[simp] theorem mapSg_pending (f : Sg → Sg) : (s.mapSg f).pending = s.pending := rfl
@[simp] theorem mapSg_now (f : Sg → Sg) : (s.mapSg f).now = s.now := rfl
@[simp] theorem mapSg_dropLine (f : Sg → Sg) : (s.mapSg f).dropLine = s.dropLine := rfl
@[simp] theorem mapSg_pins (f : Sg → Sg) : (s.mapSg f).pins = s.pins := rfl
@[simp] theorem mapSg_rlp (f : Sg → Sg) : (s.mapSg f).rlp = s.rlp := rfl
@[simp] theorem mapSg_ru (f : Sg → Sg) : (s.mapSg f).ru = s.ru := rfl
@[simp] theorem mapSg_pd (f : Sg → Sg) : (s.mapSg f).pd = s.pd := rfl
@[simp] theorem mapSg_mu (f : Sg → Sg) : (s.mapSg f).mu = s.mu := rfl
@[simp] theorem mapSg_sg (f : Sg → Sg) : (s.mapSg f).sg = f s.sg := rfl
@[simp] theorem mapSg_sq (f : Sg → Sg) : (s.mapSg f).sq = s.sq := rfl
@[simp] theorem mapSg_cu (f : Sg → Sg) : (s.mapSg f).cu = s.cu := rfl
@[simp] theorem mapSg_iu (f : Sg → Sg) : (s.mapSg f).iu = s.iu := rfl
@[simp] theorem mapSg_lcp (f : Sg → Sg) : (s.mapSg f).lcp = s.lcp := rfl
@[simp] theorem mapSg_sc (f : Sg → Sg) : (s.mapSg f).sc = s.sc := rfl
@[simp] theorem mapSq_pending (f : Sq → Sq) : (s.mapSq f).pending = s.pending := rfl
@[simp] theorem mapSq_now (f : Sq → Sq) : (s.mapSq f).now = s.now := rfl
@[simp] theorem mapSq_dropLine (f : Sq → Sq) : (s.mapSq f).dropLine = s.dropLine := rfl
@[simp] theorem mapSq_pins (f : Sq → Sq) : (s.mapSq f).pins = s.pins := rfl
@[simp] theorem mapSq_rlp (f : Sq → Sq) : (s.mapSq f).rlp = s.rlp := rfl
@[simp] theorem mapSq_ru (f : Sq → Sq) : (s.mapSq f).ru = s.ru := rfl
@[simp] theorem mapSq_pd (f : Sq → Sq) : (s.mapSq f).pd = s.pd := rfl
@[simp] theorem mapSq_mu (f : Sq → Sq) : (s.mapSq f).mu = s.mu := rfl
@[simp] theorem mapSq_sg (f : Sq → Sq) : (s.mapSq f).sg = s.sg := rfl
@[simp] theorem mapSq_sq (f : Sq → Sq) : (s.mapSq f).sq = f s.sq := rfl
@[simp] theorem mapSq_cu (f : Sq → Sq) : (s.mapSq f).cu = s.cu := rfl
@[simp] theorem mapSq_iu (f : Sq → Sq) : (s.mapSq f).iu = s.iu := rfl
@[simp] theorem mapSq_lcp (f : Sq → Sq) : (s.mapSq f).lcp = s.lcp := rfl
@[simp] theorem mapSq_sc (f : Sq → Sq) : (s.mapSq f).sc = s.sc := rfl
@[simp] theorem mapCu_pending (f : Cu → Cu) : (s.mapCu f).pending = s.pending := rfl
@[simp] theorem mapCu_now (f : Cu → Cu) : (s.mapCu f).now = s.now := rfl
@[simp] theorem mapCu_dropLine (f : Cu → Cu) : (s.mapCu f).dropLine = s.dropLine := rfl
@[simp] theorem mapCu_pins (f : Cu → Cu) : (s.mapCu f).pins = s.pins := rfl
@[simp] theorem mapCu_rlp (f : Cu → Cu) : (s.mapCu f).rlp = s.rlp := rfl
@[simp] theorem mapCu_ru (f : Cu → Cu) : (s.mapCu f).ru = s.ru := rfl
@[simp] theorem mapCu_pd (f : Cu → Cu) : (s.mapCu f).pd = s.pd := rfl
@[simp] theorem mapCu_mu (f : Cu → Cu) : (s.mapCu f).mu = s.mu := rfl
@[simp] theorem mapCu_sg (f : Cu → Cu) : (s.mapCu f).sg = s.sg := rfl
@[simp] theorem mapCu_sq (f : Cu → Cu) : (s.mapCu f).sq = s.sq := rfl
@[simp] theorem mapCu_cu (f : Cu → Cu) : (s.mapCu f).cu = f s.cu := rfl
@[simp] theorem mapCu_iu (f : Cu → Cu) : (s.mapCu f).iu = s.iu := rfl
@[simp] theorem mapCu_lcp (f : Cu → Cu) : (s.mapCu f).lcp = s.lcp := rfl
@[simp] theorem mapCu_sc (f : Cu → Cu) : (s.mapCu f).sc = s.sc := rfl
@[simp] theorem mapIu_pending (f : Iu → Iu) : (s.mapIu f).pending = s.pending := rfl
@[simp] theorem mapIu_now (f : Iu → Iu) : (s.mapIu f).now = s.now := rfl
@[simp] theorem mapIu_dropLine (f : Iu → Iu) : (s.mapIu f).dropLine = s.dropLine := rfl
@[simp] theorem mapIu_pins (f : Iu → Iu) : (s.mapIu f).pins = s.pins := rfl
@[simp] theorem mapIu_rlp (f : Iu → Iu) : (s.mapIu f).rlp = s.rlp := rfl
@[simp] theorem mapIu_ru (f : Iu → Iu) : (s.mapIu f).ru = s.ru := rfl
@[simp] theorem mapIu_pd (f : Iu → Iu) : (s.mapIu f).pd = s.pd := rfl
@[simp] theorem mapIu_mu (f : Iu → Iu) : (s.mapIu f).mu = s.mu := rfl
@[simp] theorem mapIu_sg (f : Iu → Iu) : (s.mapIu f).sg = s.sg := rfl
@[simp] theorem mapIu_sq (f : Iu → Iu) : (s.mapIu f).sq = s.sq := rfl
@[simp] theorem mapIu_cu (f : Iu → Iu) : (s.mapIu f).cu = s.cu := rfl
@[simp] theorem mapIu_iu (f : Iu → Iu) : (s.mapIu f).iu = f s.iu := rfl
@[simp] theorem mapIu_lcp (f : Iu → Iu) : (s.mapIu f).lcp = s.lcp := rfl
@[simp] theorem mapIu_sc (f : Iu → Iu) : (s.mapIu f).sc = s.sc := rfl
@[simp] theorem mapLcp_pending (f : Lcp → Lcp) : (s.mapLcp f).pending = s.pending := rfl
@[simp] theorem mapLcp_now (f : Lcp → Lcp) : (s.mapLcp f).now = s.now := rfl
@[simp] theorem mapLcp_dropLine (f : Lcp → Lcp) : (s.mapLcp f).dropLine = s.dropLine := rfl
@[simp] theorem mapLcp_pins (f : Lcp → Lcp) : (s.mapLcp f).pins = s.pins := rfl
@[simp] theorem mapLcp_rlp (f : Lcp → Lcp) : (s.mapLcp f).rlp = s.rlp := rfl
@[simp] theorem mapLcp_ru (f : Lcp → Lcp) : (s.mapLcp f).ru = s.ru := rfl
@[simp] theorem mapLcp_pd (f : Lcp → Lcp) : (s.mapLcp f).pd = s.pd := rfl
@[simp] theorem mapLcp_mu (f : Lcp → Lcp) : (s.mapLcp f).mu = s.mu := rfl
@[simp] theorem mapLcp_sg (f : Lcp → Lcp) : (s.mapLcp f).sg = s.sg := rfl
@[simp] theorem mapLcp_sq (f : Lcp → Lcp) : (s.mapLcp f).sq = s.sq := rfl
@[simp] theorem mapLcp_cu (f : Lcp → Lcp) : (s.mapLcp f).cu = s.cu := rfl
@[simp] theorem mapLcp_iu (f : Lcp → Lcp) : (s.mapLcp f).iu = s.iu := rfl
@[simp] theorem mapLcp_lcp (f : Lcp → Lcp) : (s.mapLcp f).lcp = f s.lcp := rfl
@[simp] theorem mapLcp_sc (f : Lcp → Lcp) : (s.mapLcp f).sc = s.sc := rfl
@[simp] theorem mapSc_pending (f : Sc → Sc) : (s.mapSc f).pending = s.pending := rfl
@[simp] theorem mapSc_now (f : Sc → Sc) : (s.mapSc f).now = s.now := rfl
@[simp] theorem mapSc_dropLine (f : Sc → Sc) : (s.mapSc f).dropLine = s.dropLine := rfl
@[simp] theorem mapSc_pins (f : Sc → Sc) : (s.mapSc f).pins = s.pins := rfl
@[simp] theorem mapSc_rlp (f : Sc → Sc) : (s.mapSc f).rlp = s.rlp := rfl
@[simp] theorem mapSc_ru (f : Sc → Sc) : (s.mapSc f).ru = s.ru := rfl
@[simp] theorem mapSc_pd (f : Sc → Sc) : (s.mapSc f).pd = s.pd := rfl
@[simp] theorem mapSc_mu (f : Sc → Sc) : (s.mapSc f).mu = s.mu := rfl
@[simp] theorem mapSc_sg (f : Sc → Sc) : (s.mapSc f).sg = s.sg := rfl
@[simp] theorem mapSc_sq (f : Sc → Sc) : (s.mapSc f).sq = s.sq := rfl
@[simp] theorem mapSc_cu (f : Sc → Sc) : (s.mapSc f).cu = s.cu := rfl
@[simp] theorem mapSc_iu (f : Sc → Sc) : (s.mapSc f).iu = s.iu := rfl
@[simp] theorem mapSc_lcp (f : Sc → Sc) : (s.mapSc f).lcp = s.lcp := rfl
@[simp] theorem mapSc_sc (f : Sc → Sc) : (s.mapSc f).sc = f s.sc := rfl
@[simp] theorem mapPd_pending (p : Pan) (f : Drive → Drive) : (s.mapPd p f).pending = s.pending := rfl
@[simp] theorem mapPd_now (p : Pan) (f : Drive → Drive) : (s.mapPd p f).now = s.now := rfl
@[simp] theorem mapPd_dropLine (p : Pan) (f : Drive → Drive) : (s.mapPd p f).dropLine = s.dropLine := rfl
@[simp] theorem mapPd_pins (p : Pan) (f : Drive → Drive) : (s.mapPd p f).pins = s.pins := rfl
@[simp] theorem mapPd_rlp (p : Pan) (f : Drive → Drive) : (s.mapPd p f).rlp = s.rlp := rfl
@[simp] theorem mapPd_ru (p : Pan) (f : Drive → Drive) : (s.mapPd p f).ru = s.ru := rfl
@[simp] theorem mapPd_pd (p : Pan) (f : Drive → Drive) : (s.mapPd p f).pd = s.pd.set p (f (s.pd.get p)) := rfl
@[simp] theorem mapPd_mu (p : Pan) (f : Drive → Drive) : (s.mapPd p f).mu = s.mu := rfl
@[simp] theorem mapPd_sg (p : Pan) (f : Drive → Drive) : (s.mapPd p f).sg = s.sg := rfl
@[simp] theorem mapPd_sq (p : Pan) (f : Drive → Drive) : (s.mapPd p f).sq = s.sq := rfl
@[simp] theorem mapPd_cu (p : Pan) (f : Drive → Drive) : (s.mapPd p f).cu = s.cu := rfl
@[simp] theorem mapPd_iu (p : Pan) (f : Drive → Drive) : (s.mapPd p f).iu = s.iu := rfl
@[simp] theorem mapPd_lcp (p : Pan) (f : Drive → Drive) : (s.mapPd p f).lcp = s.lcp := rfl
@[simp] theorem mapPd_sc (p : Pan) (f : Drive → Drive) : (s.mapPd p f).sc = s.sc := rfl
@[simp] theorem advance_pending (t : Moment) : (s.advance t).pending = s.pending := rfl
@[simp] theorem advance_now (t : Moment) : (s.advance t).now = max s.now t := rfl
@[simp] theorem advance_dropLine (t : Moment) : (s.advance t).dropLine = s.dropLine := rfl
@[simp] theorem advance_pins (t : Moment) : (s.advance t).pins = s.pins := rfl
@[simp] theorem advance_rlp (t : Moment) : (s.advance t).rlp = s.rlp := rfl
@[simp] theorem advance_ru (t : Moment) : (s.advance t).ru = s.ru := rfl
@[simp] theorem advance_pd (t : Moment) : (s.advance t).pd = s.pd := rfl
@[simp] theorem advance_mu (t : Moment) : (s.advance t).mu = s.mu := rfl
@[simp] theorem advance_sg (t : Moment) : (s.advance t).sg = s.sg := rfl
@[simp] theorem advance_sq (t : Moment) : (s.advance t).sq = s.sq := rfl
@[simp] theorem advance_cu (t : Moment) : (s.advance t).cu = s.cu := rfl
@[simp] theorem advance_iu (t : Moment) : (s.advance t).iu = s.iu := rfl
@[simp] theorem advance_lcp (t : Moment) : (s.advance t).lcp = s.lcp := rfl
@[simp] theorem advance_sc (t : Moment) : (s.advance t).sc = s.sc := rfl
@[simp] theorem setDropLine_pending (p : Pan) (b : Bool) : (s.setDropLine p b).pending = s.pending := rfl
@[simp] theorem setDropLine_now (p : Pan) (b : Bool) : (s.setDropLine p b).now = s.now := rfl
@[simp] theorem setDropLine_dropLine (p : Pan) (b : Bool) : (s.setDropLine p b).dropLine = s.dropLine.set p b := rfl
@[simp] theorem setDropLine_pins (p : Pan) (b : Bool) : (s.setDropLine p b).pins = s.pins := rfl
@[simp] theorem setDropLine_rlp (p : Pan) (b : Bool) : (s.setDropLine p b).rlp = s.rlp := rfl
@[simp] theorem setDropLine_ru (p : Pan) (b : Bool) : (s.setDropLine p b).ru = s.ru := rfl
@[simp] theorem setDropLine_pd (p : Pan) (b : Bool) : (s.setDropLine p b).pd = s.pd := rfl
@[simp] theorem setDropLine_mu (p : Pan) (b : Bool) : (s.setDropLine p b).mu = s.mu := rfl
@[simp] theorem setDropLine_sg (p : Pan) (b : Bool) : (s.setDropLine p b).sg = s.sg := rfl
@[simp] theorem setDropLine_sq (p : Pan) (b : Bool) : (s.setDropLine p b).sq = s.sq := rfl
@[simp] theorem setDropLine_cu (p : Pan) (b : Bool) : (s.setDropLine p b).cu = s.cu := rfl
@[simp] theorem setDropLine_iu (p : Pan) (b : Bool) : (s.setDropLine p b).iu = s.iu := rfl
@[simp] theorem setDropLine_lcp (p : Pan) (b : Bool) : (s.setDropLine p b).lcp = s.lcp := rfl
@[simp] theorem setDropLine_sc (p : Pan) (b : Bool) : (s.setDropLine p b).sc = s.sc := rfl
@[simp] theorem pair_get_set {α : Type} (x : Pair α) (p : Pan) (v : α) : (x.set p v).get p = v := by cases p <;> rfl
theorem pair_get_set_ne {α : Type} (x : Pair α) (p q : Pan) (v : α) (h : q ≠ p) : (x.set p v).get q = x.get q := by
  cases p <;> cases q <;> first | rfl | exact absurd rfl h
@[simp] theorem pins_get_set (x : Pins) (i : InputPin) (v : PinLevel) : (x.set i v).get i = v := by
  cases i <;> first | rfl | (rename_i p; cases p <;> rfl)
theorem pins_get_set_ne (x : Pins) (i j : InputPin) (v : PinLevel) (h : j ≠ i) : (x.set i v).get j = x.get j := by
  cases i <;> cases j <;> first | rfl | exact absurd rfl h | (rename_i p q; cases p <;> cases q <;> first | rfl | exact absurd rfl h)

end Sys2Proof.Laws
end

