-- ==== Sys2Proof/Laws/Base.lean ====
section
/-! SUPPORT. The hand-offs of a step leave the base alone: one lemma per operation they use, up to `settle_base`. -/

namespace Sys2Proof.Laws

open Sys2Proof.Machine

/-! ## Updates of one unit -/

@[simp] theorem base_mapCu (s : State) (f : Cu → Cu) : (s.mapCu f).base = s.base := rfl

@[simp] theorem base_mapPd (s : State) (p : Pan) (f : Drive → Drive)
    (h : ∀ d, (f d).enable = d.enable ∧ (f d).housed = d.housed) : (s.mapPd p f).base = s.base := by
  cases p <;> simp [State.base, State.mapPd, Pair.set, Pair.get, h]

@[simp] theorem base_mapSc (s : State) (f : Sc → Sc)
    (h : ∀ x, (f x).strap = x.strap ∧ (f x).config = x.config ∧ (f x).locked = x.locked ∧
      (f x).fingerprint = x.fingerprint ∧ (f x).supplyLow = x.supplyLow) : (s.mapSc f).base = s.base := by
  simp [State.base, h]

@[simp] theorem base_mapRlp (s : State) (f : Rlp → Rlp)
    (h : ∀ x, (f x).port = x.port ∧ (f x).nextSeq = x.nextSeq ∧ (f x).expected = x.expected ∧
      (f x).collisions = x.collisions ∧ (f x).recentSender = x.recentSender ∧ (f x).line = x.line ∧
      (f x).lastEnd = x.lastEnd ∧ (f x).presenceTimer = x.presenceTimer ∧ (f x).settleTimer = x.settleTimer) :
    (s.mapRlp f).base = s.base := by
  simp [State.base, h]

@[simp] theorem base_mapRu (s : State) (f : Ru → Ru)
    (h : ∀ x, (f x).peers = x.peers ∧ (f x).roster = x.roster ∧ (f x).contests = x.contests ∧
      (f x).regime.system = x.regime.system ∧ (f x).regime.band = x.regime.band ∧
      (f x).regime.direction = x.regime.direction ∧ (f x).regime.settled = x.regime.settled) :
    (s.mapRu f).base = s.base := by
  simp [State.base, h]

@[simp] theorem base_mapSg (s : State) (f : Sg → Sg)
    (h : ∀ x, (f x).line = x.line ∧ (f x).acc = x.acc ∧ (f x).windowTimer = x.windowTimer ∧
      (f x).selector.contacts = x.selector.contacts ∧ (f x).iso.p0.contacts = x.iso.p0.contacts ∧
      (f x).iso.p1.contacts = x.iso.p1.contacts ∧ (f x).breakerOpen = x.breakerOpen) : (s.mapSg f).base = s.base := by
  simp [State.base, h]

@[simp] theorem base_mapSq (s : State) (f : Sq → Sq)
    (h : ∀ x, (f x).entries.length = x.entries.length ∧ (f x).nextId = x.nextId) : (s.mapSq f).base = s.base := by
  simp [State.base, h]

@[simp] theorem base_mapIu (s : State) (f : Iu → Iu)
    (h : ∀ x, (f x).observation = x.observation ∧ (f x).forced = x.forced ∧ (f x).noCollector = x.noCollector ∧
      (f x).table = x.table ∧ (f x).grants = x.grants ∧ (f x).hostHeat = x.hostHeat) : (s.mapIu f).base = s.base := by
  simp [State.base, h]

@[simp] theorem base_mapLcp (s : State) (f : Lcp → Lcp) (h : ∀ x, (f x).transaction = x.transaction) :
    (s.mapLcp f).base = s.base := by
  simp [State.base, h]

theorem base_ite (c : Prop) [Decidable c] (a b : State) : (if c then a else b).base = if c then a.base else b.base := by
  split <;> rfl

/-! ## Events, queue, faults, reasons -/

@[simp] theorem base_raiseEvent (s : State) (e : Event) : (s.raiseEvent e).base = s.base := by
  unfold State.raiseEvent
  apply base_mapLcp
  intro x
  split <;> rfl

@[simp] theorem base_raiseLocalFault (s : State) (k : FaultKind) (d : FaultDetail) :
    (s.raiseLocalFault k d).base = s.base := by
  simp [State.raiseLocalFault]

@[simp] theorem base_enqueue (s : State) (n : Notice) (b : Bool) : (s.enqueue n b).base = s.base := by
  simp [State.enqueue]

@[simp] theorem base_withdraw (s : State) (p : QueuedNotice → Bool) : (s.withdraw p).base = s.base := by
  simp [State.withdraw]

@[simp] theorem base_fillPresent (s : State) : s.fillPresent.base = s.base := by
  unfold State.fillPresent
  split <;> simp

theorem removeLast_eq_none {α : Type} (p : α → Bool) : ∀ l : List α, (∀ x ∈ l, p x = false) → removeLast p l = none
  | [], _ => rfl
  | x :: xs, h => by
    have hx := h x (List.mem_cons_self ..)
    simp [removeLast, removeLast_eq_none p xs fun y hy => h y (List.mem_cons_of_mem _ hy), hx]

theorem removeLast_split {α : Type} (p : α → Bool) (x : α) (after : List α) (hx : p x = true)
    (h : ∀ y ∈ after, p y = false) : ∀ before : List α, removeLast p (before ++ x :: after) = some (x, before ++ after)
  | [] => by simp [removeLast, removeLast_eq_none p after h, hx]
  | y :: ys => by simp [removeLast, removeLast_split p x after hx h ys]

@[simp] theorem base_queueInternal (s : State) (n : Notice) : (s.queueInternal n).1.base = s.base := by
  unfold State.queueInternal
  split
  · rfl
  · split
    · simp
    · split <;> simp

@[simp] theorem base_send (s : State) (n : Notice) : (s.send n).base = s.base := base_queueInternal s n

theorem base_sendOr (s : State) (n : Notice) (f : State → State) (h : ∀ t, (f t).base = t.base) :
    (s.sendOr n f).base = s.base := by
  have hq := base_queueInternal s n
  unfold State.sendOr
  split <;> simp_all

@[simp] theorem base_raiseFault (s : State) (k : FaultKind) (d : FaultDetail) (p : Option Pan) (x : Byte) :
    (s.raiseFault k d p x).base = s.base := by
  simp [State.raiseFault]

@[simp] theorem base_addReason (s : State) (x : Reason) : (s.addReason x).base = s.base := by
  unfold State.addReason
  split <;> simp

@[simp] theorem base_removeReason (s : State) (x : Reason) : (s.removeReason x).base = s.base := by
  unfold State.removeReason
  split <;> simp

@[simp] theorem base_refreshDeference (s : State) : s.refreshDeference.base = s.base := by
  simp [State.refreshDeference]

theorem base_eachFitted (s : State) (f : Pan → State → State) (h : ∀ p t, (f p t).base = t.base) :
    (s.eachFitted f).base = s.base := by
  unfold State.eachFitted
  dsimp only
  split <;> split <;> simp [h]

theorem base_foldl {α : Type} (l : List α) (f : State → α → State) (h : ∀ t x, (f t x).base = t.base) (s : State) :
    (l.foldl f s).base = s.base := by
  induction l generalizing s with
  | nil => rfl
  | cons x xs ih => simp [ih, h]

/-! ## Drives -/

@[simp] theorem serve_enable (d : Drive) (now dead : Nat) : (d.serve now dead).enable = d.enable := by
  unfold Drive.serve Drive.openValve
  repeat' split
  all_goals rfl

@[simp] theorem serve_housed (d : Drive) (now dead : Nat) : (d.serve now dead).housed = d.housed := by
  unfold Drive.serve Drive.openValve
  repeat' split
  all_goals rfl

@[simp] theorem base_aim (s : State) (p : Pan) (v : Valve) : (s.aim p v).base = s.base := by
  simp [State.aim, Drive.aim]

@[simp] theorem base_clearArcs (s : State) (p : Pan) : (s.clearArcs p).base = s.base := by
  simp [State.clearArcs]

@[simp] theorem base_driveTo (s : State) (p : Pan) (st : DriveState) (c : Option BlockCause) :
    (s.driveTo p st c).base = s.base := by
  unfold State.driveTo
  dsimp only
  split <;> simp

@[simp] theorem base_sendDrive (s : State) (p : Pan) (n : Notice) (o : Outstanding) : (s.sendDrive p n o).base = s.base := by
  unfold State.sendDrive
  exact base_sendOr _ _ _ fun t => by simp

@[simp] theorem base_sendBlocked (s : State) (p : Pan) : (s.sendBlocked p).base = s.base := by simp [State.sendBlocked]

@[simp] theorem base_sendYield (s : State) (p : Pan) : (s.sendYield p).base = s.base := by simp [State.sendYield]

@[simp] theorem base_takeHousing (s : State) (p : Pan) : (s.takeHousing p).base = s.base := by
  unfold State.takeHousing
  dsimp only
  split
  · split <;> simp
  · simp
  · rfl

@[simp] theorem base_housedAlready (s : State) (p : Pan) : (s.housedAlready p).base = s.base := by
  unfold State.housedAlready
  split <;> simp

@[simp] theorem base_scraperTo (s : State) (ph : ScraperPhase) : (s.scraperTo ph).base = s.base := by
  simp [State.scraperTo]

@[simp] theorem base_scraperLosesClaim (s : State) (p : Pan) : (s.scraperLosesClaim p).base = s.base := by
  unfold State.scraperLosesClaim
  split <;> simp

@[simp] theorem base_claimOver (s : State) (p : Pan) : (s.mapPd p Drive.claimOver).base = s.base := by
  simp [Drive.claimOver]

@[simp] theorem base_queueClaim (s : State) (p : Pan) (r : Role) : (s.queueClaim p r).base = s.base := by
  unfold State.queueClaim
  rw [base_sendOr _ _ _ fun t => by simp]
  simp

@[simp] theorem base_askClaim (s : State) (p : Pan) (r : Role) : (s.askClaim p r).1.base = s.base := by
  unfold State.askClaim
  dsimp only
  split <;> simp

@[simp] theorem base_withdrawClaim (s : State) (p : Pan) : (s.withdrawClaim p).base = s.base := by
  unfold State.withdrawClaim
  split <;> simp

@[simp] theorem base_yieldClaim (s : State) (p : Pan) : (s.yieldClaim p).base = s.base := by
  simp [State.yieldClaim]

@[simp] theorem base_cancelClaim (s : State) (p : Pan) : (s.cancelClaim p).base = s.base := by
  unfold State.cancelClaim
  dsimp only
  split <;> simp

@[simp] theorem base_enterLowering (s : State) (p : Pan) : (s.enterLowering p).base = s.base := by
  simp [State.enterLowering, Drive.quiet]

@[simp] theorem base_orderDown (s : State) (p : Pan) (c : DownCause) : (s.orderDown p c).base = s.base := by
  unfold State.orderDown
  dsimp only
  split
  · simp
  · simp
  · split <;> simp
  · simp

@[simp] theorem base_orderAllDown (s : State) (c : DownCause) : (s.orderAllDown c).base = s.base :=
  base_eachFitted _ _ fun p t => base_orderDown t p c

@[simp] theorem base_refreshShadows (s : State) : s.refreshShadows.base = s.base :=
  base_eachFitted _ _ fun p t => by simp

@[simp] theorem base_claimFollows (s : State) (p : Pan) : (s.claimFollows p).base = s.base := by
  unfold State.claimFollows
  split <;> simp

/-! ## Switchgear -/

@[simp] theorem base_answerCu (s : State) (b : Bool) : (s.answerCu b).base = s.base := rfl

@[simp] theorem base_startLeg (s : State) (x : SelPos) : (s.startLeg x).base = s.base := by simp [State.startLeg]

@[simp] theorem base_requestSelector (s : State) (x : SelPos) : (s.requestSelector x).base = s.base := by
  unfold State.requestSelector
  dsimp only
  repeat' split
  all_goals simp

@[simp] theorem base_selectorArrival (s : State) : s.selectorArrival.base = s.base := by
  unfold State.selectorArrival
  dsimp only
  repeat' split
  all_goals simp [Selector.atRest]

@[simp] theorem base_mapIso (s : State) (p : Pan) (f : Isolator → Isolator) (h : ∀ i, (f i).contacts = i.contacts) :
    (s.mapIso p f).base = s.base := by
  unfold State.mapIso
  apply base_mapSg
  intro x
  cases p <;> simp [Pair.set, Pair.get, h]

@[simp] theorem base_serveIso (s : State) (p : Pan) : (s.serveIso p).base = s.base := by
  unfold State.serveIso
  dsimp only
  repeat' split
  all_goals simp

@[simp] theorem base_requestIso (s : State) (p : Pan) (x : IsoPos) (b : Bool) : (s.requestIso p x b).base = s.base := by
  simp [State.requestIso]

@[simp] theorem base_isoArrival (s : State) (p : Pan) : (s.isoArrival p).base = s.base := by
  unfold State.isoArrival
  dsimp only
  repeat' split
  all_goals simp

@[simp] theorem base_gearFault (s : State) (k : FaultKind) (d : FaultDetail) (p : Option Pan) :
    (s.gearFault k d p).base = s.base := by
  simp [State.gearFault]

@[simp] theorem base_supervise (s : State) : s.supervise.base = s.base := by
  unfold State.supervise
  dsimp only
  split <;> simp

@[simp] theorem base_watchDeadLine (s : State) : s.watchDeadLine.base = s.base := by simp [State.watchDeadLine]

/-! ## Sections -/

@[simp] theorem base_holdNeutral (s : State) : s.holdNeutral.base = s.base := by
  unfold State.holdNeutral
  split <;> simp

@[simp] theorem base_neutralTest (s : State) (p : Pan) : (s.neutralTest p).base = s.base := by
  unfold State.neutralTest
  dsimp only
  repeat' split
  all_goals simp

@[simp] theorem base_holdRaises (s : State) : s.holdRaises.base = s.base := by simp [State.holdRaises]

@[simp] theorem base_markProposed (s : State) (k : SectionKey) (b : Bool) : (s.markProposed k b).base = s.base := by
  simp [State.markProposed]

@[simp] theorem base_autoPropose (s : State) : s.autoPropose.base = s.base := by
  unfold State.autoPropose
  split
  · rfl
  · split
    · rfl
    · split
      · rw [base_sendOr _ _ _ fun t => by simp]
        simp
      · rfl

@[simp] theorem base_testProposal (s : State) : s.testProposal.base = s.base := by
  unfold State.testProposal
  split <;> simp

@[simp] theorem base_roundMoves (s : State) : s.roundMoves.base = s.base := by simp [State.roundMoves]

@[simp] theorem base_followUsable (s : State) : s.followUsable.base = s.base := by
  unfold State.followUsable
  split <;> simp

/-! ## Rounds -/

@[simp] theorem base_phaseTo (s : State) (ph : RoundPhase) : (s.phaseTo ph).base = s.base := by simp [State.phaseTo]

@[simp] theorem base_enterReady (s : State) : s.enterReady.base = s.base := by simp [State.enterReady]

@[simp] theorem base_enterSwitch (s : State) : s.enterSwitch.base = s.base := by
  unfold State.enterSwitch
  dsimp only
  split <;> simp

@[simp] theorem base_closeLocal (s : State) : s.closeLocal.base = s.base := by
  simp [State.closeLocal, State.closeRecord, State.announceClose]

@[simp] theorem base_takeAnswer (s : State) : s.takeAnswer.base = s.base := by
  unfold State.takeAnswer
  dsimp only
  repeat' split
  all_goals simp

@[simp] theorem base_followPhase (s : State) : s.followPhase.base = s.base := by
  unfold State.followPhase
  repeat' split
  all_goals simp

@[simp] theorem base_followProbeEntry (s : State) : s.followProbeEntry.base = s.base := by
  unfold State.followProbeEntry
  repeat' split
  all_goals simp

@[simp] theorem base_followProbeWait (s : State) : s.followProbeWait.base = s.base := by
  unfold State.followProbeWait
  repeat' split
  all_goals simp

@[simp] theorem base_askProbe (s : State) : s.askProbe.base = s.base := by
  unfold State.askProbe
  repeat' split
  all_goals simp

@[simp] theorem base_testProbe (s : State) : s.testProbe.base = s.base := by
  unfold State.testProbe
  split <;> simp

/-! ## Ice and heat -/

@[simp] theorem base_refreshIce (s : State) : s.refreshIce.base = s.base := by
  unfold State.refreshIce
  split <;> simp

@[simp] theorem base_closeScraper (s : State) (p : Pan) : (s.closeScraper p).base = s.base := by simp [State.closeScraper]

@[simp] theorem base_endScraper (s : State) : s.endScraper.base = s.base := by
  unfold State.endScraper
  split <;> simp

@[simp] theorem base_scraperMeetsRound (s : State) : s.scraperMeetsRound.base = s.base := by
  unfold State.scraperMeetsRound
  split <;> simp

@[simp] theorem base_followScraper (s : State) : s.followScraper.base = s.base := by
  unfold State.followScraper
  dsimp only
  repeat' split
  all_goals simp

@[simp] theorem base_startScraper (s : State) : s.startScraper.base = s.base := by
  unfold State.startScraper
  repeat' split
  all_goals simp

@[simp] theorem base_askScraper (s : State) : s.askScraper.base = s.base := by
  unfold State.askScraper
  repeat' split
  all_goals simp

@[simp] theorem base_testScraper (s : State) : s.testScraper.base = s.base := by
  unfold State.testScraper
  split <;> simp

@[simp] theorem base_followDemand (s : State) : s.followDemand.base = s.base := by
  unfold State.followDemand
  split <;> simp

@[simp] theorem base_mapHeater (s : State) (p : Pan) (f : Heater → Heater) : (s.mapHeater p f).base = s.base := by
  simp [State.mapHeater]

@[simp] theorem base_refreshDuties (s : State) : s.refreshDuties.base = s.base :=
  base_eachFitted _ _ fun p t => by simp

@[simp] theorem base_takeFails (s : State) : s.takeFails.base = s.base := by simp [State.takeFails]

@[simp] theorem base_askHeat (s : State) : s.askHeat.base = s.base := by
  unfold State.askHeat
  split
  · rw [base_sendOr _ _ _ fun t => by simp]
    simp
  · rfl

@[simp] theorem base_testHeat (s : State) : s.testHeat.base = s.base := by
  unfold State.testHeat
  split <;> simp

@[simp] theorem base_giveHeat (s : State) (n : Nat) : (s.giveHeat n).base = s.base := by
  unfold State.giveHeat
  rw [base_sendOr _ _ _ fun t => by simp]

/-! ## The hand-offs -/

@[simp] theorem base_sendLeave (s : State) : s.sendLeave.base = s.base := by
  unfold State.sendLeave
  rw [base_sendOr _ _ _ fun t => by simp]
  simp

@[simp] theorem base_followLeave (s : State) : s.followLeave.base = s.base := by
  unfold State.followLeave
  split
  · rfl
  · dsimp only
    split
    · rw [base_sendLeave, base_eachFitted _ _ fun p t => by split <;> simp]
    · rw [base_eachFitted _ _ fun p t => by split <;> simp]

@[simp] theorem base_followGear (s : State) : s.followGear.base = s.base := by
  unfold State.followGear
  rw [base_selectorArrival, base_eachFitted _ _ fun p t => by simp]

@[simp] theorem base_followSections (s : State) : s.followSections.base = s.base := by simp [State.followSections]

@[simp] theorem base_followRound (s : State) : s.followRound.base = s.base := by simp [State.followRound]

@[simp] theorem base_followIce (s : State) : s.followIce.base = s.base := by simp [State.followIce]

@[simp] theorem base_followDrives (s : State) : s.followDrives.base = s.base := by
  unfold State.followDrives
  rw [base_refreshShadows, base_eachFitted _ _ fun p t => by simp]

@[simp] theorem base_react (s : State) : s.react.base = s.base := by simp [State.react]

@[simp] theorem base_claimCollector (s : State) (p : Pan) : (s.claimCollector p).base = s.base := by
  unfold State.claimCollector
  split <;> simp

@[simp] theorem base_offers (s : State) : s.offers.base = s.base := by simp [State.offers]

/-- The hand-offs of a step leave the base alone. -/
@[simp] theorem settle_base (s : State) : s.settle.base = s.base := by simp [State.settle]

end Sys2Proof.Laws
end

