-- ==== Sys2Proof/Laws/Memory.lean ====
section
/-! SUPPORT. The configuration block as an addressed buffer: a write keeps the canonical form, the byte written reads back,
and every other byte reads as before. -/

namespace Sys2Proof.Laws

open Sys2Proof.Machine

@[simp] theorem read_nil (a : Nat) : Memory.read [] a = Memory.unlisted a := rfl

@[simp] theorem wf_nil : Memory.wf [] = true := rfl

theorem wf_cons (k : Nat) (v : Byte) (rest : Memory) :
    Memory.wf ((k, v) :: rest) = true ↔
      k < configSize ∧ v ≠ Memory.unlisted k ∧ (∀ c ∈ rest, k < c.1) ∧ Memory.wf rest = true := by
  simp [Memory.wf, and_assoc]

/-- An offset below every listed one reads as its default. -/
theorem read_unlisted (m : Memory) (a : Nat) (h : ∀ c ∈ m, a < c.1) : m.read a = Memory.unlisted a := by
  induction m with
  | nil => rfl
  | cons c rest ih =>
    obtain ⟨k, v⟩ := c
    have hk : a < k := h (k, v) (by simp)
    have : ¬ k = a := by omega
    simp only [Memory.read, this, if_false]
    exact ih fun c hc => h c (by simp [hc])

/-- A write lists nothing below both the offset and what was listed. -/
theorem write_above (m : Memory) (a : Nat) (v : Byte) (b : Nat) (hb : b < a) (h : ∀ c ∈ m, b < c.1) :
    ∀ c ∈ m.write a v, b < c.1 := by
  induction m with
  | nil =>
    intro c hc
    simp only [Memory.write] at hc
    split at hc
    · cases hc
    · simp only [List.mem_singleton] at hc
      subst hc
      exact hb
  | cons x rest ih =>
    obtain ⟨k, w⟩ := x
    have hk : b < k := h (k, w) (by simp)
    have hr : ∀ c ∈ rest, b < c.1 := fun c hc => h c (by simp [hc])
    intro c hc
    simp only [Memory.write] at hc
    split at hc
    · split at hc
      · exact h c hc
      · rcases List.mem_cons.mp hc with rfl | hc
        · exact hb
        · exact h c hc
    · split at hc
      · split at hc
        · exact hr c hc
        · rcases List.mem_cons.mp hc with rfl | hc
          · exact hb
          · exact hr c hc
      · rcases List.mem_cons.mp hc with rfl | hc
        · exact hk
        · exact ih hr c hc

/-- One byte written inside the block keeps the canonical form. -/
theorem write_wf (m : Memory) (a : Nat) (v : Byte) (ha : a < configSize) (h : m.wf = true) :
    (m.write a v).wf = true := by
  induction m with
  | nil =>
    simp only [Memory.write]
    split
    · rfl
    · rename_i hv
      exact (wf_cons a v []).mpr ⟨ha, hv, by simp, rfl⟩
  | cons x rest ih =>
    obtain ⟨k, w⟩ := x
    obtain ⟨hk, hw, hr, hwf⟩ := (wf_cons k w rest).mp h
    simp only [Memory.write]
    split
    · rename_i hlt
      split
      · exact h
      · rename_i hv
        refine (wf_cons a v _).mpr ⟨ha, hv, ?_, h⟩
        intro c hc
        rcases List.mem_cons.mp hc with rfl | hc
        · exact hlt
        · exact Nat.lt_trans hlt (hr c hc)
    · split
      · rename_i hne heq
        subst heq
        split
        · exact hwf
        · rename_i hv
          exact (wf_cons _ v _).mpr ⟨ha, hv, hr, hwf⟩
      · rename_i hlt hne
        exact (wf_cons k w _).mpr ⟨hk, hw, write_above rest a v k (by omega) hr, ih hwf⟩

/-- Bytes written inside the block keep the canonical form. -/
theorem writeAll_wf (data : List Byte) : ∀ (m : Memory) (a : Nat), a + data.length ≤ configSize → m.wf = true →
    (m.writeAll a data).wf = true := by
  induction data with
  | nil => intro m a _ h; exact h
  | cons v rest ih =>
    intro m a ha h
    simp only [List.length_cons] at ha
    exact ih _ _ (by omega) (write_wf m a v (by omega) h)

/-- What a byte reads as after one write. -/
theorem read_write (m : Memory) (a : Nat) (v : Byte) (b : Nat) (h : m.wf = true) :
    (m.write a v).read b = if b = a then v else m.read b := by
  induction m with
  | nil =>
    simp only [Memory.write]
    split
    · rename_i hv
      by_cases hb : b = a
      · subst hb; simp [hv]
      · simp [hb]
    · by_cases hb : b = a
      · subst hb; simp [Memory.read]
      · have : ¬ a = b := fun e => hb e.symm
        simp [Memory.read, hb, this]
  | cons x rest ih =>
    obtain ⟨k, w⟩ := x
    obtain ⟨hk, hw, hr, hwf⟩ := (wf_cons k w rest).mp h
    simp only [Memory.write]
    split
    · rename_i hlt
      have hun : Memory.read ((k, w) :: rest) a = Memory.unlisted a := by
        apply read_unlisted
        intro c hc
        rcases List.mem_cons.mp hc with rfl | hc
        · exact hlt
        · exact Nat.lt_trans hlt (hr c hc)
      split
      · rename_i hv
        by_cases hb : b = a
        · subst hb; simp [hv, hun]
        · simp [hb]
      · by_cases hb : b = a
        · subst hb; simp [Memory.read]
        · have : ¬ a = b := fun e => hb e.symm
          simp [Memory.read, hb, this]
    · split
      · rename_i hnlt heq
        subst heq
        split
        · rename_i hv
          by_cases hb : b = a
          · subst hb
            simp [hv, read_unlisted rest b hr]
          · have : ¬ a = b := fun e => hb e.symm
            simp [Memory.read, hb, this]
        · by_cases hb : b = a
          · subst hb; simp [Memory.read]
          · have : ¬ a = b := fun e => hb e.symm
            simp [Memory.read, hb, this]
      · rename_i hnlt hne
        by_cases hkb : k = b
        · subst hkb
          have : ¬ k = a := fun e => hne e.symm
          simp [Memory.read, this]
        · simp only [Memory.read, hkb, if_false]
          exact ih hwf

/-- What a byte reads as after a block write: the byte written there, or what it read as before. -/
theorem read_writeAll (data : List Byte) : ∀ (m : Memory) (a b : Nat), a + data.length ≤ configSize → m.wf = true →
    (m.writeAll a data).read b = if a ≤ b ∧ b < a + data.length then data.getD (b - a) 0 else m.read b := by
  induction data with
  | nil =>
    intro m a b _ _
    have : ¬ (a ≤ b ∧ b < a + ([] : List Byte).length) := by simp
    simp only [Memory.writeAll, this, if_false]
  | cons v rest ih =>
    intro m a b ha h
    simp only [List.length_cons] at ha
    rw [Memory.writeAll, ih _ _ _ (by omega) (write_wf m a v (by omega) h), read_write m a v b h]
    simp only [List.length_cons]
    by_cases hb : b = a
    · subst hb
      have h1 : ¬ (b + 1 ≤ b ∧ b < b + 1 + rest.length) := by omega
      have h2 : b ≤ b ∧ b < b + (rest.length + 1) := by omega
      simp only [h1, h2, if_false, if_true, Nat.sub_self, and_self]
      rfl
    · by_cases hin : a + 1 ≤ b ∧ b < a + 1 + rest.length
      · have h2 : a ≤ b ∧ b < a + (rest.length + 1) := by omega
        have h3 : b - a = (b - (a + 1)) + 1 := by omega
        simp [hin, h2, h3]
      · have h2 : ¬ (a ≤ b ∧ b < a + (rest.length + 1)) := by omega
        simp only [hin, h2, if_false, hb]

end Sys2Proof.Laws
end

