-- ==== Sys2Proof/Laws/Keeps.lean ====
section
/-! SUPPORT. What the operations of the part preserve, said once: a property that the updates of `Closed` preserve is
preserved by every operation (`keeps_<operation>`). `Sound`, the part's capacities and ranges unit by unit, and `Grown`, that
events, overflow flag and fault bits are only added, are such properties. -/

namespace Sys2Proof.Laws

open Sys2Proof.Machine

/-- A drive's fill valve is closed while its enable is clear. -/
def Gated (d : Drive) : Prop := d.enable = false → d.valve ≠ .fill

/-- Histories hold at most eight counts. -/
def HistoriesFit (i : Iu) : Prop := i.history.p0.length ≤ 8 ∧ i.history.p1.length ≤ 8

/-- Both position counts of a channel are in range. -/
def CountFits (c : PosChannel) : Prop :=
  -32768 ≤ c.count ∧ c.count ≤ 32767 ∧ -32768 ≤ c.housingCount ∧ c.housingCount ≤ 32767

/-- The updates a property must survive for every operation to preserve it. -/
structure Closed (P : State → Prop) : Prop where
  advance : ∀ s t, P s → P (s.advance t)
  dropLine : ∀ s p b, P s → P (s.setDropLine p b)
  pins : ∀ s f, P s → P (s.mapPins f)
  rlp : ∀ s f, (f s.rlp).queue.length ≤ s.rlp.queue.length → P s → P (s.mapRlp f)
  enqueue : ∀ s n b, s.rlp.queue.length < queueCapacity → P s → P (s.enqueue n b)
  ru : ∀ s f, (∀ r, (f r).contests.length ≤ r.contests.length) → P s → P (s.mapRu f)
  openContest : ∀ s x y, s.contestFree = true → P s → P (s.openContest x y)
  pd : ∀ s p f, (∀ d, Gated d → Gated (f d)) → P s → P (s.mapPd p f)
  mu : ∀ s f, (∀ m p, CountFits (m.pos.get p) → CountFits ((f m).pos.get p)) → P s → P (s.mapMu f)
  sg : ∀ s f, (∀ g, g.line.runLength ≤ 3 → (f g).line.runLength ≤ 3) → P s → P (s.mapSg f)
  sq : ∀ s f, (∀ q, (f q).entries.length ≤ q.entries.length) → P s → P (s.mapSq f)
  insert : ∀ s e, P s → P (s.insertSection e)
  cu : ∀ s f, P s → P (s.mapCu f)
  iu : ∀ s f, (∀ i, HistoriesFit i → HistoriesFit (f i)) → P s → P (s.mapIu f)
  event : ∀ s e, P s → P (s.raiseEvent e)
  fault : ∀ s k d, P s → P (s.raiseLocalFault k d)
  respond : ∀ s x, P s → P (s.mapLcp fun l => { l with transaction := x })
  sc : ∀ s f, (∀ x, (f x).strap = x.strap ∧ (f x).config = x.config ∧ (f x).fingerprint = x.fingerprint) → P s →
    P (s.mapSc f)

/-- A property that holds of a state; the lemmas below are stated with it. -/
def Keeps (P : State → Prop) (s : State) : Prop := P s

variable {P : State → Prop}

/-! ## The updates -/

@[simp] theorem keeps_advance (s : State) (t : Moment) (hP : Closed P) (h : Keeps P s) : Keeps P (s.advance t) :=
  hP.advance s t h

@[simp] theorem keeps_setDropLine (s : State) (p : Pan) (b : Bool) (hP : Closed P) (h : Keeps P s) :
    Keeps P (s.setDropLine p b) := hP.dropLine s p b h

@[simp] theorem keeps_mapPins (s : State) (f : Pins → Pins) (hP : Closed P) (h : Keeps P s) : Keeps P (s.mapPins f) :=
  hP.pins s f h

@[simp] theorem keeps_mapRlp (s : State) (f : Rlp → Rlp) (hP : Closed P) (h : Keeps P s)
    (hf : ∀ r, (f r).queue.length ≤ r.queue.length) : Keeps P (s.mapRlp f) := hP.rlp s f (hf _) h

@[simp] theorem keeps_enqueue (s : State) (n : Notice) (b : Bool) (hP : Closed P) (h : Keeps P s)
    (hl : s.rlp.queue.length < queueCapacity) : Keeps P (s.enqueue n b) := hP.enqueue s n b hl h

@[simp] theorem keeps_mapRu (s : State) (f : Ru → Ru) (hP : Closed P) (h : Keeps P s)
    (hf : ∀ r, (f r).contests.length ≤ r.contests.length) : Keeps P (s.mapRu f) := hP.ru s f hf h

@[simp] theorem keeps_openContest (s : State) (x : Target) (y : ContestBody) (hP : Closed P) (h : Keeps P s)
    (hl : s.contestFree = true) : Keeps P (s.openContest x y) := hP.openContest s x y hl h

@[simp] theorem keeps_mapPd (s : State) (p : Pan) (f : Drive → Drive) (hP : Closed P) (h : Keeps P s)
    (hf : ∀ d, (d.enable = false → ¬ d.valve = .fill) → (f d).enable = false → ¬ (f d).valve = .fill) :
    Keeps P (s.mapPd p f) := hP.pd s p f hf h

@[simp] theorem keeps_mapMu (s : State) (f : Mu → Mu) (hP : Closed P) (h : Keeps P s)
    (hf : ∀ m p, CountFits (m.pos.get p) → CountFits ((f m).pos.get p)) : Keeps P (s.mapMu f) := hP.mu s f hf h

@[simp] theorem keeps_mapSg (s : State) (f : Sg → Sg) (hP : Closed P) (h : Keeps P s)
    (hf : ∀ g, g.line.runLength ≤ 3 → (f g).line.runLength ≤ 3) : Keeps P (s.mapSg f) := hP.sg s f hf h

@[simp] theorem keeps_mapSq (s : State) (f : Sq → Sq) (hP : Closed P) (h : Keeps P s)
    (hf : ∀ q, (f q).entries.length ≤ q.entries.length) : Keeps P (s.mapSq f) := hP.sq s f hf h

@[simp] theorem keeps_insertSection (s : State) (e : SectionEntry) (hP : Closed P) (h : Keeps P s) :
    Keeps P (s.insertSection e) := hP.insert s e h

@[simp] theorem keeps_mapCu (s : State) (f : Cu → Cu) (hP : Closed P) (h : Keeps P s) : Keeps P (s.mapCu f) := hP.cu s f h

@[simp] theorem keeps_mapIu (s : State) (f : Iu → Iu) (hP : Closed P) (h : Keeps P s)
    (hf : ∀ i, i.history.p0.length ≤ 8 ∧ i.history.p1.length ≤ 8 →
      (f i).history.p0.length ≤ 8 ∧ (f i).history.p1.length ≤ 8) : Keeps P (s.mapIu f) := hP.iu s f hf h

@[simp] theorem keeps_raiseEvent (s : State) (e : Event) (hP : Closed P) (h : Keeps P s) : Keeps P (s.raiseEvent e) :=
  hP.event s e h

@[simp] theorem keeps_raiseLocalFault (s : State) (k : FaultKind) (d : FaultDetail) (hP : Closed P) (h : Keeps P s) :
    Keeps P (s.raiseLocalFault k d) := hP.fault s k d h

@[simp] theorem keeps_respond (s : State) (c : Byte) (r : ResultCode) (d : ResponseData) (hP : Closed P) (h : Keeps P s) :
    Keeps P (s.respond c r d) := hP.respond s _ h

@[simp] theorem keeps_mapSc (s : State) (f : Sc → Sc) (hP : Closed P) (h : Keeps P s)
    (hf : ∀ x, (f x).strap = x.strap ∧ (f x).config = x.config ∧ (f x).fingerprint = x.fingerprint) : Keeps P (s.mapSc f) := hP.sc s f hf h

/-! ## Small facts the updates need -/

/-- Serving the valves never opens FILL against the enable. -/
@[simp] theorem serve_valve (d : Drive) (n k : Nat) (h : d.enable = false → ¬ d.valve = .fill) (he : d.enable = false) :
    ¬ (d.serve n k).valve = .fill := by
  have hv := h he
  unfold Drive.serve Drive.openValve
  repeat' split
  all_goals simp_all

theorem removeLast_length {α : Type} (p : α → Bool) :
    ∀ (l : List α) (x : α) (r : List α), removeLast p l = some (x, r) → r.length + 1 = l.length := by
  intro l
  induction l with
  | nil => intro x r h; simp [removeLast] at h
  | cons a as ih =>
    intro x r h
    simp only [removeLast] at h
    split at h
    · rename_i y ys hy
      have := ih y ys hy
      simp only [Option.some.injEq, Prod.mk.injEq] at h
      obtain ⟨_, rfl⟩ := h
      simp only [List.length_cons]
      omega
    · split at h
      · simp only [Option.some.injEq, Prod.mk.injEq] at h
        obtain ⟨_, rfl⟩ := h
        simp
      · cases h

@[simp] theorem markAttempt_length (c : Nat) (l : List QueuedNotice) : (markAttempt c l).length = l.length := by
  induction l with
  | nil => rfl
  | cons a as ih => unfold markAttempt; split <;> simp [ih]

theorem pushCount_length (h : List Nat) (n : Nat) (hl : h.length ≤ 8) : (pushCount h n).length ≤ 8 := by
  simp only [pushCount, List.length_drop, List.length_append, List.length_singleton]
  omega

theorem limitCount_fits (n : Int) : -32768 ≤ limitCount n ∧ limitCount n ≤ 32767 := by
  unfold limitCount
  omega

theorem edge_fits (c : PosChannel) (a b : Bool) (h : CountFits c) : CountFits (c.edge a b) := by
  obtain ⟨h1, h2, h3, h4⟩ := h
  unfold PosChannel.edge
  split
  · exact ⟨h1, h2, h3, h4⟩
  · exact ⟨(limitCount_fits _).1, (limitCount_fits _).2, h3, h4⟩
  · exact ⟨h1, h2, h3, h4⟩
  · exact ⟨(limitCount_fits _).1, (limitCount_fits _).2, h3, h4⟩

theorem take_fits (l : LineRecord) (r : LineClass) : (l.take r).runLength ≤ 3 := by
  unfold LineRecord.take
  dsimp only
  split <;> omega

theorem keeps_foldl {α : Type} (l : List α) (f : State → α → State) (hf : ∀ t x, Keeps P t → Keeps P (f t x))
    (s : State) (h : Keeps P s) : Keeps P (l.foldl f s) := by
  induction l generalizing s with
  | nil => exact h
  | cons x xs ih => exact ih _ (hf _ _ h)

@[simp] theorem keeps_ite (c : Prop) [Decidable c] (a b : State) (ha : c → Keeps P a) (hb : ¬ c → Keeps P b) :
    Keeps P (if c then a else b) := by
  split <;> simp_all

@[simp] theorem keeps_mapPd_claimOver (s : State) (p : Pan) (hP : Closed P) (h : Keeps P s) :
    Keeps P (s.mapPd p Drive.claimOver) := keeps_mapPd s p _ hP h fun _ hd => hd

@[simp] theorem keeps_mapPd_decide (s : State) (p : Pan) (f : Drive → Drive) (v : Drive → Option Valve) (n k : Nat)
    (hP : Closed P) (h : Keeps P s) (hf : ∀ d, (f d).enable = d.enable ∧ (f d).valve = d.valve) :
    Keeps P (s.mapPd p fun d => Drive.decide (f d) (v d) n k) := by
  refine keeps_mapPd s p _ hP h fun d hd => ?_
  have he := (hf d).1
  have hv := (hf d).2
  unfold Drive.decide Drive.aim
  split <;> simp_all

theorem keeps_mapCap (s : State) (ch : CaptureChan) (f : CaptureRecord → CaptureRecord) (hP : Closed P) (h : Keeps P s) :
    Keeps P (s.mapMu fun m => m.mapCap ch f) :=
  keeps_mapMu s _ hP h fun m p hm => by cases ch <;> exact hm

@[simp] theorem keeps_eachFitted (s : State) (f : Pan → State → State) (h : Keeps P s)
    (hf : ∀ p t, Keeps P t → Keeps P (f p t)) : Keeps P (s.eachFitted f) := by
  unfold State.eachFitted
  dsimp only
  split <;> split <;> simp_all

@[simp] theorem keeps_fillPresent (s : State) (hP : Closed P) (h : Keeps P s) : Keeps P s.fillPresent := by
  unfold State.fillPresent
  split <;> simp [hP, h]

@[simp] theorem keeps_queueInternal (s : State) (n : Notice) (hP : Closed P) (h : Keeps P s) :
    Keeps P (s.queueInternal n).1 := by
  unfold State.queueInternal
  split
  · exact h
  · split
    · exact keeps_enqueue _ _ _ hP h (by assumption)
    · split
      · rename_i old rest hr
        have hk := removeLast_length _ _ _ _ hr
        have he : Keeps P (s.raiseEvent (.txDiscarded old.notice.kind)) := hP.event _ _ h
        exact hP.rlp (s.raiseEvent (.txDiscarded old.notice.kind))
          (fun r => { r with queue := rest ++ [⟨n, false, false, false⟩] })
          (by show (rest ++ [_]).length ≤ s.rlp.queue.length; simp only [List.length_append, List.length_singleton]; omega) he
      · exact keeps_fillPresent _ hP (hP.event _ _ h)

@[simp] theorem keeps_send (s : State) (n : Notice) (hP : Closed P) (h : Keeps P s) : Keeps P (s.send n) :=
  keeps_queueInternal s n hP h

@[simp] theorem keeps_sendOr (s : State) (n : Notice) (f : State → State) (hP : Closed P) (h : Keeps P s)
    (hf : ∀ t, Keeps P t → Keeps P (f t)) : Keeps P (s.sendOr n f) := by
  have hq := keeps_queueInternal s n hP h
  unfold State.sendOr
  split <;> simp_all


/-! ## Ops -/

@[simp] theorem keeps_mapPeer (s : State) (n : Nat) (f : Peer → Peer) (hP : Closed P) (h : Keeps P s) :
    Keeps P (s.mapPeer n f) := by
  unfold State.mapPeer
  try dsimp only
  repeat' split
  all_goals simp (maxDischargeDepth := 40) +contextual [hP, h]

/-- Accepted changes keep what each edge keeps. -/
theorem keeps_acceptUpTo (n : Nat) (xs : List InputPin) (edge : Moment → State → State) (u : Moment) (hP : Closed P)
    (he : ∀ d t, Keeps P t → Keeps P (edge d t)) : ∀ s, Keeps P s → Keeps P (s.acceptUpTo n xs edge u) := by
  induction n with
  | zero => exact fun s h => h
  | succ k ih =>
    intro s h
    unfold State.acceptUpTo
    split
    · exact h
    · split
      · exact ih _ (he _ _ (keeps_advance _ _ hP h))
      · exact h

/-- A filter keeps what each edge keeps. -/
theorem keeps_filter (s : State) (levels : List (InputPin × Bool)) (since t : Moment) (edge : Moment → State → State)
    (hP : Closed P) (h : Keeps P s) (he : ∀ d t, Keeps P t → Keeps P (edge d t)) :
    Keeps P (s.filter levels since t edge) :=
  keeps_advance _ _ hP (keeps_acceptUpTo _ _ _ _ hP he _ (keeps_mapPins _ _ hP (keeps_acceptUpTo _ _ _ _ hP he _ h)))

/-! ## Flags -/

@[simp] theorem keeps_addReason (s : State) (x : Reason) (hP : Closed P) (h : Keeps P s) :
    Keeps P (s.addReason x) := by
  unfold State.addReason
  try dsimp only
  repeat' split
  all_goals simp (maxDischargeDepth := 40) +contextual [hP, h]

@[simp] theorem keeps_removeReason (s : State) (x : Reason) (hP : Closed P) (h : Keeps P s) :
    Keeps P (s.removeReason x) := by
  unfold State.removeReason
  try dsimp only
  repeat' split
  all_goals simp (maxDischargeDepth := 40) +contextual [hP, h]

/-! ## Queue -/

@[simp] theorem keeps_withdraw (s : State) (p : QueuedNotice → Bool) (hP : Closed P) (h : Keeps P s) :
    Keeps P (s.withdraw p) := by
  unfold State.withdraw
  simp [hP, h, List.length_filter_le]

@[simp] theorem keeps_refreshDeference (s : State) (hP : Closed P) (h : Keeps P s) :
    Keeps P s.refreshDeference := by
  unfold State.refreshDeference
  try dsimp only
  repeat' split
  all_goals simp (maxDischargeDepth := 40) +contextual [hP, h]

@[simp] theorem keeps_raiseFault (s : State) (k : FaultKind) (d : FaultDetail) (p : Option Pan) (detail : Byte) (hP : Closed P) (h : Keeps P s) :
    Keeps P (s.raiseFault k d p detail) := by
  unfold State.raiseFault
  try dsimp only
  repeat' split
  all_goals simp (maxDischargeDepth := 40) +contextual [hP, h]

/-! ## Roster -/

@[simp] theorem keeps_mapEntry (s : State) (n : Nat) (p : Pan) (f : Entry → Entry) (hP : Closed P) (h : Keeps P s) :
    Keeps P (s.mapEntry n p f) := by
  simp [State.mapEntry, hP, h]

@[simp] theorem keeps_addReady (s : State) (n : Nat) (hP : Closed P) (h : Keeps P s) :
    Keeps P (s.addReady n) := by
  unfold State.addReady
  try dsimp only
  repeat' split
  all_goals simp (maxDischargeDepth := 40) +contextual [hP, h]

@[simp] theorem keeps_dropReady (s : State) (n : Nat) (hP : Closed P) (h : Keeps P s) :
    Keeps P (s.dropReady n) := by
  unfold State.dropReady
  try dsimp only
  repeat' split
  all_goals simp (maxDischargeDepth := 40) +contextual [hP, h]

@[simp] theorem keeps_withdrawObjects (s : State) (target : Target) (hP : Closed P) (h : Keeps P s) :
    Keeps P (s.withdrawObjects target) := by
  unfold State.withdrawObjects
  try dsimp only
  repeat' split
  all_goals simp (maxDischargeDepth := 40) +contextual [hP, h]

@[simp] theorem keeps_dropContest (s : State) (target : Target) (hP : Closed P) (h : Keeps P s) :
    Keeps P (s.dropContest target) := by
  have ht : Keeps P (s.mapRu fun r => { r with contests := r.contests.filter fun c => c.target != target }) :=
    keeps_mapRu _ _ hP h fun r => List.length_filter_le _ _
  unfold State.dropContest
  split
  · exact keeps_mapEntry _ _ _ _ hP ht
  · exact ht

@[simp] theorem keeps_closeContest (s : State) (target : Target) (hP : Closed P) (h : Keeps P s) :
    Keeps P (s.closeContest target) := by
  unfold State.closeContest
  try dsimp only
  repeat' split
  all_goals simp (maxDischargeDepth := 40) +contextual [hP, h]

@[simp] theorem keeps_closeContests (s : State) (p : Contest → Bool) (hP : Closed P) (h : Keeps P s) :
    Keeps P (s.closeContests p) := by
  unfold State.closeContests
  exact keeps_foldl _ _ (fun t c ht => keeps_closeContest t c.target hP ht) s h

@[simp] theorem keeps_closeClaims (s : State) (n : Nat) (p : Pan) (hP : Closed P) (h : Keeps P s) :
    Keeps P (s.closeClaims n p) := by
  unfold State.closeClaims
  try dsimp only
  repeat' split
  all_goals simp (maxDischargeDepth := 40) +contextual [hP, h]

@[simp] theorem keeps_closeStationClaims (s : State) (n : Nat) (hP : Closed P) (h : Keeps P s) :
    Keeps P (s.closeStationClaims n) := by
  unfold State.closeStationClaims
  try dsimp only
  repeat' split
  all_goals simp (maxDischargeDepth := 40) +contextual [hP, h]

@[simp] theorem keeps_withdrawClaimObjects (s : State) (n : Nat) (p : Pan) (hP : Closed P) (h : Keeps P s) :
    Keeps P (s.withdrawClaimObjects n p) := by
  unfold State.withdrawClaimObjects
  split <;> simp [hP, h]

@[simp] theorem keeps_closeStation (s : State) (n : Nat) (hP : Closed P) (h : Keeps P s) :
    Keeps P (s.closeStation n) := by
  unfold State.closeStation
  try dsimp only
  repeat' split
  all_goals simp (maxDischargeDepth := 40) +contextual [hP, h]

@[simp] theorem keeps_markObjected (s : State) (target : Target) (hP : Closed P) (h : Keeps P s) :
    Keeps P (s.markObjected target) := by
  unfold State.markObjected
  try dsimp only
  repeat' split
  all_goals simp (maxDischargeDepth := 40) +contextual [hP, h]

@[simp] theorem keeps_loseEntries (s : State) (n : Nat) (hP : Closed P) (h : Keeps P s) :
    Keeps P (s.loseEntries n) := by
  unfold State.loseEntries
  try dsimp only
  repeat' split
  all_goals simp (maxDischargeDepth := 40) +contextual [hP, h]

@[simp] theorem keeps_removeEntries (s : State) (n : Nat) (hP : Closed P) (h : Keeps P s) :
    Keeps P (s.removeEntries n) := by
  unfold State.removeEntries
  try dsimp only
  repeat' split
  all_goals simp (maxDischargeDepth := 40) +contextual [hP, h]

/-! ## Drive -/

@[simp] theorem keeps_aim (s : State) (p : Pan) (v : Valve) (hP : Closed P) (h : Keeps P s) :
    Keeps P (s.aim p v) := by
  unfold State.aim
  try dsimp only
  repeat' split
  all_goals simp (maxDischargeDepth := 40) +contextual [hP, h, Drive.aim]

@[simp] theorem keeps_clearArcs (s : State) (p : Pan) (hP : Closed P) (h : Keeps P s) : Keeps P (s.clearArcs p) :=
  keeps_mapIu s _ hP h fun i hi => by cases p <;> simp_all [Pair.set]

@[simp] theorem keeps_driveTo (s : State) (p : Pan) (st : DriveState) (cause : Option BlockCause) (hP : Closed P) (h : Keeps P s) :
    Keeps P (s.driveTo p st cause) := by
  unfold State.driveTo
  try dsimp only
  repeat' split
  all_goals simp (maxDischargeDepth := 40) +contextual [hP, h]

@[simp] theorem keeps_sendDrive (s : State) (p : Pan) (n : Notice) (o : Outstanding) (hP : Closed P) (h : Keeps P s) :
    Keeps P (s.sendDrive p n o) := by
  unfold State.sendDrive
  try dsimp only
  repeat' split
  all_goals simp (maxDischargeDepth := 40) +contextual [hP, h]

@[simp] theorem keeps_sendBlocked (s : State) (p : Pan) (hP : Closed P) (h : Keeps P s) :
    Keeps P (s.sendBlocked p) := by
  unfold State.sendBlocked
  try dsimp only
  repeat' split
  all_goals simp (maxDischargeDepth := 40) +contextual [hP, h]

@[simp] theorem keeps_sendYield (s : State) (p : Pan) (hP : Closed P) (h : Keeps P s) :
    Keeps P (s.sendYield p) := by
  unfold State.sendYield
  try dsimp only
  repeat' split
  all_goals simp (maxDischargeDepth := 40) +contextual [hP, h]

@[simp] theorem keeps_takeHousing (s : State) (p : Pan) (hP : Closed P) (h : Keeps P s) :
    Keeps P (s.takeHousing p) := by
  unfold State.takeHousing
  try dsimp only
  repeat' split
  all_goals simp (maxDischargeDepth := 40) +contextual [hP, h]

@[simp] theorem keeps_housedAlready (s : State) (p : Pan) (hP : Closed P) (h : Keeps P s) :
    Keeps P (s.housedAlready p) := by
  unfold State.housedAlready
  try dsimp only
  repeat' split
  all_goals simp (maxDischargeDepth := 40) +contextual [hP, h]

@[simp] theorem keeps_scraperTo (s : State) (ph : ScraperPhase) (hP : Closed P) (h : Keeps P s) :
    Keeps P (s.scraperTo ph) := by
  unfold State.scraperTo
  try dsimp only
  repeat' split
  all_goals simp (maxDischargeDepth := 40) +contextual [hP, h]

@[simp] theorem keeps_scraperLosesClaim (s : State) (p : Pan) (hP : Closed P) (h : Keeps P s) :
    Keeps P (s.scraperLosesClaim p) := by
  unfold State.scraperLosesClaim
  try dsimp only
  repeat' split
  all_goals simp (maxDischargeDepth := 40) +contextual [hP, h]

@[simp] theorem keeps_queueClaim (s : State) (p : Pan) (r : Role) (hP : Closed P) (h : Keeps P s) :
    Keeps P (s.queueClaim p r) := by
  unfold State.queueClaim
  try dsimp only
  repeat' split
  all_goals simp (maxDischargeDepth := 40) +contextual [hP, h]

@[simp] theorem keeps_askClaim (s : State) (p : Pan) (r : Role) (hP : Closed P) (h : Keeps P s) :
    Keeps P (s.askClaim p r).1 := by
  unfold State.askClaim
  dsimp only
  split <;> simp [hP, h]

@[simp] theorem keeps_withdrawClaim (s : State) (p : Pan) (hP : Closed P) (h : Keeps P s) :
    Keeps P (s.withdrawClaim p) := by
  unfold State.withdrawClaim
  try dsimp only
  repeat' split
  all_goals simp (maxDischargeDepth := 40) +contextual [hP, h]

@[simp] theorem keeps_yieldClaim (s : State) (p : Pan) (hP : Closed P) (h : Keeps P s) :
    Keeps P (s.yieldClaim p) := by
  unfold State.yieldClaim
  try dsimp only
  repeat' split
  all_goals simp (maxDischargeDepth := 40) +contextual [hP, h]

@[simp] theorem keeps_cancelClaim (s : State) (p : Pan) (hP : Closed P) (h : Keeps P s) :
    Keeps P (s.cancelClaim p) := by
  unfold State.cancelClaim
  try dsimp only
  repeat' split
  all_goals simp (maxDischargeDepth := 40) +contextual [hP, h]

@[simp] theorem keeps_enterLowering (s : State) (p : Pan) (hP : Closed P) (h : Keeps P s) :
    Keeps P (s.enterLowering p) := by
  unfold State.enterLowering
  try dsimp only
  repeat' split
  all_goals simp (maxDischargeDepth := 40) +contextual [hP, h, Drive.quiet]

@[simp] theorem keeps_orderDown (s : State) (p : Pan) (c : DownCause) (hP : Closed P) (h : Keeps P s) :
    Keeps P (s.orderDown p c) := by
  unfold State.orderDown
  try dsimp only
  repeat' split
  all_goals simp (maxDischargeDepth := 40) +contextual [hP, h]

@[simp] theorem keeps_orderAllDown (s : State) (c : DownCause) (hP : Closed P) (h : Keeps P s) :
    Keeps P (s.orderAllDown c) := by
  unfold State.orderAllDown
  try dsimp only
  repeat' split
  all_goals simp (maxDischargeDepth := 40) +contextual [hP, h]

@[simp] theorem keeps_driveFault (s : State) (p : Pan) (k : FaultKind) (count : Int) (hP : Closed P) (h : Keeps P s) :
    Keeps P (s.driveFault p k count) := by
  unfold State.driveFault
  try dsimp only
  repeat' split
  all_goals simp (maxDischargeDepth := 40) +contextual [hP, h]

@[simp] theorem keeps_endClaimByBlock (s : State) (p : Pan) (hP : Closed P) (h : Keeps P s) :
    Keeps P (s.endClaimByBlock p) := by
  unfold State.endClaimByBlock
  try dsimp only
  repeat' split
  all_goals simp (maxDischargeDepth := 40) +contextual [hP, h]

@[simp] theorem keeps_blockNow (s : State) (p : Pan) (cause : BlockCause) (hP : Closed P) (h : Keeps P s) :
    Keeps P (s.blockNow p cause) := by
  unfold State.blockNow
  try dsimp only
  repeat' split
  all_goals simp (maxDischargeDepth := 40) +contextual [hP, h]

@[simp] theorem keeps_sensorConflict (s : State) (p : Pan) (count : Int) (hP : Closed P) (h : Keeps P s) :
    Keeps P (s.sensorConflict p count) := by
  unfold State.sensorConflict
  try dsimp only
  repeat' split
  all_goals simp (maxDischargeDepth := 40) +contextual [hP, h]

@[simp] theorem keeps_dropDrive (s : State) (p : Pan) (cause : BlockCause) (hP : Closed P) (h : Keeps P s) :
    Keeps P (s.dropDrive p cause) := by
  have ht : Keeps P ((s.mapPd p fun d => { d with enable := false }).aim p .vent) := by
    have hd : (s.mapPd p fun d => { d with enable := false }).aim p .vent =
        s.mapPd p fun d => Drive.aim { d with enable := false } .vent s.now s.deadInterval := by
      cases p <;> rfl
    rw [hd]
    refine keeps_mapPd s p _ hP h fun d _ => ?_
    unfold Drive.aim Drive.serve Drive.openValve
    cases d.valve <;> simp <;> split <;> simp
  have hc : ∀ u, Keeps P u → Keeps P (u.mapPd p fun d =>
      { d.quiet with raiseRequest := false, pendingBlock := none, role := none,
                     claimSeq := if d.claimStage = .standing || d.claimStage = .cancelled then d.claimSeq else none }) :=
    fun u hu => keeps_mapPd u p _ hP hu fun _ hd => hd
  unfold State.dropDrive
  dsimp only
  split
  · exact keeps_sendBlocked _ _ hP (hc _ (keeps_driveTo _ _ _ _ hP (keeps_endClaimByBlock _ _ hP ht)))
  all_goals first
    | exact ht
    | exact keeps_housedAlready _ _ hP (keeps_sendDrive _ _ _ _ hP (keeps_mapPd _ _ _ hP
        (hc _ (keeps_driveTo _ _ _ _ hP (keeps_endClaimByBlock _ _ hP ht))) fun _ hd => hd))

@[simp] theorem keeps_refusedRole (s : State) (r : Option Role) (hP : Closed P) (h : Keeps P s) :
    Keeps P (s.refusedRole r) := by
  unfold State.refusedRole
  try dsimp only
  repeat' split
  all_goals simp (maxDischargeDepth := 40) +contextual [hP, h]

@[simp] theorem keeps_refuseStanding (s : State) (p : Pan) (reason : Byte) (hP : Closed P) (h : Keeps P s) :
    Keeps P (s.refuseStanding p reason) := by
  unfold State.refuseStanding
  try dsimp only
  repeat' split
  all_goals simp (maxDischargeDepth := 40) +contextual [hP, h]

@[simp] theorem keeps_refuse (s : State) (p : Pan) (seq reason : Byte) (hP : Closed P) (h : Keeps P s) :
    Keeps P (s.refuse p seq reason) := by
  unfold State.refuse
  try dsimp only
  repeat' split
  all_goals simp (maxDischargeDepth := 40) +contextual [hP, h]

@[simp] theorem keeps_enterRaising (s : State) (p : Pan) (hP : Closed P) (h : Keeps P s) :
    Keeps P (s.enterRaising p) := by
  unfold State.enterRaising
  try dsimp only
  repeat' split
  all_goals simp (maxDischargeDepth := 40) +contextual [hP, h]

@[simp] theorem keeps_goAhead (s : State) (p : Pan) (seq : Byte) (hP : Closed P) (h : Keeps P s) :
    Keeps P (s.goAhead p seq) := by
  unfold State.goAhead
  try dsimp only
  repeat' split
  all_goals simp (maxDischargeDepth := 40) +contextual [hP, h]

@[simp] theorem keeps_claimEcho (s : State) (p : Pan) (seq : Byte) (reason : Option ObjectReason) (hP : Closed P) (h : Keeps P s) :
    Keeps P (s.claimEcho p seq reason) := by
  unfold State.claimEcho
  try dsimp only
  repeat' split
  all_goals simp (maxDischargeDepth := 40) +contextual [hP, h]

@[simp] theorem keeps_claimFollows (s : State) (p : Pan) (hP : Closed P) (h : Keeps P s) :
    Keeps P (s.claimFollows p) := by
  unfold State.claimFollows
  try dsimp only
  repeat' split
  all_goals simp (maxDischargeDepth := 40) +contextual [hP, h]

@[simp] theorem keeps_claimEnds (s : State) (p : Pan) (hP : Closed P) (h : Keeps P s) :
    Keeps P (s.claimEnds p) := by
  unfold State.claimEnds
  try dsimp only
  repeat' split
  all_goals simp (maxDischargeDepth := 40) +contextual [hP, h]

@[simp] theorem keeps_refreshShadows (s : State) (hP : Closed P) (h : Keeps P s) :
    Keeps P s.refreshShadows := by
  unfold State.refreshShadows
  try dsimp only
  repeat' split
  all_goals simp (maxDischargeDepth := 40) +contextual [hP, h]

@[simp] theorem keeps_beginPeriod (s : State) (p : Pan) (start : Moment) (hP : Closed P) (h : Keeps P s) :
    Keeps P (s.beginPeriod p start) :=
  keeps_mapPd_decide s p
    (fun d => { d with active := s.shadowSetpoint d.role, shadow := s.shadowSetpoint d.role
                       regulationTimer := some (start + 50000), reading := none })
    (fun d => regulation d.reading (s.shadowSetpoint d.role)) _ _ hP h fun _ => ⟨rfl, rfl⟩

@[simp] theorem keeps_contact (s : State) (p : Pan) (force : Nat) (hP : Closed P) (h : Keeps P s) :
    Keeps P (s.contact p force) := by
  unfold State.contact
  try dsimp only
  repeat' split
  all_goals simp (maxDischargeDepth := 40) +contextual [hP, h, Drive.quiet]

@[simp] theorem keeps_validReading (s : State) (p : Pan) (force : Nat) (hP : Closed P) (h : Keeps P s) :
    Keeps P (s.validReading p force) := by
  unfold State.validReading
  try dsimp only
  repeat' split
  all_goals simp (maxDischargeDepth := 40) +contextual [hP, h]

@[simp] theorem keeps_invalidReading (s : State) (p : Pan) (hP : Closed P) (h : Keeps P s) :
    Keeps P (s.invalidReading p) := by
  unfold State.invalidReading
  try dsimp only
  repeat' split
  all_goals simp (maxDischargeDepth := 40) +contextual [hP, h]

@[simp] theorem keeps_takeForce (s : State) (p : Pan) (c : Capture) (hP : Closed P) (h : Keeps P s) :
    Keeps P (s.takeForce p c) := by
  unfold State.takeForce
  try dsimp only
  repeat' split
  all_goals simp (maxDischargeDepth := 40) +contextual [hP, h]

@[simp] theorem keeps_endCancelled (s : State) (p : Pan) (hP : Closed P) (h : Keeps P s) :
    Keeps P (s.endCancelled p) := by
  unfold State.endCancelled
  try dsimp only
  repeat' split
  all_goals simp (maxDischargeDepth := 40) +contextual [hP, h]

@[simp] theorem keeps_requeueOutstanding (s : State) (p : Pan) (hP : Closed P) (h : Keeps P s) :
    Keeps P (s.requeueOutstanding p) := by
  unfold State.requeueOutstanding
  try dsimp only
  repeat' split
  all_goals simp (maxDischargeDepth := 40) +contextual [hP, h]

/-! ## Switchgear -/

@[simp] theorem keeps_gearFault (s : State) (k : FaultKind) (d : FaultDetail) (p : Option Pan) (hP : Closed P) (h : Keeps P s) :
    Keeps P (s.gearFault k d p) := by
  unfold State.gearFault
  try dsimp only
  repeat' split
  all_goals simp (maxDischargeDepth := 40) +contextual [hP, h]

@[simp] theorem keeps_answerCu (s : State) (b : Bool) (hP : Closed P) (h : Keeps P s) :
    Keeps P (s.answerCu b) := by
  unfold State.answerCu
  try dsimp only
  repeat' split
  all_goals simp (maxDischargeDepth := 40) +contextual [hP, h]

@[simp] theorem keeps_startLeg (s : State) (dest : SelPos) (hP : Closed P) (h : Keeps P s) :
    Keeps P (s.startLeg dest) := by
  unfold State.startLeg
  try dsimp only
  repeat' split
  all_goals simp (maxDischargeDepth := 40) +contextual [hP, h]

@[simp] theorem keeps_requestSelector (s : State) (dest : SelPos) (hP : Closed P) (h : Keeps P s) :
    Keeps P (s.requestSelector dest) := by
  unfold State.requestSelector
  try dsimp only
  repeat' split
  all_goals simp (maxDischargeDepth := 40) +contextual [hP, h]

@[simp] theorem keeps_selectorArrival (s : State) (hP : Closed P) (h : Keeps P s) :
    Keeps P s.selectorArrival := by
  unfold State.selectorArrival
  try dsimp only
  repeat' split
  all_goals simp (maxDischargeDepth := 40) +contextual [hP, h]

@[simp] theorem keeps_selectorWatch (s : State) (hP : Closed P) (h : Keeps P s) :
    Keeps P s.selectorWatch := by
  unfold State.selectorWatch
  try dsimp only
  repeat' split
  all_goals simp (maxDischargeDepth := 40) +contextual [hP, h]

@[simp] theorem keeps_stopLeg (s : State) (hP : Closed P) (h : Keeps P s) :
    Keeps P s.stopLeg := by
  unfold State.stopLeg
  try dsimp only
  repeat' split
  all_goals simp (maxDischargeDepth := 40) +contextual [hP, h]

@[simp] theorem keeps_mapIso (s : State) (p : Pan) (f : Isolator → Isolator) (hP : Closed P) (h : Keeps P s) :
    Keeps P (s.mapIso p f) := by
  unfold State.mapIso
  try dsimp only
  repeat' split
  all_goals simp (maxDischargeDepth := 40) +contextual [hP, h]

@[simp] theorem keeps_serveIso (s : State) (p : Pan) (hP : Closed P) (h : Keeps P s) :
    Keeps P (s.serveIso p) := by
  unfold State.serveIso
  try dsimp only
  repeat' split
  all_goals simp (maxDischargeDepth := 40) +contextual [hP, h]

@[simp] theorem keeps_requestIso (s : State) (p : Pan) (pos : IsoPos) (byIu : Bool) (hP : Closed P) (h : Keeps P s) :
    Keeps P (s.requestIso p pos byIu) := by
  unfold State.requestIso
  try dsimp only
  repeat' split
  all_goals simp (maxDischargeDepth := 40) +contextual [hP, h]

@[simp] theorem keeps_isoArrival (s : State) (p : Pan) (hP : Closed P) (h : Keeps P s) :
    Keeps P (s.isoArrival p) := by
  unfold State.isoArrival
  try dsimp only
  repeat' split
  all_goals simp (maxDischargeDepth := 40) +contextual [hP, h]

@[simp] theorem keeps_isoWatch (s : State) (p : Pan) (hP : Closed P) (h : Keeps P s) :
    Keeps P (s.isoWatch p) := by
  unfold State.isoWatch
  try dsimp only
  repeat' split
  all_goals simp (maxDischargeDepth := 40) +contextual [hP, h]

@[simp] theorem keeps_isoFails (s : State) (p : Pan) (hP : Closed P) (h : Keeps P s) :
    Keeps P (s.isoFails p) := by
  unfold State.isoFails
  try dsimp only
  repeat' split
  all_goals simp (maxDischargeDepth := 40) +contextual [hP, h]

@[simp] theorem keeps_supervise (s : State) (hP : Closed P) (h : Keeps P s) :
    Keeps P s.supervise := by
  unfold State.supervise
  try dsimp only
  repeat' split
  all_goals simp (maxDischargeDepth := 40) +contextual [hP, h]

@[simp] theorem keeps_watchDeadLine (s : State) (hP : Closed P) (h : Keeps P s) :
    Keeps P s.watchDeadLine := by
  unfold State.watchDeadLine
  try dsimp only
  repeat' split
  all_goals simp (maxDischargeDepth := 40) +contextual [hP, h]

/-! ## Sections -/

@[simp] theorem keeps_removeSections (s : State) (p : SectionEntry → Bool) (hP : Closed P) (h : Keeps P s) :
    Keeps P (s.removeSections p) := by
  unfold State.removeSections
  exact keeps_foldl _ _ (fun t e ht => keeps_withdraw t _ hP ht) _ (by simp [hP, h, List.length_filter_le])

@[simp] theorem keeps_flushSections (s : State) (hP : Closed P) (h : Keeps P s) :
    Keeps P s.flushSections := by
  unfold State.flushSections
  try dsimp only
  repeat' split
  all_goals simp (maxDischargeDepth := 40) +contextual [hP, h]

@[simp] theorem keeps_rewriteSections (s : State) (hP : Closed P) (h : Keeps P s) :
    Keeps P s.rewriteSections := by
  unfold State.rewriteSections
  try dsimp only
  repeat' split
  all_goals simp (maxDischargeDepth := 40) +contextual [hP, h]

@[simp] theorem keeps_intake (s : State) (e : SectionEntry) (hP : Closed P) (h : Keeps P s) :
    Keeps P (s.intake e) := by
  unfold State.intake
  try dsimp only
  repeat' split
  all_goals simp (maxDischargeDepth := 40) +contextual [hP, h]

@[simp] theorem keeps_applySection (s : State) (o i k tg : Byte) (distance length : Word16) (hP : Closed P) (h : Keeps P s) :
    Keeps P (s.applySection o i k tg distance length) := by
  unfold State.applySection
  try dsimp only
  repeat' split
  all_goals simp (maxDischargeDepth := 40) +contextual [hP, h]

@[simp] theorem keeps_passSections (s : State) (hP : Closed P) (h : Keeps P s) :
    Keeps P s.passSections := by
  unfold State.passSections
  try dsimp only
  repeat' split
  all_goals simp (maxDischargeDepth := 40) +contextual [hP, h]

@[simp] theorem keeps_holdNeutral (s : State) (hP : Closed P) (h : Keeps P s) :
    Keeps P s.holdNeutral := by
  unfold State.holdNeutral
  try dsimp only
  repeat' split
  all_goals simp (maxDischargeDepth := 40) +contextual [hP, h]

@[simp] theorem keeps_neutralTest (s : State) (p : Pan) (hP : Closed P) (h : Keeps P s) :
    Keeps P (s.neutralTest p) := by
  unfold State.neutralTest
  try dsimp only
  repeat' split
  all_goals simp (maxDischargeDepth := 40) +contextual [hP, h]

@[simp] theorem keeps_holdRaises (s : State) (hP : Closed P) (h : Keeps P s) :
    Keeps P s.holdRaises := by
  unfold State.holdRaises
  try dsimp only
  repeat' split
  all_goals simp (maxDischargeDepth := 40) +contextual [hP, h]

@[simp] theorem keeps_markProposed (s : State) (k : SectionKey) (b : Bool) (hP : Closed P) (h : Keeps P s) :
    Keeps P (s.markProposed k b) := by
  unfold State.markProposed
  try dsimp only
  repeat' split
  all_goals simp (maxDischargeDepth := 40) +contextual [hP, h]

@[simp] theorem keeps_autoPropose (s : State) (hP : Closed P) (h : Keeps P s) :
    Keeps P s.autoPropose := by
  unfold State.autoPropose
  try dsimp only
  repeat' split
  all_goals simp (maxDischargeDepth := 40) +contextual [hP, h]

@[simp] theorem keeps_testProposal (s : State) (hP : Closed P) (h : Keeps P s) :
    Keeps P s.testProposal := by
  unfold State.testProposal
  try dsimp only
  repeat' split
  all_goals simp (maxDischargeDepth := 40) +contextual [hP, h]

@[simp] theorem keeps_roundMoves (s : State) (hP : Closed P) (h : Keeps P s) :
    Keeps P s.roundMoves := by
  unfold State.roundMoves
  try dsimp only
  repeat' split
  all_goals simp (maxDischargeDepth := 40) +contextual [hP, h]

@[simp] theorem keeps_sectionsAtOpening (s : State) (k : Option SectionKey) (hP : Closed P) (h : Keeps P s) :
    Keeps P (s.sectionsAtOpening k) := by
  unfold State.sectionsAtOpening
  exact keeps_roundMoves _ hP (keeps_foldl _ _ (fun t e ht => by repeat' split
                                                                 all_goals simp [hP, ht]) s h)

/-! ## Scraper -/

@[simp] theorem keeps_refreshIce (s : State) (hP : Closed P) (h : Keeps P s) :
    Keeps P s.refreshIce := by
  unfold State.refreshIce
  try dsimp only
  repeat' split
  all_goals simp (maxDischargeDepth := 40) +contextual [hP, h]

@[simp] theorem keeps_observe (s : State) (o : Ice) (hP : Closed P) (h : Keeps P s) :
    Keeps P (s.observe o) := by
  unfold State.observe
  try dsimp only
  repeat' split
  all_goals simp (maxDischargeDepth := 40) +contextual [hP, h]

@[simp] theorem keeps_observeWindow (s : State) (hP : Closed P) (h : Keeps P s) :
    Keeps P s.observeWindow := by
  unfold State.observeWindow
  try dsimp only
  repeat' split
  all_goals simp (maxDischargeDepth := 40) +contextual [hP, h]

@[simp] theorem keeps_pushWindows (s : State) (r : Pair ArcResult) (hP : Closed P) (h : Keeps P s) :
    Keeps P (s.pushWindows r) := by
  refine keeps_mapIu s _ hP h fun i hi => ⟨?_, ?_⟩
  · dsimp only
    split
    · exact pushCount_length _ _ hi.1
    · exact hi.1
  · dsimp only
    split
    · exact pushCount_length _ _ hi.2
    · exact hi.2

@[simp] theorem keeps_arcWindowEnd (s : State) (r : Pair ArcResult) (hP : Closed P) (h : Keeps P s) :
    Keeps P (s.arcWindowEnd r) := by
  unfold State.arcWindowEnd
  try dsimp only
  repeat' split
  all_goals simp (maxDischargeDepth := 40) +contextual [hP, h]

@[simp] theorem keeps_startScraper (s : State) (hP : Closed P) (h : Keeps P s) :
    Keeps P s.startScraper := by
  unfold State.startScraper
  try dsimp only
  repeat' split
  all_goals simp (maxDischargeDepth := 40) +contextual [hP, h]

@[simp] theorem keeps_closeScraper (s : State) (p : Pan) (hP : Closed P) (h : Keeps P s) :
    Keeps P (s.closeScraper p) := by
  unfold State.closeScraper
  try dsimp only
  repeat' split
  all_goals simp (maxDischargeDepth := 40) +contextual [hP, h]

@[simp] theorem keeps_endScraper (s : State) (hP : Closed P) (h : Keeps P s) :
    Keeps P s.endScraper := by
  unfold State.endScraper
  try dsimp only
  repeat' split
  all_goals simp (maxDischargeDepth := 40) +contextual [hP, h]

@[simp] theorem keeps_scraperMeetsRound (s : State) (hP : Closed P) (h : Keeps P s) :
    Keeps P s.scraperMeetsRound := by
  unfold State.scraperMeetsRound
  try dsimp only
  repeat' split
  all_goals simp (maxDischargeDepth := 40) +contextual [hP, h]

@[simp] theorem keeps_askScraper (s : State) (hP : Closed P) (h : Keeps P s) :
    Keeps P s.askScraper := by
  unfold State.askScraper
  try dsimp only
  repeat' split
  all_goals simp (maxDischargeDepth := 40) +contextual [hP, h]

@[simp] theorem keeps_followScraper (s : State) (hP : Closed P) (h : Keeps P s) :
    Keeps P s.followScraper := by
  unfold State.followScraper
  try dsimp only
  repeat' split
  all_goals simp (maxDischargeDepth := 40) +contextual [hP, h]

@[simp] theorem keeps_testScraper (s : State) (hP : Closed P) (h : Keeps P s) :
    Keeps P s.testScraper := by
  unfold State.testScraper
  try dsimp only
  repeat' split
  all_goals simp (maxDischargeDepth := 40) +contextual [hP, h]

@[simp] theorem keeps_scraperReopens (s : State) (p : Pan) (hP : Closed P) (h : Keeps P s) :
    Keeps P (s.scraperReopens p) := by
  unfold State.scraperReopens
  try dsimp only
  repeat' split
  all_goals simp (maxDischargeDepth := 40) +contextual [hP, h]

@[simp] theorem keeps_changeRegime (s : State) (system : Option Supply) (band : Fin 4) (direction : Direction) (hP : Closed P) (h : Keeps P s) :
    Keeps P (s.changeRegime system band direction) := by
  unfold State.changeRegime
  try dsimp only
  repeat' split
  all_goals simp (maxDischargeDepth := 40) +contextual [hP, h]

@[simp] theorem keeps_setSystem (s : State) (system : Option Supply) (hP : Closed P) (h : Keeps P s) :
    Keeps P (s.setSystem system) := by
  unfold State.setSystem
  try dsimp only
  repeat' split
  all_goals simp (maxDischargeDepth := 40) +contextual [hP, h]

/-! ## Heat -/

@[simp] theorem keeps_followDemand (s : State) (hP : Closed P) (h : Keeps P s) :
    Keeps P s.followDemand := by
  unfold State.followDemand
  try dsimp only
  repeat' split
  all_goals simp (maxDischargeDepth := 40) +contextual [hP, h]

@[simp] theorem keeps_followUsable (s : State) (hP : Closed P) (h : Keeps P s) :
    Keeps P s.followUsable := by
  unfold State.followUsable
  try dsimp only
  repeat' split
  all_goals simp (maxDischargeDepth := 40) +contextual [hP, h]

@[simp] theorem keeps_setGrant (s : State) (n units : Nat) (hP : Closed P) (h : Keeps P s) :
    Keeps P (s.setGrant n units) := by
  unfold State.setGrant
  try dsimp only
  repeat' split
  all_goals simp (maxDischargeDepth := 40) +contextual [hP, h]

@[simp] theorem keeps_mapHeater (s : State) (p : Pan) (f : Heater → Heater) (hP : Closed P) (h : Keeps P s) :
    Keeps P (s.mapHeater p f) := by
  unfold State.mapHeater
  try dsimp only
  repeat' split
  all_goals simp (maxDischargeDepth := 40) +contextual [hP, h]

@[simp] theorem keeps_refreshDuties (s : State) (hP : Closed P) (h : Keeps P s) :
    Keeps P s.refreshDuties := by
  unfold State.refreshDuties
  try dsimp only
  repeat' split
  all_goals simp (maxDischargeDepth := 40) +contextual [hP, h]

@[simp] theorem keeps_takeFails (s : State) (hP : Closed P) (h : Keeps P s) :
    Keeps P s.takeFails := by
  unfold State.takeFails
  try dsimp only
  repeat' split
  all_goals simp (maxDischargeDepth := 40) +contextual [hP, h]

@[simp] theorem keeps_askHeat (s : State) (hP : Closed P) (h : Keeps P s) :
    Keeps P s.askHeat := by
  unfold State.askHeat
  try dsimp only
  repeat' split
  all_goals simp (maxDischargeDepth := 40) +contextual [hP, h]

@[simp] theorem keeps_testHeat (s : State) (hP : Closed P) (h : Keeps P s) :
    Keeps P s.testHeat := by
  unfold State.testHeat
  try dsimp only
  repeat' split
  all_goals simp (maxDischargeDepth := 40) +contextual [hP, h]

@[simp] theorem keeps_refuseHeat (s : State) (reason : Byte) (hP : Closed P) (h : Keeps P s) :
    Keeps P (s.refuseHeat reason) := by
  unfold State.refuseHeat
  try dsimp only
  repeat' split
  all_goals simp (maxDischargeDepth := 40) +contextual [hP, h]

@[simp] theorem keeps_giveHeat (s : State) (units : Nat) (hP : Closed P) (h : Keeps P s) :
    Keeps P (s.giveHeat units) := by
  unfold State.giveHeat
  try dsimp only
  repeat' split
  all_goals simp (maxDischargeDepth := 40) +contextual [hP, h]

@[simp] theorem keeps_requeueGive (s : State) (hP : Closed P) (h : Keeps P s) :
    Keeps P s.requeueGive := by
  unfold State.requeueGive
  try dsimp only
  repeat' split
  all_goals simp (maxDischargeDepth := 40) +contextual [hP, h]

@[simp] theorem keeps_beginHeaterPeriod (s : State) (p : Pan) (start : Moment) (thermal : Bool) (hP : Closed P) (h : Keeps P s) :
    Keeps P (s.beginHeaterPeriod p start thermal) := by
  unfold State.beginHeaterPeriod
  try dsimp only
  repeat' split
  all_goals simp (maxDischargeDepth := 40) +contextual [hP, h]

@[simp] theorem keeps_tripHeater (s : State) (p : Pan) (hP : Closed P) (h : Keeps P s) :
    Keeps P (s.tripHeater p) := by
  unfold State.tripHeater
  try dsimp only
  repeat' split
  all_goals simp (maxDischargeDepth := 40) +contextual [hP, h]

/-! ## Round -/

@[simp] theorem keeps_phaseTo (s : State) (ph : RoundPhase) (hP : Closed P) (h : Keeps P s) :
    Keeps P (s.phaseTo ph) := by
  unfold State.phaseTo
  try dsimp only
  repeat' split
  all_goals simp (maxDischargeDepth := 40) +contextual [hP, h]

@[simp] theorem keeps_enterReady (s : State) (hP : Closed P) (h : Keeps P s) :
    Keeps P s.enterReady := by
  unfold State.enterReady
  try dsimp only
  repeat' split
  all_goals simp (maxDischargeDepth := 40) +contextual [hP, h]

@[simp] theorem keeps_enterSwitch (s : State) (hP : Closed P) (h : Keeps P s) :
    Keeps P s.enterSwitch := by
  unfold State.enterSwitch
  try dsimp only
  repeat' split
  all_goals simp (maxDischargeDepth := 40) +contextual [hP, h]

@[simp] theorem keeps_enterLower (s : State) (hP : Closed P) (h : Keeps P s) :
    Keeps P s.enterLower := by
  unfold State.enterLower
  try dsimp only
  repeat' split
  all_goals simp (maxDischargeDepth := 40) +contextual [hP, h]

@[simp] theorem keeps_testLower (s : State) (hP : Closed P) (h : Keeps P s) :
    Keeps P s.testLower := by
  unfold State.testLower
  try dsimp only
  repeat' split
  all_goals simp (maxDischargeDepth := 40) +contextual [hP, h]

@[simp] theorem keeps_dropRaises (s : State) (hP : Closed P) (h : Keeps P s) :
    Keeps P s.dropRaises := by
  unfold State.dropRaises
  try dsimp only
  repeat' split
  all_goals simp (maxDischargeDepth := 40) +contextual [hP, h]

@[simp] theorem keeps_enterGather (s : State) (hP : Closed P) (h : Keeps P s) :
    Keeps P s.enterGather := by
  unfold State.enterGather
  try dsimp only
  repeat' split
  all_goals simp (maxDischargeDepth := 40) +contextual [hP, h]

@[simp] theorem keeps_openRound (s : State) (n : Byte) (target : Supply) (k : RoundKey) (a b : Option Word32) (hP : Closed P) (h : Keeps P s) :
    Keeps P (s.openRound n target k a b) := by
  unfold State.openRound
  try dsimp only
  repeat' split
  all_goals simp (maxDischargeDepth := 40) +contextual [hP, h]

@[simp] theorem keeps_probesToCollectors (s : State) (hP : Closed P) (h : Keeps P s) : Keeps P s.probesToCollectors := by
  unfold State.probesToCollectors
  refine keeps_mapPd _ _ _ hP (keeps_mapPd _ _ _ hP (keeps_mapRu _ _ hP h fun _ => Nat.le_refl _) fun d hd => ?_)
    fun d hd => ?_
  all_goals
    dsimp only
    split
    · exact hd
    · exact hd

@[simp] theorem keeps_dropProbe (s : State) (hP : Closed P) (h : Keeps P s) :
    Keeps P s.dropProbe := by
  unfold State.dropProbe
  try dsimp only
  repeat' split
  all_goals simp (maxDischargeDepth := 40) +contextual [hP, h]

@[simp] theorem keeps_closeRecord (s : State) (o : RoundOutcome) (reason : Option CloseReason) (hP : Closed P) (h : Keeps P s) :
    Keeps P (s.closeRecord o reason) := by
  unfold State.closeRecord
  try dsimp only
  repeat' split
  all_goals simp (maxDischargeDepth := 40) +contextual [hP, h]

@[simp] theorem keeps_announceClose (s : State) (o : RoundOutcome) (reason : Option CloseReason) (hP : Closed P) (h : Keeps P s) :
    Keeps P (s.announceClose o reason) := by
  unfold State.announceClose
  try dsimp only
  repeat' split
  all_goals simp (maxDischargeDepth := 40) +contextual [hP, h]

@[simp] theorem keeps_withdrawCloses (s : State) (hP : Closed P) (h : Keeps P s) :
    Keeps P s.withdrawCloses := by
  unfold State.withdrawCloses
  split
  all_goals simp (maxDischargeDepth := 40) +contextual [hP, h]

@[simp] theorem keeps_closeDone (s : State) (hP : Closed P) (h : Keeps P s) :
    Keeps P s.closeDone := by
  unfold State.closeDone
  try dsimp only
  repeat' split
  all_goals simp (maxDischargeDepth := 40) +contextual [hP, h]

@[simp] theorem keeps_closeAborted (s : State) (reason : CloseReason) (hP : Closed P) (h : Keeps P s) :
    Keeps P (s.closeAborted reason) := by
  unfold State.closeAborted
  try dsimp only
  repeat' split
  all_goals simp (maxDischargeDepth := 40) +contextual [hP, h]

@[simp] theorem keeps_closeLocal (s : State) (hP : Closed P) (h : Keeps P s) :
    Keeps P s.closeLocal := by
  unfold State.closeLocal
  try dsimp only
  repeat' split
  all_goals simp (maxDischargeDepth := 40) +contextual [hP, h]

@[simp] theorem keeps_enterCatchUp (s : State) (hP : Closed P) (h : Keeps P s) :
    Keeps P s.enterCatchUp := by
  unfold State.enterCatchUp
  try dsimp only
  repeat' split
  all_goals simp (maxDischargeDepth := 40) +contextual [hP, h]

@[simp] theorem keeps_roundDone (s : State) (hP : Closed P) (h : Keeps P s) :
    Keeps P s.roundDone := by
  unfold State.roundDone
  try dsimp only
  repeat' split
  all_goals simp (maxDischargeDepth := 40) +contextual [hP, h]

@[simp] theorem keeps_adopt (s : State) (n64 : Nat) (hP : Closed P) (h : Keeps P s) :
    Keeps P (s.adopt n64) := by
  unfold State.adopt
  try dsimp only
  repeat' split
  all_goals simp (maxDischargeDepth := 40) +contextual [hP, h]

@[simp] theorem keeps_completeAdoption (s : State) (n : Byte) (target : Supply) (k : RoundKey) (a b : Option Word32) (hP : Closed P) (h : Keeps P s) :
    Keeps P (s.completeAdoption n target k a b) := by
  unfold State.completeAdoption
  try dsimp only
  repeat' split
  all_goals simp (maxDischargeDepth := 40) +contextual [hP, h]

@[simp] theorem keeps_applyPropose (s : State) (origin : Nat) (n tg o i : Byte) (d len : Word16) (hP : Closed P) (h : Keeps P s) :
    Keeps P (s.applyPropose origin n tg o i d len) := by
  unfold State.applyPropose
  try dsimp only
  repeat' split
  all_goals simp (maxDischargeDepth := 40) +contextual [hP, h]

theorem keeps_meetRound (s u : State) (n : Byte) (target : Option Supply) (hP : Closed P) (h : Keeps P s)
    (hu : s.meetRound n target = some u) : Keeps P u := by
  unfold State.meetRound at hu
  dsimp only at hu
  repeat' split at hu
  all_goals simp only [Option.some.injEq, reduceCtorEq] at hu
  all_goals subst hu
  all_goals simp (maxDischargeDepth := 40) [hP, h]

@[simp] theorem keeps_applyReady (s : State) (origin : Nat) (n tg : Byte) (hP : Closed P) (h : Keeps P s) :
    Keeps P (s.applyReady origin n tg) := by
  unfold State.applyReady
  split
  · exact h
  · split
    · rename_i t ht
      exact keeps_addReady _ _ hP (keeps_meetRound _ _ _ _ hP h ht)
    · exact h

@[simp] theorem keeps_applyProbe (s : State) (n tg m : Byte) (hP : Closed P) (h : Keeps P s) :
    Keeps P (s.applyProbe n tg m) := by
  unfold State.applyProbe
  split
  · split
    · exact h
    · split
      · rename_i t ht
        have hk := keeps_meetRound _ _ _ _ hP h ht
        repeat' split
        all_goals simp (maxDischargeDepth := 40) [hP, hk]
      · exact h
  · exact h

@[simp] theorem keeps_applyAbort (s : State) (n tg r : Byte) (hP : Closed P) (h : Keeps P s) :
    Keeps P (s.applyAbort n tg r) := by
  unfold State.applyAbort
  split
  · split
    · exact h
    · split
      · rename_i t ht
        have hk := keeps_meetRound _ _ _ _ hP h ht
        repeat' split
        all_goals simp (maxDischargeDepth := 40) [hP, hk]
      · exact h
  · exact h

@[simp] theorem keeps_takeRoundByte (s : State) (origin : Nat) (present : Bool) (round : Byte) (system : Option Supply) (hP : Closed P) (h : Keeps P s) :
    Keeps P (s.takeRoundByte origin present round system) := by
  unfold State.takeRoundByte
  try dsimp only
  repeat' split
  all_goals simp (maxDischargeDepth := 40) +contextual [hP, h]

@[simp] theorem keeps_sendClose (s : State) (n : Notice) (hP : Closed P) (h : Keeps P s) :
    Keeps P (s.sendClose n) := by
  unfold State.sendClose
  try dsimp only
  repeat' split
  all_goals simp (maxDischargeDepth := 40) +contextual [hP, h]

@[simp] theorem keeps_reportProbe (s : State) (hP : Closed P) (h : Keeps P s) :
    Keeps P s.reportProbe := by
  unfold State.reportProbe
  try dsimp only
  repeat' split
  all_goals simp (maxDischargeDepth := 40) +contextual [hP, h]

@[simp] theorem keeps_judgeProbe (s : State) (hP : Closed P) (h : Keeps P s) :
    Keeps P s.judgeProbe := by
  unfold State.judgeProbe
  try dsimp only
  repeat' split
  all_goals simp (maxDischargeDepth := 40) +contextual [hP, h]

@[simp] theorem keeps_askProbe (s : State) (hP : Closed P) (h : Keeps P s) :
    Keeps P s.askProbe := by
  unfold State.askProbe
  try dsimp only
  repeat' split
  all_goals simp (maxDischargeDepth := 40) +contextual [hP, h]

@[simp] theorem keeps_testProbe (s : State) (hP : Closed P) (h : Keeps P s) :
    Keeps P s.testProbe := by
  unfold State.testProbe
  try dsimp only
  repeat' split
  all_goals simp (maxDischargeDepth := 40) +contextual [hP, h]

@[simp] theorem keeps_followProbeEntry (s : State) (hP : Closed P) (h : Keeps P s) :
    Keeps P s.followProbeEntry := by
  unfold State.followProbeEntry
  try dsimp only
  repeat' split
  all_goals simp (maxDischargeDepth := 40) +contextual [hP, h]

@[simp] theorem keeps_followProbeWait (s : State) (hP : Closed P) (h : Keeps P s) :
    Keeps P s.followProbeWait := by
  unfold State.followProbeWait
  try dsimp only
  repeat' split
  all_goals simp (maxDischargeDepth := 40) +contextual [hP, h]

@[simp] theorem keeps_takeAnswer (s : State) (hP : Closed P) (h : Keeps P s) :
    Keeps P s.takeAnswer := by
  unfold State.takeAnswer
  try dsimp only
  repeat' split
  all_goals simp (maxDischargeDepth := 40) +contextual [hP, h]

@[simp] theorem keeps_followPhase (s : State) (hP : Closed P) (h : Keeps P s) :
    Keeps P s.followPhase := by
  unfold State.followPhase
  try dsimp only
  repeat' split
  all_goals simp (maxDischargeDepth := 40) +contextual [hP, h]

/-! ## Contest -/

@[simp] theorem keeps_object (s : State) (target : Target) (r : Option ObjectReason) (hP : Closed P) (h : Keeps P s) :
    Keeps P (s.object target r) := by
  unfold State.object
  try dsimp only
  repeat' split
  all_goals simp (maxDischargeDepth := 40) +contextual [hP, h]

@[simp] theorem contestFree_mapEntry (s : State) (n : Nat) (p : Pan) (f : Entry → Entry) :
    (s.mapEntry n p f).contestFree = s.contestFree := rfl

@[simp] theorem keeps_applyClaim (s : State) (n : Nat) (seq pan role : Byte) (hP : Closed P) (h : Keeps P s) :
    Keeps P (s.applyClaim n seq pan role) := by
  unfold State.applyClaim
  dsimp only
  repeat' split
  all_goals simp_all (maxDischargeDepth := 40)

@[simp] theorem keeps_applyRegime (s : State) (n : Nat) (seq band direction : Byte) (hP : Closed P) (h : Keeps P s) :
    Keeps P (s.applyRegime n seq band direction) := by
  unfold State.applyRegime
  dsimp only
  repeat' split
  all_goals simp_all (maxDischargeDepth := 40)

@[simp] theorem keeps_applyHeatTake (s : State) (n : Nat) (seq units : Byte) (hP : Closed P) (h : Keeps P s) :
    Keeps P (s.applyHeatTake n seq units) := by
  unfold State.applyHeatTake
  dsimp only
  repeat' split
  all_goals simp_all (maxDischargeDepth := 40)

@[simp] theorem keeps_objectClaim (s : State) (target : Target) (reason : Byte) (hP : Closed P) (h : Keeps P s) :
    Keeps P (s.objectClaim target reason) := by
  unfold State.objectClaim
  try dsimp only
  repeat' split
  all_goals simp (maxDischargeDepth := 40) +contextual [hP, h]

@[simp] theorem keeps_closeLaterRegimes (s : State) (target : Target) (hP : Closed P) (h : Keeps P s) :
    Keeps P (s.closeLaterRegimes target) := by
  unfold State.closeLaterRegimes
  exact keeps_foldl _ _ (fun t c ht => keeps_closeContest t c.target hP ht) s h

@[simp] theorem keeps_undo (s : State) (target : Target) (reason : Byte) (hP : Closed P) (h : Keeps P s) :
    Keeps P (s.undo target reason) := by
  unfold State.undo
  try dsimp only
  repeat' split
  all_goals simp (maxDischargeDepth := 40) +contextual [hP, h]

@[simp] theorem keeps_applyObject (s : State) (station seq kind reason : Byte) (hP : Closed P) (h : Keeps P s) :
    Keeps P (s.applyObject station seq kind reason) := by
  unfold State.applyObject
  try dsimp only
  repeat' split
  all_goals simp (maxDischargeDepth := 40) +contextual [hP, h]

/-! ## Report -/

@[simp] theorem keeps_applyField (s : State) (n : Nat) (p : Pan) (w : Word16) (hP : Closed P) (h : Keeps P s) :
    Keeps P (s.applyField n p w) := by
  unfold State.applyField
  try dsimp only
  repeat' split
  all_goals simp (maxDischargeDepth := 40) +contextual [hP, h]

@[simp] theorem keeps_applyFields (s : State) (n : Nat) (r : Report) (hP : Closed P) (h : Keeps P s) :
    Keeps P (s.applyFields n r) := by
  unfold State.applyFields
  try dsimp only
  repeat' split
  all_goals simp (maxDischargeDepth := 40) +contextual [hP, h]

@[simp] theorem keeps_announcePeer (s : State) (n : Nat) (before : Peer) (hP : Closed P) (h : Keeps P s) :
    Keeps P (s.announcePeer n before) := by
  unfold State.announcePeer
  try dsimp only
  repeat' split
  all_goals simp (maxDischargeDepth := 40) +contextual [hP, h]

@[simp] theorem keeps_settleRegime (s : State) (r : Report) (hP : Closed P) (h : Keeps P s) :
    Keeps P (s.settleRegime r) := by
  unfold State.settleRegime
  try dsimp only
  repeat' split
  all_goals simp (maxDischargeDepth := 40) +contextual [hP, h]

@[simp] theorem keeps_applyPeerReport (s : State) (n : Nat) (present : Bool) (r : Report) (hP : Closed P) (h : Keeps P s) :
    Keeps P (s.applyPeerReport n present r) := by
  unfold State.applyPeerReport
  try dsimp only
  repeat' split
  all_goals simp (maxDischargeDepth := 40) +contextual [hP, h]

@[simp] theorem keeps_applyOwnReport (s : State) (r : Report) (hP : Closed P) (h : Keeps P s) :
    Keeps P (s.applyOwnReport r) := by
  unfold State.applyOwnReport
  try dsimp only
  repeat' split
  all_goals simp (maxDischargeDepth := 40) +contextual [hP, h]

@[simp] theorem keeps_applyReport (s : State) (n : Nat) (present : Bool) (r : Report) (hP : Closed P) (h : Keeps P s) :
    Keeps P (s.applyReport n present r) := by
  unfold State.applyReport
  try dsimp only
  repeat' split
  all_goals simp (maxDischargeDepth := 40) +contextual [hP, h]

/-! ## Port -/

@[simp] theorem keeps_resetRegime (s : State) (hP : Closed P) (h : Keeps P s) : Keeps P s.resetRegime := by
  have ht : Keeps P (s.mapRu fun _ => Ru.reset) := keeps_mapRu _ _ hP h fun _ => Nat.zero_le _
  unfold State.resetRegime
  dsimp only
  repeat' split
  all_goals simp (maxDischargeDepth := 40) [hP, ht]

@[simp] theorem keeps_scraperOffline (s : State) (hP : Closed P) (h : Keeps P s) :
    Keeps P s.scraperOffline := by
  unfold State.scraperOffline
  try dsimp only
  repeat' split
  all_goals simp (maxDischargeDepth := 40) +contextual [hP, h]

@[simp] theorem keeps_heatOffline (s : State) (hP : Closed P) (h : Keeps P s) :
    Keeps P s.heatOffline := by
  unfold State.heatOffline
  try dsimp only
  repeat' split
  all_goals simp (maxDischargeDepth := 40) +contextual [hP, h]

@[simp] theorem keeps_enterOffline (s : State) (hP : Closed P) (h : Keeps P s) : Keeps P s.enterOffline := by
  have ha : Keeps P ((s.mapRlp Rlp.offline).eachFitted fun p t => t.mapPd p Drive.offline) :=
    keeps_eachFitted _ _ (keeps_mapRlp _ _ hP h fun _ => Nat.zero_le _) fun p t ht => keeps_mapPd t p _ hP ht fun _ hd => hd
  unfold State.enterOffline
  simp (maxDischargeDepth := 40) [hP, ha]

@[simp] theorem keeps_emptyQueue (s : State) (hP : Closed P) (h : Keeps P s) :
    Keeps P s.emptyQueue := by
  unfold State.emptyQueue
  try dsimp only
  repeat' split
  all_goals simp (maxDischargeDepth := 40) +contextual [hP, h]

@[simp] theorem keeps_unpropose (s : State) (hP : Closed P) (h : Keeps P s) :
    Keeps P s.unpropose := by
  unfold State.unpropose
  try dsimp only
  repeat' split
  all_goals simp (maxDischargeDepth := 40) +contextual [hP, h]

@[simp] theorem keeps_enterListenOnly (s : State) (hP : Closed P) (h : Keeps P s) :
    Keeps P s.enterListenOnly := by
  unfold State.enterListenOnly
  try dsimp only
  repeat' split
  all_goals simp (maxDischargeDepth := 40) +contextual [hP, h, Drive.silenced]

@[simp] theorem keeps_tooManyCollisions (s : State) (hP : Closed P) (h : Keeps P s) :
    Keeps P s.tooManyCollisions := by
  unfold State.tooManyCollisions
  try dsimp only
  repeat' split
  all_goals simp (maxDischargeDepth := 40) +contextual [hP, h]

@[simp] theorem keeps_duplicateStation (s : State) (hP : Closed P) (h : Keeps P s) :
    Keeps P s.duplicateStation := by
  unfold State.duplicateStation
  try dsimp only
  repeat' split
  all_goals simp (maxDischargeDepth := 40) +contextual [hP, h]

@[simp] theorem keeps_portSupplyFall (s : State) (hP : Closed P) (h : Keeps P s) : Keeps P s.portSupplyFall := by
  have hc : ∀ u : State, Keeps P u → Keeps P u.emptyQueue := fun u hu => keeps_emptyQueue u hP hu
  have hq : ∀ u : State, (u.emptyQueue).rlp.queue = [] := fun u => by
    unfold State.emptyQueue
    dsimp only
    split <;> rfl
  have hr : ∀ u : State, u.rlp.queue = [] → ∀ p : Pan,
      (if (u.drive p).claimStage = .queued then u.mapPd p Drive.claimOver else u).rlp.queue = [] := fun u hu p => by
    split <;> simpa using hu
  have he : ∀ u : State, u.rlp.queue = [] → (u.eachFitted fun p v =>
      if (v.drive p).claimStage = .queued then v.mapPd p Drive.claimOver else v).rlp.queue = [] := fun u hu =>
    keeps_eachFitted (P := fun u => u.rlp.queue = []) u _ hu fun p t ht => hr t ht p
  have cut : Keeps P (if s.rlp.attempt.isSome then
      s.mapRlp fun r => { r with attempt := none, line := .jam, lastEnd := s.now + 64 } else s) := by
    split <;> simp [hP, h]
  unfold State.portSupplyFall
  dsimp only
  split
  · refine keeps_mapSc _ _ hP (keeps_enqueue _ _ _ hP ?_ ?_) fun x => ⟨rfl, rfl, rfl⟩
    · exact keeps_eachFitted _ _ (hc _ cut) fun p t ht => by split <;> simp [hP, ht]
    · rw [he _ (hq _)]
      decide
  · exact keeps_enterOffline _ hP cut
  · exact h

@[simp] theorem keeps_sendLeave (s : State) (hP : Closed P) (h : Keeps P s) :
    Keeps P s.sendLeave := by
  unfold State.sendLeave
  try dsimp only
  repeat' split
  all_goals simp (maxDischargeDepth := 40) +contextual [hP, h]

@[simp] theorem keeps_followLeave (s : State) (hP : Closed P) (h : Keeps P s) :
    Keeps P s.followLeave := by
  unfold State.followLeave
  try dsimp only
  repeat' split
  all_goals simp (maxDischargeDepth := 40) +contextual [hP, h]

/-! ## Delivery -/

@[simp] theorem keeps_applyRaised (s : State) (n : Nat) (pan role : Byte) (hP : Closed P) (h : Keeps P s) :
    Keeps P (s.applyRaised n pan role) := by
  unfold State.applyRaised
  try dsimp only
  repeat' split
  all_goals simp (maxDischargeDepth := 40) +contextual [hP, h]

@[simp] theorem keeps_clearEntry (s : State) (n : Nat) (p : Pan) (st : EntryState) (hP : Closed P) (h : Keeps P s) :
    Keeps P (s.clearEntry n p st) := by
  unfold State.clearEntry
  try dsimp only
  repeat' split
  all_goals simp (maxDischargeDepth := 40) +contextual [hP, h]

@[simp] theorem keeps_applyYield (s : State) (n : Nat) (pan : Byte) (hP : Closed P) (h : Keeps P s) :
    Keeps P (s.applyYield n pan) := by
  unfold State.applyYield
  try dsimp only
  repeat' split
  all_goals simp (maxDischargeDepth := 40) +contextual [hP, h]

@[simp] theorem keeps_applyDrop (s : State) (n : Nat) (pan phase : Byte) (hP : Closed P) (h : Keeps P s) :
    Keeps P (s.applyDrop n pan phase) := by
  unfold State.applyDrop
  try dsimp only
  repeat' split
  all_goals simp (maxDischargeDepth := 40) +contextual [hP, h]

@[simp] theorem keeps_applyFault (s : State) (n : Nat) (code pan detail : Byte) (hP : Closed P) (h : Keeps P s) :
    Keeps P (s.applyFault n code pan detail) := by
  unfold State.applyFault
  try dsimp only
  repeat' split
  all_goals simp (maxDischargeDepth := 40) +contextual [hP, h]

@[simp] theorem keeps_applyLeave (s : State) (n : Nat) (flags : Byte) (hP : Closed P) (h : Keeps P s) :
    Keeps P (s.applyLeave n flags) := by
  unfold State.applyLeave
  try dsimp only
  repeat' split
  all_goals simp (maxDischargeDepth := 40) +contextual [hP, h]

@[simp] theorem keeps_applyIce (s : State) (n : Nat) (o : Byte) (hP : Closed P) (h : Keeps P s) :
    Keeps P (s.applyIce n o) := by
  unfold State.applyIce
  try dsimp only
  repeat' split
  all_goals simp (maxDischargeDepth := 40) +contextual [hP, h]

@[simp] theorem keeps_applyGive (s : State) (n : Nat) (units : Byte) (hP : Closed P) (h : Keeps P s) :
    Keeps P (s.applyGive n units) := by
  unfold State.applyGive
  try dsimp only
  repeat' split
  all_goals simp (maxDischargeDepth := 40) +contextual [hP, h]

@[simp] theorem keeps_heard (s : State) (n : Nat) (hP : Closed P) (h : Keeps P s) :
    Keeps P (s.heard n) := by
  unfold State.heard
  try dsimp only
  repeat' split
  all_goals simp (maxDischargeDepth := 40) +contextual [hP, h]

@[simp] theorem keeps_deliver (s : State) (n : Nat) (seq : Byte) (x : Notice) (hP : Closed P) (h : Keeps P s) :
    Keeps P (s.deliver n seq x) := by
  unfold State.deliver State.applyNotice
  cases x <;> simp (maxDischargeDepth := 40) [hP, h]

@[simp] theorem keeps_expect (s : State) (n : Nat) (q : Option Byte) (hP : Closed P) (h : Keeps P s) :
    Keeps P (s.expect n q) := by
  unfold State.expect
  try dsimp only
  repeat' split
  all_goals simp (maxDischargeDepth := 40) +contextual [hP, h]

@[simp] theorem keeps_rosterMoves (s : State) (hP : Closed P) (h : Keeps P s) :
    Keeps P s.rosterMoves := by
  unfold State.rosterMoves
  try dsimp only
  repeat' split
  all_goals simp (maxDischargeDepth := 40) +contextual [hP, h]

@[simp] theorem keeps_markDoubtful (s : State) (n : Nat) (hP : Closed P) (h : Keeps P s) :
    Keeps P (s.markDoubtful n) := by
  unfold State.markDoubtful
  try dsimp only
  repeat' split
  all_goals simp (maxDischargeDepth := 40) +contextual [hP, h]

@[simp] theorem keeps_receive (s : State) (f : Frame) (hP : Closed P) (h : Keeps P s) :
    Keeps P (s.receive f) := by
  unfold State.receive
  try dsimp only
  repeat' split
  all_goals simp (maxDischargeDepth := 40) +contextual [hP, h]

/-! ## React -/

@[simp] theorem keeps_claimCollector (s : State) (p : Pan) (hP : Closed P) (h : Keeps P s) :
    Keeps P (s.claimCollector p) := by
  unfold State.claimCollector
  try dsimp only
  repeat' split
  all_goals simp (maxDischargeDepth := 40) +contextual [hP, h]

@[simp] theorem keeps_followGear (s : State) (hP : Closed P) (h : Keeps P s) :
    Keeps P s.followGear := by
  unfold State.followGear
  try dsimp only
  repeat' split
  all_goals simp (maxDischargeDepth := 40) +contextual [hP, h]

@[simp] theorem keeps_followSections (s : State) (hP : Closed P) (h : Keeps P s) :
    Keeps P s.followSections := by
  unfold State.followSections
  try dsimp only
  repeat' split
  all_goals simp (maxDischargeDepth := 40) +contextual [hP, h]

@[simp] theorem keeps_followRound (s : State) (hP : Closed P) (h : Keeps P s) :
    Keeps P s.followRound := by
  unfold State.followRound
  try dsimp only
  repeat' split
  all_goals simp (maxDischargeDepth := 40) +contextual [hP, h]

@[simp] theorem keeps_followIce (s : State) (hP : Closed P) (h : Keeps P s) :
    Keeps P s.followIce := by
  unfold State.followIce
  try dsimp only
  repeat' split
  all_goals simp (maxDischargeDepth := 40) +contextual [hP, h]

@[simp] theorem keeps_followDrives (s : State) (hP : Closed P) (h : Keeps P s) :
    Keeps P s.followDrives := by
  unfold State.followDrives
  try dsimp only
  repeat' split
  all_goals simp (maxDischargeDepth := 40) +contextual [hP, h]

@[simp] theorem keeps_react (s : State) (hP : Closed P) (h : Keeps P s) :
    Keeps P s.react := by
  unfold State.react
  try dsimp only
  repeat' split
  all_goals simp (maxDischargeDepth := 40) +contextual [hP, h]

@[simp] theorem keeps_offers (s : State) (hP : Closed P) (h : Keeps P s) :
    Keeps P s.offers := by
  unfold State.offers
  try dsimp only
  repeat' split
  all_goals simp (maxDischargeDepth := 40) +contextual [hP, h]

@[simp] theorem keeps_settle (s : State) (hP : Closed P) (h : Keeps P s) :
    Keeps P s.settle := by
  unfold State.settle
  try dsimp only
  repeat' split
  all_goals simp (maxDischargeDepth := 40) +contextual [hP, h]

/-! ## Line -/

@[simp] theorem keeps_lineIdle (s : State) (t : Moment) (hP : Closed P) (h : Keeps P s) :
    Keeps P (s.lineIdle t) := by
  unfold State.lineIdle
  try dsimp only
  repeat' split
  all_goals simp (maxDischargeDepth := 40) +contextual [hP, h]

@[simp] theorem keeps_startSymbol (s : State) (t : Moment) (hP : Closed P) (h : Keeps P s) :
    Keeps P (s.startSymbol t) := by
  unfold State.startSymbol
  try dsimp only
  repeat' split
  all_goals simp (maxDischargeDepth := 40) +contextual [hP, h]

@[simp] theorem keeps_beginAttempt (s : State) (fromSlot : Bool) (n : Notice) (hP : Closed P) (h : Keeps P s) :
    Keeps P (s.beginAttempt fromSlot n) := by
  unfold State.beginAttempt
  try dsimp only
  repeat' split
  all_goals simp (maxDischargeDepth := 40) +contextual [hP, h]

@[simp] theorem keeps_attempt (s : State) (t : Moment) (hP : Closed P) (h : Keeps P s) :
    Keeps P (s.attempt t) := by
  unfold State.attempt
  try dsimp only
  repeat' split
  all_goals simp (maxDischargeDepth := 40) +contextual [hP, h]

@[simp] theorem keeps_complete (s : State) (a : Attempt) (hP : Closed P) (h : Keeps P s) : Keeps P (s.complete a) := by
  have ht : Keeps P (s.mapRlp fun r => r.complete a s.now s.presenceInterval) :=
    keeps_mapRlp _ _ hP h fun r => List.length_filter_le _ _
  unfold State.complete
  dsimp only
  split <;> simp (maxDischargeDepth := 40) [hP, ht]

@[simp] theorem keeps_collide (s : State) (a : Attempt) (hP : Closed P) (h : Keeps P s) : Keeps P (s.collide a) := by
  have ht : Keeps P (s.mapRlp fun r => r.collide s.now) :=
    keeps_mapRlp _ _ hP h fun r => by simp [Rlp.collide, List.length_filter_le]
  unfold State.collide
  dsimp only
  repeat' split
  all_goals simp (maxDischargeDepth := 40) [hP, ht]

@[simp] theorem keeps_takeFrame (s : State) (f : Frame) (hP : Closed P) (h : Keeps P s) :
    Keeps P (s.takeFrame f) := by
  unfold State.takeFrame
  try dsimp only
  repeat' split
  all_goals simp (maxDischargeDepth := 40) +contextual [hP, h]

@[simp] theorem keeps_frameEnds (s : State) (hP : Closed P) (h : Keeps P s) :
    Keeps P s.frameEnds := by
  unfold State.frameEnds
  try dsimp only
  repeat' split
  all_goals simp (maxDischargeDepth := 40) +contextual [hP, h]

@[simp] theorem keeps_requeueClose (s : State) (hP : Closed P) (h : Keeps P s) :
    Keeps P s.requeueClose := by
  unfold State.requeueClose
  try dsimp only
  repeat' split
  all_goals simp (maxDischargeDepth := 40) +contextual [hP, h]

@[simp] theorem keeps_presence (s : State) (due : Moment) (hP : Closed P) (h : Keeps P s) :
    Keeps P (s.presence due) := by
  unfold State.presence
  try dsimp only
  repeat' split
  all_goals simp (maxDischargeDepth := 40) +contextual [hP, h]

@[simp] theorem keeps_online (s : State) (hP : Closed P) (h : Keeps P s) :
    Keeps P s.online := by
  unfold State.online
  try dsimp only
  repeat' split
  all_goals simp (maxDischargeDepth := 40) +contextual [hP, h]

@[simp] theorem keeps_silent (s : State) (n : Nat) (hP : Closed P) (h : Keeps P s) :
    Keeps P (s.silent n) := by
  unfold State.silent
  try dsimp only
  repeat' split
  all_goals simp (maxDischargeDepth := 40) +contextual [hP, h]

@[simp] theorem keeps_dropClear (s : State) (n : Nat) (hP : Closed P) (h : Keeps P s) :
    Keeps P (s.dropClear n) := by
  unfold State.dropClear
  try dsimp only
  repeat' split
  all_goals simp (maxDischargeDepth := 40) +contextual [hP, h]

@[simp] theorem keeps_handGoAhead (s : State) (c : Contest) (hP : Closed P) (h : Keeps P s) :
    Keeps P (s.handGoAhead c) := by
  unfold State.handGoAhead
  try dsimp only
  repeat' split
  all_goals simp (maxDischargeDepth := 40) +contextual [hP, h]

@[simp] theorem keeps_windowEnds (s : State) (c : Contest) (hP : Closed P) (h : Keeps P s) :
    Keeps P (s.windowEnds c) := by
  unfold State.windowEnds
  try dsimp only
  repeat' split
  all_goals simp (maxDischargeDepth := 40) +contextual [hP, h]

/-! ## DriveCommands -/

@[simp] theorem keeps_deadOver (s : State) (p : Pan) (hP : Closed P) (h : Keeps P s) :
    Keeps P (s.deadOver p) := by
  unfold State.deadOver
  try dsimp only
  repeat' split
  all_goals simp (maxDischargeDepth := 40) +contextual [hP, h]

@[simp] theorem keeps_housing (s : State) (p : Pan) (hP : Closed P) (h : Keeps P s) : Keeps P (s.housing p) := by
  have ha : Keeps P ((s.mapPd p fun d => { d with housed := true }).mapMu fun m =>
      { m with pos := m.pos.set p (m.pos.get p).reference }) := by
    refine keeps_mapMu _ _ hP (keeps_mapPd _ _ _ hP h fun _ hd => hd) fun m q hq => ?_
    by_cases hqp : q = p
    · subst hqp
      obtain ⟨h1, h2, _, _⟩ := hq
      show CountFits ((m.pos.set q (m.pos.get q).reference).get q)
      rw [pair_get_set]
      exact ⟨by simp [PosChannel.reference], by simp [PosChannel.reference], h1, h2⟩
    · show CountFits ((m.pos.set p (m.pos.get p).reference).get q)
      rw [pair_get_set_ne _ _ _ _ hqp]
      exact hq
  unfold State.housing
  dsimp only
  split <;> simp (maxDischargeDepth := 40) [hP, ha]

@[simp] theorem keeps_unhoused (s : State) (p : Pan) (hP : Closed P) (h : Keeps P s) :
    Keeps P (s.unhoused p) := by
  unfold State.unhoused
  try dsimp only
  repeat' split
  all_goals simp (maxDischargeDepth := 40) +contextual [hP, h]

@[simp] theorem keeps_raiseFails (s : State) (p : Pan) (k : FaultKind) (hP : Closed P) (h : Keeps P s) :
    Keeps P (s.raiseFails p k) := by
  unfold State.raiseFails
  try dsimp only
  repeat' split
  all_goals simp (maxDischargeDepth := 40) +contextual [hP, h]

@[simp] theorem keeps_stuckUp (s : State) (p : Pan) (hP : Closed P) (h : Keeps P s) :
    Keeps P (s.stuckUp p) := by
  unfold State.stuckUp
  try dsimp only
  repeat' split
  all_goals simp (maxDischargeDepth := 40) +contextual [hP, h]

/-! ## Measure -/

@[simp] theorem keeps_captureOverflow (s : State) (ch : CaptureChan) (t : Moment) (hP : Closed P) (h : Keeps P s) :
    Keeps P (s.captureOverflow ch t) := by
  unfold State.captureOverflow
  split
  · simp [hP, h]
  · dsimp only
    split
    · simp [hP, h]
    · exact keeps_mapCap _ _ _ hP (keeps_advance _ _ hP h)

@[simp] theorem keeps_clearTake (s : State) (ch : CaptureChan) (hP : Closed P) (h : Keeps P s) : Keeps P (s.clearTake ch) :=
  keeps_mapCap s ch _ hP h

@[simp] theorem keeps_take (s : State) (ch : CaptureChan) (x : Capture) (overrun : Bool) (hP : Closed P) (h : Keeps P s) :
    Keeps P (s.take ch x overrun) := by
  unfold State.take
  try dsimp only
  repeat' split
  all_goals simp (maxDischargeDepth := 40) +contextual [hP, h]

@[simp] theorem keeps_watchCount (s : State) (p : Pan) (before : Int) (hP : Closed P) (h : Keeps P s) :
    Keeps P (s.watchCount p before) := by
  unfold State.watchCount
  try dsimp only
  repeat' split
  all_goals simp (maxDischargeDepth := 40) +contextual [hP, h]

@[simp] theorem keeps_metreTests (s : State) (hP : Closed P) (h : Keeps P s) :
    Keeps P s.metreTests := by
  unfold State.metreTests
  try dsimp only
  repeat' split
  all_goals simp (maxDischargeDepth := 40) +contextual [hP, h]

@[simp] theorem keeps_advanceWindow (s : State) (hP : Closed P) (h : Keeps P s) :
    Keeps P s.advanceWindow := by
  unfold State.advanceWindow
  try dsimp only
  repeat' split
  all_goals simp (maxDischargeDepth := 40) +contextual [hP, h]

@[simp] theorem keeps_metreStep (s : State) (hP : Closed P) (h : Keeps P s) : Keeps P s.metreStep := by
  unfold State.metreStep
  simp (maxDischargeDepth := 40) [hP, h]

@[simp] theorem keeps_axlePulse (s : State) (hP : Closed P) (h : Keeps P s) : Keeps P s.axlePulse := by
  have ht : Keeps P (s.mapMu fun m => { m with odo := { (s.mu.odo.pulse s.millimetresPerPulse).1 with level := true } }) :=
    keeps_mapMu _ _ hP h fun m p hm => hm
  unfold State.axlePulse
  dsimp only
  split
  · exact keeps_metreStep _ hP ht
  · exact ht

@[simp] theorem keeps_odoEdge (s : State) (level : Bool) (hP : Closed P) (h : Keeps P s) :
    Keeps P (s.odoEdge level) := by
  unfold State.odoEdge
  try dsimp only
  repeat' split
  all_goals simp (maxDischargeDepth := 40) +contextual [hP, h]

@[simp] theorem keeps_phases (s : State) (p : Pan) (a b : Bool) (hP : Closed P) (h : Keeps P s) :
    Keeps P (s.phases p a b) := by
  have ht : Keeps P (s.mapMu fun m => { m with pos := m.pos.set p ((m.pos.get p).edge a b) }) := by
    refine keeps_mapMu s _ hP h fun m q hq => ?_
    by_cases hqp : q = p
    · subst hqp
      show CountFits ((m.pos.set q ((m.pos.get q).edge a b)).get q)
      rw [pair_get_set]
      exact edge_fits _ _ _ hq
    · show CountFits ((m.pos.set p ((m.pos.get p).edge a b)).get q)
      rw [pair_get_set_ne _ _ _ _ hqp]
      exact hq
  unfold State.phases
  exact keeps_settle _ hP (keeps_watchCount _ _ _ hP ht)

/-! ## GearCommands -/

@[simp] theorem keeps_classChanged (s : State) (before : LineClass) (hP : Closed P) (h : Keeps P s) :
    Keeps P (s.classChanged before) := by
  unfold State.classChanged
  try dsimp only
  repeat' split
  all_goals simp (maxDischargeDepth := 40) +contextual [hP, h]

@[simp] theorem keeps_classify (s : State) (due : Moment) (hP : Closed P) (h : Keeps P s) :
    Keeps P (s.classify due) := by
  unfold State.classify
  try dsimp only
  repeat' split
  all_goals simp (maxDischargeDepth := 40) +contextual [hP, h, take_fits]

@[simp] theorem keeps_setSelContacts (s : State) (c : SelContacts) (hP : Closed P) (h : Keeps P s) :
    Keeps P (s.setSelContacts c) := by
  unfold State.setSelContacts
  try dsimp only
  repeat' split
  all_goals simp (maxDischargeDepth := 40) +contextual [hP, h]

@[simp] theorem keeps_selectorFeedback (s : State) (c : SelContacts) (hP : Closed P) (h : Keeps P s) :
    Keeps P (s.selectorFeedback c) := by
  unfold State.selectorFeedback
  try dsimp only
  repeat' split
  all_goals simp (maxDischargeDepth := 40) +contextual [hP, h]

@[simp] theorem keeps_isolatorFeedback (s : State) (p : Pan) (c : IsoContacts) (hP : Closed P) (h : Keeps P s) :
    Keeps P (s.isolatorFeedback p c) := by
  unfold State.isolatorFeedback
  try dsimp only
  repeat' split
  all_goals simp (maxDischargeDepth := 40) +contextual [hP, h]

@[simp] theorem keeps_legTimeout (s : State) (hP : Closed P) (h : Keeps P s) :
    Keeps P s.legTimeout := by
  unfold State.legTimeout
  try dsimp only
  repeat' split
  all_goals simp (maxDischargeDepth := 40) +contextual [hP, h]

@[simp] theorem keeps_moveTimeout (s : State) (p : Pan) (hP : Closed P) (h : Keeps P s) :
    Keeps P (s.moveTimeout p) := by
  unfold State.moveTimeout
  try dsimp only
  repeat' split
  all_goals simp (maxDischargeDepth := 40) +contextual [hP, h]

@[simp] theorem keeps_breakerInput (s : State) (active : Bool) (hP : Closed P) (h : Keeps P s) :
    Keeps P (s.breakerInput active) := by
  unfold State.breakerInput
  try dsimp only
  repeat' split
  all_goals simp (maxDischargeDepth := 40) +contextual [hP, h]

@[simp] theorem keeps_breakerLate (s : State) (hP : Closed P) (h : Keeps P s) :
    Keeps P s.breakerLate := by
  unfold State.breakerLate
  try dsimp only
  repeat' split
  all_goals simp (maxDischargeDepth := 40) +contextual [hP, h]

@[simp] theorem keeps_lineDead (s : State) (hP : Closed P) (h : Keeps P s) :
    Keeps P s.lineDead := by
  unfold State.lineDead
  try dsimp only
  repeat' split
  all_goals simp (maxDischargeDepth := 40) +contextual [hP, h]

@[simp] theorem keeps_roundTimeoutOver (s : State) (hP : Closed P) (h : Keeps P s) :
    Keeps P s.roundTimeoutOver := by
  unfold State.roundTimeoutOver
  try dsimp only
  repeat' split
  all_goals simp (maxDischargeDepth := 40) +contextual [hP, h]

@[simp] theorem keeps_scraperRetryOver (s : State) (hP : Closed P) (h : Keeps P s) :
    Keeps P s.scraperRetryOver := by
  unfold State.scraperRetryOver
  try dsimp only
  repeat' split
  all_goals simp (maxDischargeDepth := 40) +contextual [hP, h]

/-! ## Supply -/

@[simp] theorem keeps_drivesSupplyFall (s : State) (hP : Closed P) (h : Keeps P s) :
    Keeps P s.drivesSupplyFall := by
  unfold State.drivesSupplyFall
  try dsimp only
  repeat' split
  all_goals simp (maxDischargeDepth := 40) +contextual [hP, h]

@[simp] theorem keeps_heatersSupplyFall (s : State) (hP : Closed P) (h : Keeps P s) :
    Keeps P s.heatersSupplyFall := by
  unfold State.heatersSupplyFall
  try dsimp only
  repeat' split
  all_goals simp (maxDischargeDepth := 40) +contextual [hP, h]

@[simp] theorem keeps_stopMove (s : State) (p : Pan) (hP : Closed P) (h : Keeps P s) :
    Keeps P (s.stopMove p) := by
  unfold State.stopMove
  try dsimp only
  repeat' split
  all_goals simp (maxDischargeDepth := 40) +contextual [hP, h]

@[simp] theorem keeps_gearSupplyFall (s : State) (hP : Closed P) (h : Keeps P s) :
    Keeps P s.gearSupplyFall := by
  unfold State.gearSupplyFall
  try dsimp only
  repeat' split
  all_goals simp (maxDischargeDepth := 40) +contextual [hP, h]

@[simp] theorem keeps_supplyFall (s : State) (hP : Closed P) (h : Keeps P s) :
    Keeps P s.supplyFall := by
  unfold State.supplyFall
  try dsimp only
  repeat' split
  all_goals simp (maxDischargeDepth := 40) +contextual [hP, h]

@[simp] theorem keeps_supplyRise (s : State) (hP : Closed P) (h : Keeps P s) :
    Keeps P s.supplyRise := by
  unfold State.supplyRise
  try dsimp only
  repeat' split
  all_goals simp (maxDischargeDepth := 40) +contextual [hP, h]

/-! ## HostCommands -/

@[simp] theorem keeps_fails (s : State) (code : Byte) (r : ResultCode) (hP : Closed P) (h : Keeps P s) :
    Keeps P (s.fails code r) := keeps_respond _ _ _ _ hP h

@[simp] theorem keeps_taken (s : State) (code : Byte) (d : ResponseData) (hP : Closed P) (h : Keeps P s) :
    Keeps P (s.taken code d) := keeps_settle _ hP (keeps_respond _ _ _ _ hP h)

@[simp] theorem keeps_refit (s : State) (before housedInput : Bool) (p : Pan) (hP : Closed P) (h : Keeps P s) :
    Keeps P (s.refit before housedInput p) := by
  have hd : Keeps P (s.mapPd p fun _ =>
      Drive.reset housedInput s.now s.deadInterval s.lowerLimit (s.collectorSetpoint 0)) :=
    keeps_mapPd _ _ _ hP h fun _ _ => by simp [Drive.reset]
  unfold State.refit
  split
  · exact h
  · simp (maxDischargeDepth := 40) [hP, hd]

theorem keeps_writeConfig (s : State) (offset : Nat) (data : List Byte) (housed : Pair Bool) (hP : Closed P)
    (h : Keeps P (s.mapSc fun x =>
      { x with config := x.config.writeAll offset data
               fingerprint := if offset < 28 then fingerprintOf (x.config.writeAll offset data) else x.fingerprint })) :
    Keeps P (s.writeConfig offset data housed) := by
  unfold State.writeConfig
  exact keeps_refit _ _ _ _ hP (keeps_refit _ _ _ _ hP h)

@[simp] theorem keeps_join (s : State) (hP : Closed P) (h : Keeps P s) :
    Keeps P s.join := by
  unfold State.join
  try dsimp only
  repeat' split
  all_goals simp (maxDischargeDepth := 40) +contextual [hP, h]

@[simp] theorem keeps_leave (s : State) (hP : Closed P) (h : Keeps P s) :
    Keeps P s.leave := by
  unfold State.leave
  try dsimp only
  repeat' split
  all_goals simp (maxDischargeDepth := 40) +contextual [hP, h]

@[simp] theorem keeps_block (s : State) (p : Pan) (hP : Closed P) (h : Keeps P s) :
    Keeps P (s.block p) := by
  unfold State.block
  try dsimp only
  repeat' split
  all_goals simp (maxDischargeDepth := 40) +contextual [hP, h]

@[simp] theorem keeps_unblock (s : State) (p : Pan) (hP : Closed P) (h : Keeps P s) :
    Keeps P (s.unblock p) := by
  unfold State.unblock
  try dsimp only
  repeat' split
  all_goals simp (maxDischargeDepth := 40) +contextual [hP, h]

@[simp] theorem keeps_forget (s : State) (n : Nat) (hP : Closed P) (h : Keeps P s) :
    Keeps P (s.forget n) := by
  unfold State.forget
  try dsimp only
  repeat' split
  all_goals simp (maxDischargeDepth := 40) +contextual [hP, h]

@[simp] theorem keeps_setIce (s : State) (o : Option Ice) (hP : Closed P) (h : Keeps P s) :
    Keeps P (s.setIce o) := by
  unfold State.setIce
  try dsimp only
  repeat' split
  all_goals simp (maxDischargeDepth := 40) +contextual [hP, h]

@[simp] theorem keeps_unblockHeater (s : State) (p : Pan) (hP : Closed P) (h : Keeps P s) :
    Keeps P (s.unblockHeater p) := by
  unfold State.unblockHeater
  try dsimp only
  repeat' split
  all_goals simp (maxDischargeDepth := 40) +contextual [hP, h]

@[simp] theorem keeps_unbar (s : State) (p : Pan) (hP : Closed P) (h : Keeps P s) :
    Keeps P (s.unbar p) := by
  unfold State.unbar
  try dsimp only
  repeat' split
  all_goals simp (maxDischargeDepth := 40) +contextual [hP, h]

end Sys2Proof.Laws
end

