-- ==== Sys2Proof/Laws/Closed.lean ====
section
/-! SUPPORT. The invariants of Safety.lean survive the updates of `Closed`, and so every operation; events, the overflow flag
and the fault bits are only added by the operations. -/

namespace Sys2Proof.Laws

open Sys2Proof.Machine

theorem raiseEvent_length (s : State) (e : Event) (h : s.lcp.events.length ≤ eventCapacity) :
    (s.raiseEvent e).lcp.events.length ≤ eventCapacity := by
  simp only [State.raiseEvent, mapLcp_lcp]
  split
  · simp only [List.length_append, List.length_singleton]; omega
  · exact h

@[simp] theorem raiseEvent_faults (s : State) (e : Event) : (s.raiseEvent e).lcp.faults = s.lcp.faults := by
  simp only [State.raiseEvent, mapLcp_lcp]
  split <;> rfl

theorem putSection_length (e : SectionEntry) (l : List SectionEntry) : (putSection e l).length = l.length + 1 := by
  induction l with
  | nil => rfl
  | cons x xs ih => unfold putSection; split <;> simp [ih]

theorem closed_configCanonical : Closed State.configCanonical := by
  constructor <;> intros <;> first | assumption | skip
  case insert s e h => unfold State.insertSection; split <;> exact h
  case sc s f hf h => unfold State.configCanonical at *; simpa [hf] using h

theorem closed_eventsFit : Closed State.eventsFit := by
  constructor <;> intros <;> first | assumption | skip
  case insert s e h =>
    unfold State.insertSection
    split
    · exact h
    · exact raiseEvent_length _ _ h
  case event s e h => exact raiseEvent_length _ _ h
  case fault s k d h => exact raiseEvent_length _ _ h

theorem closed_queueFits : Closed State.queueFits := by
  constructor <;> intros <;> first | assumption | skip
  case rlp s f hf h => exact Nat.le_trans hf h
  case enqueue s n b hl h =>
    simp only [State.queueFits, State.enqueue, mapRlp_rlp, List.length_append, List.length_singleton]
    omega
  case insert s e h => unfold State.insertSection; split <;> exact h

theorem closed_contestsFit : Closed State.contestsFit := by
  constructor <;> intros <;> first | assumption | skip
  case ru s f hf h => exact Nat.le_trans (hf _) h
  case openContest s x y hl h =>
    have : s.ru.contests.length < contestCapacity := by simpa [State.contestFree] using hl
    simp only [State.contestsFit, State.openContest, mapRu_ru, List.length_append, List.length_singleton]
    omega
  case insert s e h => unfold State.insertSection; split <;> exact h

theorem closed_sectionsFit : Closed State.sectionsFit := by
  constructor <;> intros <;> first | assumption | skip
  case sq s f hf h => exact Nat.le_trans (hf _) h
  case insert s e h =>
    unfold State.insertSection
    split
    · simp only [State.sectionsFit, mapSq_sq, putSection_length]; omega
    · exact h

theorem closed_runFits : Closed State.runFits := by
  constructor <;> intros <;> first | assumption | skip
  case sg s f hf h => exact hf _ h
  case insert s e h => unfold State.insertSection; split <;> exact h

theorem closed_historiesFit : Closed State.historiesFit := by
  constructor <;> intros <;> first | assumption | skip
  case iu s f hf h =>
    have := hf s.iu ⟨h .p0, h .p1⟩
    intro p
    cases p
    · exact this.1
    · exact this.2
  case insert s e h => unfold State.insertSection; split <;> exact h

theorem closed_countsFit : Closed State.countsFit := by
  constructor <;> intros <;> first | assumption | skip
  case mu s f hf h => exact fun p => hf s.mu p (h p)
  case insert s e h => unfold State.insertSection; split <;> exact h

theorem fillGated_iff (s : State) : s.fillGated ↔ ∀ p, Gated (s.drive p) := by
  unfold State.fillGated Gated State.fillOutput
  simp

theorem closed_fillGated : Closed State.fillGated := by
  constructor <;> intros <;> first | assumption | skip
  case pd s p f hf h =>
    rw [fillGated_iff] at h ⊢
    intro q
    by_cases hq : q = p
    · subst hq
      have : (s.mapPd q f).drive q = f (s.drive q) := by simp [State.drive]
      rw [this]
      exact hf _ (h q)
    · have : (s.mapPd p f).drive q = s.drive q := by simp [State.drive, pair_get_set_ne _ _ _ _ hq]
      rw [this]
      exact h q
  case insert s e h => unfold State.insertSection; split <;> exact h

/-- Events are added at the tail, and the overflow flag and the fault bits stay set. -/
def Grown (s t : State) : Prop :=
  s.lcp.events <+: t.lcp.events ∧ (s.lcp.overflow = true → t.lcp.overflow = true) ∧
    ∀ k, s.faultSet k = true → t.faultSet k = true

theorem grown_refl (s : State) : Grown s s := ⟨List.prefix_refl _, id, fun _ h => h⟩

theorem grown_raiseEvent (s t : State) (e : Event) (h : Grown s t) : Grown s (t.raiseEvent e) := by
  obtain ⟨h1, h2, h3⟩ := h
  refine ⟨?_, ?_, fun k hk => ?_⟩
  · simp only [State.raiseEvent, mapLcp_lcp]
    split
    · exact h1.trans (List.prefix_append _ _)
    · exact h1
  · intro ho
    simp only [State.raiseEvent, mapLcp_lcp]
    split
    · exact h2 ho
    · rfl
  · have := h3 k hk
    simpa [State.faultSet] using this

theorem closed_grown (s : State) : Closed (Grown s) := by
  constructor <;> intros <;> first | assumption | skip
  case insert t e h =>
    unfold State.insertSection
    split
    · exact h
    · exact grown_raiseEvent _ _ _ h
  case event t e h => exact grown_raiseEvent _ _ _ h
  case fault t k d h =>
    obtain ⟨h1, h2, h3⟩ := grown_raiseEvent s t (.fault k d) h
    refine ⟨h1, h2, fun x hx => ?_⟩
    have := h3 x hx
    simp only [State.faultSet] at this ⊢
    simp only [State.raiseLocalFault, mapLcp_lcp, BitVec.getLsbD_or, this, Bool.true_or]

/-- The hand-offs of a step only add events and fault bits. -/
theorem settle_grown (s : State) : Grown s s.settle := keeps_settle s (closed_grown s) (grown_refl s)

end Sys2Proof.Laws
end

