-- ==== Sys2Proof/Laws/Drives.lean ====
section
/-! SUPPORT. What the operations of the drives and of the scraper run leave alone: the roster, the measurements, the switchgear,
the sections, the round record and the configuration, in one value. -/

namespace Sys2Proof.Laws

open Sys2Proof.Machine

/-- The units that the operations of the drives leave alone. -/
structure Aside where
  now : Moment
  pins : Pins
  ru : Ru
  mu : Mu
  sg : Sg
  sq : Sq
  cu : Cu
  sc : Sc

/-- The units beside the drives, the port, the ice unit and the events. -/
def aside (s : State) : Aside := ⟨s.now, s.pins, s.ru, s.mu, s.sg, s.sq, s.cu, s.sc⟩

theorem aside_cu {s t : State} (h : aside t = aside s) : t.cu = s.cu := congrArg Aside.cu h
theorem aside_sg {s t : State} (h : aside t = aside s) : t.sg = s.sg := congrArg Aside.sg h
theorem aside_ru {s t : State} (h : aside t = aside s) : t.ru = s.ru := congrArg Aside.ru h
theorem aside_sc {s t : State} (h : aside t = aside s) : t.sc = s.sc := congrArg Aside.sc h
theorem aside_now {s t : State} (h : aside t = aside s) : t.now = s.now := congrArg Aside.now h

/-- A pantograph is fitted by the configuration alone. -/
theorem aside_fitted {s t : State} (h : aside t = aside s) (p : Pan) : t.fitted p = s.fitted p := by
  unfold State.fitted State.panCount
  rw [aside_sc h]

@[simp] theorem aside_mapPd (s : State) (p : Pan) (f : Drive → Drive) : aside (s.mapPd p f) = aside s := rfl
@[simp] theorem aside_mapRlp (s : State) (f : Rlp → Rlp) : aside (s.mapRlp f) = aside s := rfl
@[simp] theorem aside_mapIu (s : State) (f : Iu → Iu) : aside (s.mapIu f) = aside s := rfl
@[simp] theorem aside_mapLcp (s : State) (f : Lcp → Lcp) : aside (s.mapLcp f) = aside s := rfl
@[simp] theorem aside_raiseEvent (s : State) (e : Event) : aside (s.raiseEvent e) = aside s := rfl
@[simp] theorem aside_withdraw (s : State) (p : QueuedNotice → Bool) : aside (s.withdraw p) = aside s := rfl
@[simp] theorem aside_enqueue (s : State) (n : Notice) (b : Bool) : aside (s.enqueue n b) = aside s := rfl
@[simp] theorem aside_aim (s : State) (p : Pan) (v : Valve) : aside (s.aim p v) = aside s := rfl

@[simp] theorem aside_fillPresent (s : State) : aside s.fillPresent = aside s := by
  unfold State.fillPresent
  split <;> simp

@[simp] theorem aside_queueInternal (s : State) (n : Notice) : aside (s.queueInternal n).1 = aside s := by
  unfold State.queueInternal
  repeat' split
  all_goals simp

@[simp] theorem aside_send (s : State) (n : Notice) : aside (s.send n) = aside s := aside_queueInternal s n

theorem aside_sendOr (s : State) (n : Notice) (f : State → State) (h : ∀ t, aside (f t) = aside t) :
    aside (s.sendOr n f) = aside s := by
  have hq := aside_queueInternal s n
  unfold State.sendOr
  split <;> simp_all

@[simp] theorem aside_raiseFault (s : State) (k : FaultKind) (d : FaultDetail) (p : Option Pan) (x : Byte) :
    aside (s.raiseFault k d p x) = aside s := by
  simp [State.raiseFault, State.raiseLocalFault]

theorem aside_eachFitted (s : State) (f : Pan → State → State) (h : ∀ p t, aside (f p t) = aside t) :
    aside (s.eachFitted f) = aside s := by
  unfold State.eachFitted
  dsimp only
  split <;> split <;> simp [h]

@[simp] theorem aside_clearArcs (s : State) (p : Pan) : aside (s.clearArcs p) = aside s := rfl

@[simp] theorem aside_driveTo (s : State) (p : Pan) (st : DriveState) (c : Option BlockCause) :
    aside (s.driveTo p st c) = aside s := by
  unfold State.driveTo
  dsimp only
  split <;> simp

@[simp] theorem aside_sendDrive (s : State) (p : Pan) (n : Notice) (o : Outstanding) : aside (s.sendDrive p n o) = aside s :=
  aside_sendOr _ _ _ fun _ => rfl

@[simp] theorem aside_sendYield (s : State) (p : Pan) : aside (s.sendYield p) = aside s := by simp [State.sendYield]

@[simp] theorem aside_sendBlocked (s : State) (p : Pan) : aside (s.sendBlocked p) = aside s := by simp [State.sendBlocked]

@[simp] theorem aside_takeHousing (s : State) (p : Pan) : aside (s.takeHousing p) = aside s := by
  unfold State.takeHousing
  dsimp only
  repeat' split
  all_goals simp

@[simp] theorem aside_housedAlready (s : State) (p : Pan) : aside (s.housedAlready p) = aside s := by
  unfold State.housedAlready
  split <;> simp

@[simp] theorem aside_scraperTo (s : State) (ph : ScraperPhase) : aside (s.scraperTo ph) = aside s := by
  simp [State.scraperTo]

@[simp] theorem aside_scraperLosesClaim (s : State) (p : Pan) : aside (s.scraperLosesClaim p) = aside s := by
  unfold State.scraperLosesClaim
  split <;> simp

@[simp] theorem aside_withdrawClaim (s : State) (p : Pan) : aside (s.withdrawClaim p) = aside s := by
  unfold State.withdrawClaim
  split <;> simp

@[simp] theorem aside_yieldClaim (s : State) (p : Pan) : aside (s.yieldClaim p) = aside s := by
  simp [State.yieldClaim]

@[simp] theorem aside_cancelClaim (s : State) (p : Pan) : aside (s.cancelClaim p) = aside s := by
  unfold State.cancelClaim
  dsimp only
  split <;> simp

@[simp] theorem aside_enterLowering (s : State) (p : Pan) : aside (s.enterLowering p) = aside s := by
  simp [State.enterLowering]

@[simp] theorem aside_orderDown (s : State) (p : Pan) (c : DownCause) : aside (s.orderDown p c) = aside s := by
  unfold State.orderDown
  dsimp only
  repeat' split
  all_goals simp

@[simp] theorem aside_orderAllDown (s : State) (c : DownCause) : aside (s.orderAllDown c) = aside s :=
  aside_eachFitted _ _ fun _ _ => aside_orderDown _ _ _

@[simp] theorem aside_endScraper (s : State) : aside s.endScraper = aside s := by
  unfold State.endScraper
  split <;> simp

/-- A request of an isolator position leaves the round record, the roster unit, the configuration and the breaker reasons. -/
theorem requestIso_leaves (s : State) (p : Pan) (x : IsoPos) (b : Bool) :
    (s.requestIso p x b).cu = s.cu ∧ (s.requestIso p x b).ru = s.ru ∧ (s.requestIso p x b).sc = s.sc ∧
      (s.requestIso p x b).sg.reasons = s.sg.reasons := by
  unfold State.requestIso State.serveIso
  dsimp only
  repeat' split
  all_goals exact ⟨rfl, rfl, rfl, rfl⟩

/-- What a scraper run does at a round's opening leaves the same units alone, whatever its phase. -/
theorem scraperMeetsRound_leaves (s : State) :
    s.scraperMeetsRound.cu = s.cu ∧ s.scraperMeetsRound.ru = s.ru ∧ s.scraperMeetsRound.sc = s.sc ∧
      s.scraperMeetsRound.sg.reasons = s.sg.reasons := by
  unfold State.scraperMeetsRound
  split
  · exact requestIso_leaves _ _ _ _
  · have h := aside_endScraper s
    exact ⟨aside_cu h, aside_ru h, aside_sc h, congrArg (fun x => x.reasons) (aside_sg h)⟩

@[simp] theorem aside_followUsable (s : State) : aside s.followUsable = aside s := by
  unfold State.followUsable
  split <;> simp

@[simp] theorem aside_dropRaises (s : State) : aside s.dropRaises = aside s :=
  aside_eachFitted _ _ fun _ _ => by split <;> simp

@[simp] theorem aside_endClaimByBlock (s : State) (p : Pan) : aside (s.endClaimByBlock p) = aside s := by
  unfold State.endClaimByBlock
  split <;> simp

@[simp] theorem aside_dropDrive (s : State) (p : Pan) (c : BlockCause) : aside (s.dropDrive p c) = aside s := by
  unfold State.dropDrive
  dsimp only
  repeat' split
  all_goals simp

end Sys2Proof.Laws
end

