-- ==== Sys2Proof/Laws/Ground.lean ====
section
/-! SUPPORT. What the application of a notice leaves alone: one lemma per operation it uses, up to `deliver_ground`. -/

namespace Sys2Proof.Laws

open Sys2Proof.Machine

theorem ground_of_base {s t : State} (h : t.base = s.base) : t.base.ground = s.base.ground := by rw [h]

@[simp] theorem ground_mapRu (s : State) (f : Ru → Ru) : (s.mapRu f).base.ground = s.base.ground := rfl

@[simp] theorem ground_mapSq (s : State) (f : Sq → Sq) (h : ∀ q, (f q).nextId = q.nextId) :
    (s.mapSq f).base.ground = s.base.ground := by
  simp [State.base, Base.ground, h]

@[simp] theorem ground_mapIu (s : State) (f : Iu → Iu)
    (h : ∀ x, (f x).forced = x.forced ∧ (f x).noCollector = x.noCollector ∧ (f x).hostHeat = x.hostHeat) :
    (s.mapIu f).base.ground = s.base.ground := by
  simp [State.base, Base.ground, h]

theorem ground_foldl {α : Type} (l : List α) (f : State → α → State)
    (h : ∀ t x, (f t x).base.ground = t.base.ground) (s : State) : (l.foldl f s).base.ground = s.base.ground := by
  induction l generalizing s with
  | nil => rfl
  | cons x xs ih => simp [ih, h]

theorem ground_eachFitted (s : State) (f : Pan → State → State) (h : ∀ p t, (f p t).base.ground = t.base.ground) :
    (s.eachFitted f).base.ground = s.base.ground := by
  unfold State.eachFitted
  dsimp only
  split <;> split <;> simp [h]

@[simp] theorem ground_mapPeer (s : State) (n : Nat) (f : Peer → Peer) :
    (s.mapPeer n f).base.ground = s.base.ground := rfl

theorem ground_sendOr (s : State) (n : Notice) (f : State → State) (h : ∀ t, (f t).base.ground = t.base.ground) :
    (s.sendOr n f).base.ground = s.base.ground := by
  have hq := base_queueInternal s n
  unfold State.sendOr
  split <;> simp_all

@[simp] theorem ground_mapEntry (s : State) (n : Nat) (p : Pan) (f : Entry → Entry) : (s.mapEntry n p f).base.ground = s.base.ground := by
  unfold State.mapEntry
  try dsimp only
  repeat' split
  all_goals simp

@[simp] theorem ground_addReady (s : State) (n : Nat) : (s.addReady n).base.ground = s.base.ground := by
  unfold State.addReady
  try dsimp only
  repeat' split
  all_goals simp

@[simp] theorem ground_dropReady (s : State) (n : Nat) : (s.dropReady n).base.ground = s.base.ground := by
  unfold State.dropReady
  try dsimp only
  repeat' split
  all_goals simp

@[simp] theorem ground_withdrawObjects (s : State) (target : Target) : (s.withdrawObjects target).base.ground = s.base.ground := by
  unfold State.withdrawObjects
  try dsimp only
  repeat' split
  all_goals simp

@[simp] theorem ground_dropContest (s : State) (target : Target) : (s.dropContest target).base.ground = s.base.ground := by
  unfold State.dropContest
  try dsimp only
  repeat' split
  all_goals simp

@[simp] theorem ground_closeContest (s : State) (target : Target) : (s.closeContest target).base.ground = s.base.ground := by
  unfold State.closeContest
  try dsimp only
  repeat' split
  all_goals simp

@[simp] theorem ground_closeContests (s : State) (p : Contest → Bool) :
    (s.closeContests p).base.ground = s.base.ground := by
  unfold State.closeContests
  exact ground_foldl _ _ (fun t (c : Contest) => ground_closeContest t c.target) s

@[simp] theorem ground_closeClaims (s : State) (n : Nat) (p : Pan) : (s.closeClaims n p).base.ground = s.base.ground := by
  unfold State.closeClaims
  try dsimp only
  repeat' split
  all_goals simp

@[simp] theorem ground_closeStationClaims (s : State) (n : Nat) : (s.closeStationClaims n).base.ground = s.base.ground := by
  unfold State.closeStationClaims
  try dsimp only
  repeat' split
  all_goals simp

@[simp] theorem ground_closeStation (s : State) (n : Nat) : (s.closeStation n).base.ground = s.base.ground := by
  unfold State.closeStation
  try dsimp only
  repeat' split
  all_goals simp

@[simp] theorem ground_openContest (s : State) (target : Target) (body : ContestBody) : (s.openContest target body).base.ground = s.base.ground := by
  unfold State.openContest
  try dsimp only
  repeat' split
  all_goals simp

@[simp] theorem ground_markObjected (s : State) (target : Target) : (s.markObjected target).base.ground = s.base.ground := by
  unfold State.markObjected
  try dsimp only
  repeat' split
  all_goals simp

@[simp] theorem ground_loseEntries (s : State) (n : Nat) : (s.loseEntries n).base.ground = s.base.ground := by
  unfold State.loseEntries
  try dsimp only
  repeat' split
  all_goals simp

@[simp] theorem ground_removeEntries (s : State) (n : Nat) : (s.removeEntries n).base.ground = s.base.ground := by
  unfold State.removeEntries
  try dsimp only
  repeat' split
  all_goals simp

@[simp] theorem ground_aim (s : State) (p : Pan) (v : Valve) : (s.aim p v).base.ground = s.base.ground :=
  ground_of_base (by simp)

@[simp] theorem ground_clearArcs (s : State) (p : Pan) : (s.clearArcs p).base.ground = s.base.ground :=
  ground_of_base (by simp)

@[simp] theorem ground_driveTo (s : State) (p : Pan) (st : DriveState) (cause : Option BlockCause) : (s.driveTo p st cause).base.ground = s.base.ground :=
  ground_of_base (by simp)

@[simp] theorem ground_sendDrive (s : State) (p : Pan) (n : Notice) (o : Outstanding) : (s.sendDrive p n o).base.ground = s.base.ground :=
  ground_of_base (by simp)

@[simp] theorem ground_sendBlocked (s : State) (p : Pan) : (s.sendBlocked p).base.ground = s.base.ground :=
  ground_of_base (by simp)

@[simp] theorem ground_sendYield (s : State) (p : Pan) : (s.sendYield p).base.ground = s.base.ground :=
  ground_of_base (by simp)

@[simp] theorem ground_takeHousing (s : State) (p : Pan) : (s.takeHousing p).base.ground = s.base.ground :=
  ground_of_base (by simp)

@[simp] theorem ground_housedAlready (s : State) (p : Pan) : (s.housedAlready p).base.ground = s.base.ground :=
  ground_of_base (by simp)

@[simp] theorem ground_scraperTo (s : State) (ph : ScraperPhase) : (s.scraperTo ph).base.ground = s.base.ground :=
  ground_of_base (by simp)

@[simp] theorem ground_scraperLosesClaim (s : State) (p : Pan) : (s.scraperLosesClaim p).base.ground = s.base.ground :=
  ground_of_base (by simp)

@[simp] theorem ground_queueClaim (s : State) (p : Pan) (r : Role) : (s.queueClaim p r).base.ground = s.base.ground :=
  ground_of_base (by simp)

@[simp] theorem ground_withdrawClaim (s : State) (p : Pan) : (s.withdrawClaim p).base.ground = s.base.ground :=
  ground_of_base (by simp)

@[simp] theorem ground_yieldClaim (s : State) (p : Pan) : (s.yieldClaim p).base.ground = s.base.ground :=
  ground_of_base (by simp)

@[simp] theorem ground_cancelClaim (s : State) (p : Pan) : (s.cancelClaim p).base.ground = s.base.ground :=
  ground_of_base (by simp)

@[simp] theorem ground_enterLowering (s : State) (p : Pan) : (s.enterLowering p).base.ground = s.base.ground :=
  ground_of_base (by simp)

@[simp] theorem ground_orderDown (s : State) (p : Pan) (c : DownCause) : (s.orderDown p c).base.ground = s.base.ground :=
  ground_of_base (by simp)

@[simp] theorem ground_orderAllDown (s : State) (c : DownCause) : (s.orderAllDown c).base.ground = s.base.ground :=
  ground_of_base (by simp)

@[simp] theorem ground_refusedRole (s : State) (r : Option Role) : (s.refusedRole r).base.ground = s.base.ground := by
  unfold State.refusedRole
  try dsimp only
  repeat' split
  all_goals simp

@[simp] theorem ground_refuseStanding (s : State) (p : Pan) (reason : Byte) : (s.refuseStanding p reason).base.ground = s.base.ground := by
  unfold State.refuseStanding
  try dsimp only
  repeat' split
  all_goals simp

@[simp] theorem ground_refuse (s : State) (p : Pan) (seq reason : Byte) : (s.refuse p seq reason).base.ground = s.base.ground := by
  unfold State.refuse
  try dsimp only
  repeat' split
  all_goals simp

@[simp] theorem ground_enterRaising (s : State) (p : Pan) : (s.enterRaising p).base.ground = s.base.ground := by
  unfold State.enterRaising
  try dsimp only
  repeat' split
  all_goals simp

@[simp] theorem ground_goAhead (s : State) (p : Pan) (seq : Byte) : (s.goAhead p seq).base.ground = s.base.ground := by
  unfold State.goAhead
  try dsimp only
  repeat' split
  all_goals simp

@[simp] theorem ground_claimEcho (s : State) (p : Pan) (seq : Byte) (reason : Option ObjectReason) : (s.claimEcho p seq reason).base.ground = s.base.ground := by
  unfold State.claimEcho
  try dsimp only
  repeat' split
  all_goals simp

@[simp] theorem ground_claimFollows (s : State) (p : Pan) : (s.claimFollows p).base.ground = s.base.ground :=
  ground_of_base (by simp)

@[simp] theorem ground_claimEnds (s : State) (p : Pan) : (s.claimEnds p).base.ground = s.base.ground := by
  unfold State.claimEnds
  try dsimp only
  repeat' split
  all_goals simp

@[simp] theorem ground_gearFault (s : State) (k : FaultKind) (d : FaultDetail) (p : Option Pan) : (s.gearFault k d p).base.ground = s.base.ground :=
  ground_of_base (by simp)

@[simp] theorem ground_answerCu (s : State) (b : Bool) : (s.answerCu b).base.ground = s.base.ground :=
  ground_of_base (by simp)

@[simp] theorem ground_startLeg (s : State) (dest : SelPos) : (s.startLeg dest).base.ground = s.base.ground :=
  ground_of_base (by simp)

@[simp] theorem ground_requestSelector (s : State) (dest : SelPos) : (s.requestSelector dest).base.ground = s.base.ground :=
  ground_of_base (by simp)

@[simp] theorem ground_selectorArrival (s : State) : s.selectorArrival.base.ground = s.base.ground :=
  ground_of_base (by simp)


@[simp] theorem ground_serveIso (s : State) (p : Pan) : (s.serveIso p).base.ground = s.base.ground :=
  ground_of_base (by simp)

@[simp] theorem ground_requestIso (s : State) (p : Pan) (pos : IsoPos) (byIu : Bool) : (s.requestIso p pos byIu).base.ground = s.base.ground :=
  ground_of_base (by simp)

@[simp] theorem ground_isoArrival (s : State) (p : Pan) : (s.isoArrival p).base.ground = s.base.ground :=
  ground_of_base (by simp)

@[simp] theorem ground_supervise (s : State) : s.supervise.base.ground = s.base.ground :=
  ground_of_base (by simp)

@[simp] theorem ground_watchDeadLine (s : State) : s.watchDeadLine.base.ground = s.base.ground :=
  ground_of_base (by simp)

@[simp] theorem ground_removeSections (s : State) (p : SectionEntry → Bool) :
    (s.removeSections p).base.ground = s.base.ground := by
  unfold State.removeSections
  rw [ground_foldl _ _ (fun t e => ground_of_base (base_withdraw t _))]
  simp

@[simp] theorem ground_flushSections (s : State) : s.flushSections.base.ground = s.base.ground := by
  unfold State.flushSections
  try dsimp only
  repeat' split
  all_goals simp

@[simp] theorem ground_rewriteSections (s : State) : s.rewriteSections.base.ground = s.base.ground := by
  unfold State.rewriteSections
  try dsimp only
  repeat' split
  all_goals simp

@[simp] theorem ground_insertSection (s : State) (e : SectionEntry) : (s.insertSection e).base.ground = s.base.ground := by
  unfold State.insertSection
  try dsimp only
  repeat' split
  all_goals simp

@[simp] theorem ground_intake (s : State) (e : SectionEntry) : (s.intake e).base.ground = s.base.ground := by
  unfold State.intake
  try dsimp only
  repeat' split
  all_goals simp

@[simp] theorem ground_applySection (s : State) (o i k tg : Byte) (distance length : Word16) : (s.applySection o i k tg distance length).base.ground = s.base.ground := by
  unfold State.applySection
  try dsimp only
  repeat' split
  all_goals simp

@[simp] theorem ground_holdNeutral (s : State) : s.holdNeutral.base.ground = s.base.ground :=
  ground_of_base (by simp)

@[simp] theorem ground_neutralTest (s : State) (p : Pan) : (s.neutralTest p).base.ground = s.base.ground :=
  ground_of_base (by simp)

@[simp] theorem ground_holdRaises (s : State) : s.holdRaises.base.ground = s.base.ground :=
  ground_of_base (by simp)

@[simp] theorem ground_markProposed (s : State) (k : SectionKey) (b : Bool) : (s.markProposed k b).base.ground = s.base.ground :=
  ground_of_base (by simp)

@[simp] theorem ground_autoPropose (s : State) : s.autoPropose.base.ground = s.base.ground :=
  ground_of_base (by simp)

@[simp] theorem ground_sectionsAtOpening (s : State) (k : Option SectionKey) :
    (s.sectionsAtOpening k).base.ground = s.base.ground := by
  unfold State.sectionsAtOpening
  exact ground_foldl _ _ (fun t e => by repeat' split
                                        all_goals simp) s

@[simp] theorem ground_refreshIce (s : State) : s.refreshIce.base.ground = s.base.ground :=
  ground_of_base (by simp)

@[simp] theorem ground_observe (s : State) (o : Ice) : (s.observe o).base.ground = s.base.ground := by
  unfold State.observe
  try dsimp only
  repeat' split
  all_goals simp

@[simp] theorem ground_startScraper (s : State) : s.startScraper.base.ground = s.base.ground :=
  ground_of_base (by simp)

@[simp] theorem ground_closeScraper (s : State) (p : Pan) : (s.closeScraper p).base.ground = s.base.ground :=
  ground_of_base (by simp)

@[simp] theorem ground_endScraper (s : State) : s.endScraper.base.ground = s.base.ground :=
  ground_of_base (by simp)

@[simp] theorem ground_scraperMeetsRound (s : State) : s.scraperMeetsRound.base.ground = s.base.ground :=
  ground_of_base (by simp)

@[simp] theorem ground_askScraper (s : State) : s.askScraper.base.ground = s.base.ground :=
  ground_of_base (by simp)

@[simp] theorem ground_followScraper (s : State) : s.followScraper.base.ground = s.base.ground :=
  ground_of_base (by simp)

@[simp] theorem ground_scraperReopens (s : State) (p : Pan) : (s.scraperReopens p).base.ground = s.base.ground := by
  unfold State.scraperReopens
  try dsimp only
  repeat' split
  all_goals simp

@[simp] theorem ground_changeRegime (s : State) (system : Option Supply) (band : Fin 4) (direction : Direction) : (s.changeRegime system band direction).base.ground = s.base.ground := by
  unfold State.changeRegime
  try dsimp only
  repeat' split
  all_goals simp

@[simp] theorem ground_setSystem (s : State) (system : Option Supply) : (s.setSystem system).base.ground = s.base.ground := by
  unfold State.setSystem
  try dsimp only
  repeat' split
  all_goals simp

@[simp] theorem ground_phaseTo (s : State) (ph : RoundPhase) : (s.phaseTo ph).base.ground = s.base.ground :=
  ground_of_base (by simp)

@[simp] theorem ground_enterReady (s : State) : s.enterReady.base.ground = s.base.ground :=
  ground_of_base (by simp)

@[simp] theorem ground_enterSwitch (s : State) : s.enterSwitch.base.ground = s.base.ground :=
  ground_of_base (by simp)

@[simp] theorem ground_enterLower (s : State) : (s.enterLower).base.ground = s.base.ground := by
  have h : ∀ u : State, (u.eachFitted fun p v => if (v.drive p).state = .down then v else v.orderDown p .round).base.ground =
      u.base.ground := fun u => ground_eachFitted _ _ fun p v => by split <;> simp
  unfold State.enterLower
  dsimp only
  repeat' split
  all_goals simp [h]

@[simp] theorem ground_testLower (s : State) : s.testLower.base.ground = s.base.ground := by
  unfold State.testLower
  try dsimp only
  repeat' split
  all_goals simp

@[simp] theorem ground_dropRaises (s : State) : (s.dropRaises).base.ground = s.base.ground := by
  unfold State.dropRaises
  try dsimp only
  exact ground_eachFitted _ _ fun p t => by split <;> simp

@[simp] theorem ground_enterGather (s : State) : s.enterGather.base.ground = s.base.ground := by
  unfold State.enterGather
  try dsimp only
  repeat' split
  all_goals simp

@[simp] theorem ground_openRound (s : State) (n : Byte) (target : Supply) (k : RoundKey) (a b : Option Word32) : (s.openRound n target k a b).base.ground = s.base.ground := by
  unfold State.openRound
  try dsimp only
  repeat' split
  all_goals simp

@[simp] theorem ground_probesToCollectors (s : State) : s.probesToCollectors.base.ground = s.base.ground := by
  have h : ∀ (t : State) (p : Pan) (b : Bool), (t.mapPd p fun d =>
      if d.role = some .probe && b then { d with role := some .collector } else d).base = t.base := fun t p b =>
    base_mapPd t p _ fun d => by split <;> simp
  unfold State.probesToCollectors
  dsimp only
  rw [h, h]
  rfl

@[simp] theorem ground_dropProbe (s : State) : (s.dropProbe).base.ground = s.base.ground := by
  unfold State.dropProbe
  try dsimp only
  exact ground_eachFitted _ _ fun p t => by repeat' split
                                            all_goals simp

@[simp] theorem ground_closeRecord (s : State) (o : RoundOutcome) (reason : Option CloseReason) : (s.closeRecord o reason).base.ground = s.base.ground := by
  unfold State.closeRecord
  try dsimp only
  repeat' split
  all_goals simp

@[simp] theorem ground_announceClose (s : State) (o : RoundOutcome) (reason : Option CloseReason) : (s.announceClose o reason).base.ground = s.base.ground := by
  unfold State.announceClose
  try dsimp only
  repeat' split
  all_goals simp

@[simp] theorem ground_withdrawCloses (s : State) : s.withdrawCloses.base.ground = s.base.ground := by
  unfold State.withdrawCloses
  split <;> simp

@[simp] theorem ground_closeDone (s : State) : s.closeDone.base.ground = s.base.ground := by
  unfold State.closeDone
  try dsimp only
  repeat' split
  all_goals simp

@[simp] theorem ground_closeAborted (s : State) (reason : CloseReason) : (s.closeAborted reason).base.ground = s.base.ground := by
  unfold State.closeAborted
  try dsimp only
  repeat' split
  all_goals simp

@[simp] theorem ground_closeLocal (s : State) : s.closeLocal.base.ground = s.base.ground :=
  ground_of_base (by simp)

@[simp] theorem ground_enterCatchUp (s : State) : s.enterCatchUp.base.ground = s.base.ground := by
  unfold State.enterCatchUp
  try dsimp only
  repeat' split
  all_goals simp

@[simp] theorem ground_roundDone (s : State) : s.roundDone.base.ground = s.base.ground := by
  unfold State.roundDone
  try dsimp only
  repeat' split
  all_goals simp

@[simp] theorem ground_adopt (s : State) (n64 : Nat) : (s.adopt n64).base.ground = s.base.ground := by
  have h : ∀ u : State, (u.eachFitted fun p v => if (v.drive p).state = .down then v else v.orderDown p .round).base.ground =
      u.base.ground := fun u => ground_eachFitted _ _ fun p v => by split <;> simp
  unfold State.adopt
  simp [h]

@[simp] theorem ground_completeAdoption (s : State) (n : Byte) (target : Supply) (k : RoundKey) (a b : Option Word32) : (s.completeAdoption n target k a b).base.ground = s.base.ground := by
  unfold State.completeAdoption
  try dsimp only
  repeat' split
  all_goals simp

@[simp] theorem ground_applyPropose (s : State) (origin : Nat) (n tg o i : Byte) (d len : Word16) : (s.applyPropose origin n tg o i d len).base.ground = s.base.ground := by
  unfold State.applyPropose
  try dsimp only
  repeat' split
  all_goals simp

@[simp] theorem targetOf_supplyCode (x : Supply) : targetOf (supplyCode x) = some (some x) := by cases x <;> decide

@[simp] theorem targetOf_none : targetOf 0 = some none := by decide

@[simp] theorem meetRound_none (s : State) (n : Byte) : s.meetRound n none = if s.namesCurrent n then some s else none := rfl

theorem ground_meetRound (s u : State) (n : Byte) (target : Option Supply) (hu : s.meetRound n target = some u) :
    u.base.ground = s.base.ground := by
  unfold State.meetRound at hu
  dsimp only at hu
  repeat' split at hu
  all_goals simp only [Option.some.injEq, reduceCtorEq] at hu
  all_goals subst hu
  all_goals simp

@[simp] theorem ground_applyReady (s : State) (origin : Nat) (n tg : Byte) :
    (s.applyReady origin n tg).base.ground = s.base.ground := by
  unfold State.applyReady
  split
  · rfl
  · split
    · rename_i t ht
      simpa using ground_meetRound _ _ _ _ ht
    · rfl

@[simp] theorem ground_applyProbe (s : State) (n tg m : Byte) : (s.applyProbe n tg m).base.ground = s.base.ground := by
  unfold State.applyProbe
  split
  · split
    · rfl
    · split
      · rename_i t ht
        have hk := ground_meetRound _ _ _ _ ht
        repeat' split
        all_goals simp [hk]
      · rfl
  · rfl

@[simp] theorem ground_applyAbort (s : State) (n tg r : Byte) : (s.applyAbort n tg r).base.ground = s.base.ground := by
  unfold State.applyAbort
  split
  · split
    · rfl
    · split
      · rename_i t ht
        have hk := ground_meetRound _ _ _ _ ht
        repeat' split
        all_goals simp [hk]
      · rfl
  · rfl

@[simp] theorem ground_takeRoundByte (s : State) (origin : Nat) (present : Bool) (round : Byte) (system : Option Supply) : (s.takeRoundByte origin present round system).base.ground = s.base.ground := by
  unfold State.takeRoundByte
  try dsimp only
  repeat' split
  all_goals simp

@[simp] theorem ground_sendClose (s : State) (n : Notice) : (s.sendClose n).base.ground = s.base.ground := by
  unfold State.sendClose
  try dsimp only
  exact ground_sendOr _ _ _ fun t => ground_of_base (by simp)

@[simp] theorem ground_reportProbe (s : State) : s.reportProbe.base.ground = s.base.ground := by
  unfold State.reportProbe
  try dsimp only
  repeat' split
  all_goals simp

@[simp] theorem ground_judgeProbe (s : State) : s.judgeProbe.base.ground = s.base.ground := by
  unfold State.judgeProbe
  try dsimp only
  repeat' split
  all_goals simp

@[simp] theorem ground_askProbe (s : State) : s.askProbe.base.ground = s.base.ground :=
  ground_of_base (by simp)

@[simp] theorem ground_followProbeEntry (s : State) : s.followProbeEntry.base.ground = s.base.ground :=
  ground_of_base (by simp)

@[simp] theorem ground_followProbeWait (s : State) : s.followProbeWait.base.ground = s.base.ground :=
  ground_of_base (by simp)

@[simp] theorem ground_takeAnswer (s : State) : s.takeAnswer.base.ground = s.base.ground :=
  ground_of_base (by simp)

@[simp] theorem ground_followPhase (s : State) : s.followPhase.base.ground = s.base.ground :=
  ground_of_base (by simp)

@[simp] theorem ground_setGrant (s : State) (n units : Nat) : (s.setGrant n units).base.ground = s.base.ground := by
  unfold State.setGrant
  try dsimp only
  repeat' split
  all_goals simp

@[simp] theorem ground_followDemand (s : State) : s.followDemand.base.ground = s.base.ground :=
  ground_of_base (by simp)

@[simp] theorem ground_followUsable (s : State) : s.followUsable.base.ground = s.base.ground :=
  ground_of_base (by simp)


@[simp] theorem ground_refreshDuties (s : State) : s.refreshDuties.base.ground = s.base.ground :=
  ground_of_base (by simp)

@[simp] theorem ground_takeFails (s : State) : s.takeFails.base.ground = s.base.ground :=
  ground_of_base (by simp)

@[simp] theorem ground_askHeat (s : State) : s.askHeat.base.ground = s.base.ground :=
  ground_of_base (by simp)

@[simp] theorem ground_refuseHeat (s : State) (reason : Byte) : (s.refuseHeat reason).base.ground = s.base.ground := by
  unfold State.refuseHeat
  try dsimp only
  repeat' split
  all_goals simp

@[simp] theorem ground_giveHeat (s : State) (units : Nat) : (s.giveHeat units).base.ground = s.base.ground :=
  ground_of_base (by simp)

@[simp] theorem ground_object (s : State) (target : Target) (r : Option ObjectReason) : (s.object target r).base.ground = s.base.ground := by
  unfold State.object
  try dsimp only
  repeat' split
  all_goals simp

@[simp] theorem ground_applyClaim (s : State) (n : Nat) (seq pan role : Byte) : (s.applyClaim n seq pan role).base.ground = s.base.ground := by
  unfold State.applyClaim
  try dsimp only
  repeat' split
  all_goals simp

@[simp] theorem ground_applyRegime (s : State) (n : Nat) (seq band direction : Byte) : (s.applyRegime n seq band direction).base.ground = s.base.ground := by
  unfold State.applyRegime
  try dsimp only
  repeat' split
  all_goals simp

@[simp] theorem ground_applyHeatTake (s : State) (n : Nat) (seq units : Byte) : (s.applyHeatTake n seq units).base.ground = s.base.ground := by
  unfold State.applyHeatTake
  try dsimp only
  repeat' split
  all_goals simp

@[simp] theorem ground_objectClaim (s : State) (target : Target) (reason : Byte) : (s.objectClaim target reason).base.ground = s.base.ground := by
  unfold State.objectClaim
  try dsimp only
  repeat' split
  all_goals simp

@[simp] theorem ground_closeLaterRegimes (s : State) (target : Target) :
    (s.closeLaterRegimes target).base.ground = s.base.ground := by
  unfold State.closeLaterRegimes
  exact ground_foldl _ _ (fun t (c : Contest) => ground_closeContest t c.target) s

@[simp] theorem ground_undo (s : State) (target : Target) (reason : Byte) : (s.undo target reason).base.ground = s.base.ground := by
  unfold State.undo
  try dsimp only
  repeat' split
  all_goals simp

@[simp] theorem ground_applyObject (s : State) (station seq kind reason : Byte) : (s.applyObject station seq kind reason).base.ground = s.base.ground := by
  unfold State.applyObject
  try dsimp only
  repeat' split
  all_goals simp

@[simp] theorem ground_applyField (s : State) (n : Nat) (p : Pan) (w : Word16) : (s.applyField n p w).base.ground = s.base.ground := by
  unfold State.applyField
  try dsimp only
  repeat' split
  all_goals simp

@[simp] theorem ground_applyFields (s : State) (n : Nat) (r : Report) : (s.applyFields n r).base.ground = s.base.ground := by
  unfold State.applyFields
  try dsimp only
  repeat' split
  all_goals simp

@[simp] theorem ground_announcePeer (s : State) (n : Nat) (before : Peer) : (s.announcePeer n before).base.ground = s.base.ground := by
  unfold State.announcePeer
  try dsimp only
  repeat' split
  all_goals simp

@[simp] theorem ground_settleRegime (s : State) (r : Report) : (s.settleRegime r).base.ground = s.base.ground := by
  unfold State.settleRegime
  try dsimp only
  repeat' split
  all_goals simp

@[simp] theorem ground_applyPeerReport (s : State) (n : Nat) (present : Bool) (r : Report) : (s.applyPeerReport n present r).base.ground = s.base.ground := by
  unfold State.applyPeerReport
  try dsimp only
  repeat' split
  all_goals simp

@[simp] theorem ground_applyOwnReport (s : State) (r : Report) : (s.applyOwnReport r).base.ground = s.base.ground := by
  unfold State.applyOwnReport
  try dsimp only
  repeat' split
  all_goals simp

@[simp] theorem ground_applyReport (s : State) (n : Nat) (present : Bool) (r : Report) : (s.applyReport n present r).base.ground = s.base.ground := by
  unfold State.applyReport
  try dsimp only
  repeat' split
  all_goals simp

@[simp] theorem ground_applyRaised (s : State) (n : Nat) (pan role : Byte) : (s.applyRaised n pan role).base.ground = s.base.ground := by
  unfold State.applyRaised
  try dsimp only
  repeat' split
  all_goals simp

@[simp] theorem ground_withdrawClaimObjects (s : State) (n : Nat) (p : Pan) :
    (s.withdrawClaimObjects n p).base.ground = s.base.ground := by
  unfold State.withdrawClaimObjects
  split
  all_goals simp

@[simp] theorem ground_clearEntry (s : State) (n : Nat) (p : Pan) (st : EntryState) : (s.clearEntry n p st).base.ground = s.base.ground := by
  unfold State.clearEntry
  try dsimp only
  repeat' split
  all_goals simp

@[simp] theorem ground_applyYield (s : State) (n : Nat) (pan : Byte) : (s.applyYield n pan).base.ground = s.base.ground := by
  unfold State.applyYield
  try dsimp only
  repeat' split
  all_goals simp

@[simp] theorem ground_applyDrop (s : State) (n : Nat) (pan phase : Byte) : (s.applyDrop n pan phase).base.ground = s.base.ground := by
  unfold State.applyDrop
  try dsimp only
  repeat' split
  all_goals simp

@[simp] theorem ground_applyFault (s : State) (n : Nat) (code pan detail : Byte) : (s.applyFault n code pan detail).base.ground = s.base.ground := by
  unfold State.applyFault
  try dsimp only
  repeat' split
  all_goals simp

@[simp] theorem ground_applyLeave (s : State) (n : Nat) (flags : Byte) : (s.applyLeave n flags).base.ground = s.base.ground := by
  unfold State.applyLeave
  try dsimp only
  repeat' split
  all_goals simp

@[simp] theorem ground_applyIce (s : State) (n : Nat) (o : Byte) : (s.applyIce n o).base.ground = s.base.ground := by
  unfold State.applyIce
  try dsimp only
  repeat' split
  all_goals simp

@[simp] theorem ground_applyGive (s : State) (n : Nat) (units : Byte) : (s.applyGive n units).base.ground = s.base.ground := by
  unfold State.applyGive
  try dsimp only
  repeat' split
  all_goals simp

@[simp] theorem ground_heard (s : State) (n : Nat) : (s.heard n).base.ground = s.base.ground := by
  unfold State.heard
  try dsimp only
  repeat' split
  all_goals simp

/-- The application of a notice leaves the ground alone. -/
@[simp] theorem deliver_ground (s : State) (n : Nat) (seq : Byte) (x : Notice) :
    (s.deliver n seq x).base.ground = s.base.ground := by
  unfold State.deliver State.applyNotice
  cases x <;> simp

/-- What the units make of a roster changed by a doubt leaves the base alone. -/
@[simp] theorem base_rosterMoves (s : State) : s.rosterMoves.base = s.base := by simp [State.rosterMoves]

@[simp] theorem ground_markDoubtful (s : State) (n : Nat) : (s.markDoubtful n).base.ground = s.base.ground := by
  unfold State.markDoubtful
  try dsimp only
  repeat' split
  all_goals simp

end Sys2Proof.Laws
end

