-- ==== Sys2Proof/Laws/Settle.lean ====
section
/-! SUPPORT. What the hand-offs of a step leave alone, field by field, and more operations that leave the base of a state
alone or change it in one named place. -/

namespace Sys2Proof.Laws

open Sys2Proof.Machine

/-! ## The fields `settle` leaves alone -/

theorem settle_keeps {α : Type} (f : Base → α) (s : State) : f s.settle.base = f s.base := by rw [settle_base]

@[simp] theorem settle_pending (s : State) : s.settle.pending = s.pending := by
  simpa only [State.base] using settle_keeps Base.pending s

@[simp] theorem settle_now (s : State) : s.settle.now = s.now := by
  simpa only [State.base] using settle_keeps Base.now s

@[simp] theorem settle_dropLine (s : State) : s.settle.dropLine = s.dropLine := by
  simpa only [State.base] using settle_keeps Base.dropLine s

@[simp] theorem settle_pins (s : State) : s.settle.pins = s.pins := by
  simpa only [State.base] using settle_keeps Base.pins s

@[simp] theorem settle_mu (s : State) : s.settle.mu = s.mu := by
  simpa only [State.base] using settle_keeps Base.mu s

@[simp] theorem settle_strap (s : State) : s.settle.sc.strap = s.sc.strap := by
  simpa only [State.base] using settle_keeps Base.strap s

@[simp] theorem settle_config (s : State) : s.settle.sc.config = s.sc.config := by
  simpa only [State.base] using settle_keeps Base.config s

@[simp] theorem settle_locked (s : State) : s.settle.sc.locked = s.sc.locked := by
  simpa only [State.base] using settle_keeps Base.locked s

@[simp] theorem settle_fingerprint (s : State) : s.settle.sc.fingerprint = s.sc.fingerprint := by
  simpa only [State.base] using settle_keeps Base.fingerprint s

@[simp] theorem settle_supplyLow (s : State) : s.settle.sc.supplyLow = s.sc.supplyLow := by
  simpa only [State.base] using settle_keeps Base.supplyLow s

@[simp] theorem settle_port (s : State) : s.settle.rlp.port = s.rlp.port := by
  simpa only [State.base] using settle_keeps Base.port s

@[simp] theorem settle_nextSeq (s : State) : s.settle.rlp.nextSeq = s.rlp.nextSeq := by
  simpa only [State.base] using settle_keeps Base.nextSeq s

@[simp] theorem settle_expected (s : State) : s.settle.rlp.expected = s.rlp.expected := by
  simpa only [State.base] using settle_keeps Base.expected s

@[simp] theorem settle_collisions (s : State) : s.settle.rlp.collisions = s.rlp.collisions := by
  simpa only [State.base] using settle_keeps Base.collisions s

@[simp] theorem settle_recentSender (s : State) : s.settle.rlp.recentSender = s.rlp.recentSender := by
  simpa only [State.base] using settle_keeps Base.recentSender s

@[simp] theorem settle_line (s : State) : s.settle.rlp.line = s.rlp.line := by
  simpa only [State.base] using settle_keeps Base.line s

@[simp] theorem settle_lastEnd (s : State) : s.settle.rlp.lastEnd = s.rlp.lastEnd := by
  simpa only [State.base] using settle_keeps Base.lastEnd s

@[simp] theorem settle_presenceTimer (s : State) : s.settle.rlp.presenceTimer = s.rlp.presenceTimer := by
  simpa only [State.base] using settle_keeps Base.presenceTimer s

@[simp] theorem settle_settleTimer (s : State) : s.settle.rlp.settleTimer = s.rlp.settleTimer := by
  simpa only [State.base] using settle_keeps Base.settleTimer s

@[simp] theorem settle_peers (s : State) : s.settle.ru.peers = s.ru.peers := by
  simpa only [State.base] using settle_keeps Base.peers s

@[simp] theorem settle_roster (s : State) : s.settle.ru.roster = s.ru.roster := by
  simpa only [State.base] using settle_keeps Base.roster s

@[simp] theorem settle_contests (s : State) : s.settle.ru.contests = s.ru.contests := by
  simpa only [State.base] using settle_keeps Base.contests s

@[simp] theorem settle_system (s : State) : s.settle.ru.regime.system = s.ru.regime.system := by
  simpa only [State.base] using settle_keeps Base.system s

@[simp] theorem settle_band (s : State) : s.settle.ru.regime.band = s.ru.regime.band := by
  simpa only [State.base] using settle_keeps Base.band s

@[simp] theorem settle_direction (s : State) : s.settle.ru.regime.direction = s.ru.regime.direction := by
  simpa only [State.base] using settle_keeps Base.direction s

@[simp] theorem settle_settled (s : State) : s.settle.ru.regime.settled = s.ru.regime.settled := by
  simpa only [State.base] using settle_keeps Base.settled s

@[simp] theorem settle_lineRecord (s : State) : s.settle.sg.line = s.sg.line := by
  simpa only [State.base] using settle_keeps Base.lineRecord s

@[simp] theorem settle_acc (s : State) : s.settle.sg.acc = s.sg.acc := by
  simpa only [State.base] using settle_keeps Base.acc s

@[simp] theorem settle_windowTimer (s : State) : s.settle.sg.windowTimer = s.sg.windowTimer := by
  simpa only [State.base] using settle_keeps Base.windowTimer s

@[simp] theorem settle_breakerOpen (s : State) : s.settle.sg.breakerOpen = s.sg.breakerOpen := by
  simpa only [State.base] using settle_keeps Base.breakerOpen s

@[simp] theorem settle_nextId (s : State) : s.settle.sq.nextId = s.sq.nextId := by
  simpa only [State.base] using settle_keeps Base.nextId s

@[simp] theorem settle_observation (s : State) : s.settle.iu.observation = s.iu.observation := by
  simpa only [State.base] using settle_keeps Base.observation s

@[simp] theorem settle_forced (s : State) : s.settle.iu.forced = s.iu.forced := by
  simpa only [State.base] using settle_keeps Base.forced s

@[simp] theorem settle_table (s : State) : s.settle.iu.table = s.iu.table := by
  simpa only [State.base] using settle_keeps Base.table s

@[simp] theorem settle_grants (s : State) : s.settle.iu.grants = s.iu.grants := by
  simpa only [State.base] using settle_keeps Base.grants s

@[simp] theorem settle_hostHeat (s : State) : s.settle.iu.hostHeat = s.iu.hostHeat := by
  simpa only [State.base] using settle_keeps Base.hostHeat s

@[simp] theorem settle_transaction (s : State) : s.settle.lcp.transaction = s.lcp.transaction := by
  simpa only [State.base] using settle_keeps Base.transaction s

theorem settle_enable (s : State) (p : Pan) : (s.settle.drive p).enable = (s.drive p).enable := by
  have h := settle_keeps Base.enables s
  simp only [State.base, Pair.mk.injEq] at h
  cases p <;> simp only [State.drive, Pair.get, h]

theorem settle_housed (s : State) (p : Pan) : (s.settle.drive p).housed = (s.drive p).housed := by
  have h := settle_keeps Base.housed s
  simp only [State.base, Pair.mk.injEq] at h
  cases p <;> simp only [State.drive, Pair.get, h]

/-- A fault bit that is set before the hand-offs is set after them. -/
theorem settle_faultSet (s : State) (k : FaultKind) (h : s.faultSet k = true) : s.settle.faultSet k = true :=
  (settle_grown s).2.2 k h

/-! ## More operations that leave the base alone -/

@[simp] theorem base_driveFault (s : State) (p : Pan) (k : FaultKind) (n : Int) : (s.driveFault p k n).base = s.base := by
  simp [State.driveFault]

@[simp] theorem base_endClaimByBlock (s : State) (p : Pan) : (s.endClaimByBlock p).base = s.base := by
  unfold State.endClaimByBlock
  split <;> simp

@[simp] theorem base_blockNow (s : State) (p : Pan) (c : BlockCause) : (s.blockNow p c).base = s.base := by
  simp [State.blockNow]

@[simp] theorem base_sensorConflict (s : State) (p : Pan) (n : Int) : (s.sensorConflict p n).base = s.base := by
  unfold State.sensorConflict
  dsimp only
  split <;> simp

@[simp] theorem base_raiseFails (s : State) (p : Pan) (k : FaultKind) : (s.raiseFails p k).base = s.base := by
  simp [State.raiseFails]

@[simp] theorem base_stuckUp (s : State) (p : Pan) : (s.stuckUp p).base = s.base := by simp [State.stuckUp]

@[simp] theorem base_watchCount (s : State) (p : Pan) (n : Int) : (s.watchCount p n).base = s.base := by
  unfold State.watchCount
  dsimp only
  repeat' split
  all_goals simp

theorem decide_enable (d : Drive) (v : Option Valve) (n k : Nat) :
    (d.decide v n k).enable = d.enable ∧ (d.decide v n k).housed = d.housed := by
  unfold Drive.decide
  split <;> simp [Drive.aim]

@[simp] theorem base_beginPeriod (s : State) (p : Pan) (m : Moment) : (s.beginPeriod p m).base = s.base := by
  exact base_mapPd s p _ fun d => decide_enable _ _ _ _

@[simp] theorem base_contact (s : State) (p : Pan) (n : Nat) : (s.contact p n).base = s.base := by simp [State.contact, Drive.quiet]

@[simp] theorem base_validReading (s : State) (p : Pan) (n : Nat) : (s.validReading p n).base = s.base := by
  unfold State.validReading
  dsimp only
  repeat' split
  all_goals simp

@[simp] theorem base_invalidReading (s : State) (p : Pan) : (s.invalidReading p).base = s.base := by
  simp [State.invalidReading]

@[simp] theorem base_takeForce (s : State) (p : Pan) (c : Capture) : (s.takeForce p c).base = s.base := by
  unfold State.takeForce
  split <;> simp

@[simp] theorem base_sendClose (s : State) (n : Notice) : (s.sendClose n).base = s.base := by
  unfold State.sendClose
  rw [base_sendOr _ _ _ fun t => by simp]

@[simp] theorem base_reportProbe (s : State) : s.reportProbe.base = s.base := by simp [State.reportProbe]

@[simp] theorem base_judgeProbe (s : State) : s.judgeProbe.base = s.base := by
  unfold State.judgeProbe
  repeat' split
  all_goals simp

@[simp] theorem base_classChanged (s : State) (c : LineClass) : (s.classChanged c).base = s.base := by
  unfold State.classChanged
  repeat' split
  all_goals simp

@[simp] theorem base_selectorWatch (s : State) : s.selectorWatch.base = s.base := by
  unfold State.selectorWatch
  split <;> simp

@[simp] theorem base_isoWatch (s : State) (p : Pan) : (s.isoWatch p).base = s.base := by
  unfold State.isoWatch
  dsimp only
  split
  · rfl
  · simp

@[simp] theorem base_isoFails (s : State) (p : Pan) : (s.isoFails p).base = s.base := by
  unfold State.isoFails
  dsimp only
  repeat' split
  all_goals simp [base_mapIso]

@[simp] theorem base_tripHeater (s : State) (p : Pan) : (s.tripHeater p).base = s.base := by
  unfold State.tripHeater
  dsimp only
  repeat' split
  all_goals simp [State.mapHeater]

@[simp] theorem base_requeueGive (s : State) : s.requeueGive.base = s.base := by
  unfold State.requeueGive
  dsimp only
  repeat' split
  all_goals simp

@[simp] theorem base_requeueClose (s : State) : s.requeueClose.base = s.base := by
  unfold State.requeueClose
  dsimp only
  repeat' split
  all_goals simp

@[simp] theorem base_endCancelled (s : State) (p : Pan) : (s.endCancelled p).base = s.base := by
  unfold State.endCancelled
  split <;> simp

@[simp] theorem base_requeueOutstanding (s : State) (p : Pan) : (s.requeueOutstanding p).base = s.base := by
  unfold State.requeueOutstanding
  dsimp only
  repeat' split
  all_goals simp

/-! ## Fault bits -/

theorem faultSet_raiseLocalFault (s : State) (k : FaultKind) (d : FaultDetail) :
    (s.raiseLocalFault k d).faultSet k = true := by
  cases k <;> simp [State.raiseLocalFault, State.faultSet, faultBit]

/-- A fault raised with its notice has its bit set. -/
theorem faultSet_raiseFault (s : State) (k : FaultKind) (d : FaultDetail) (p : Option Pan) (x : Byte) :
    (s.raiseFault k d p x).faultSet k = true :=
  (keeps_send _ _ (closed_grown _) (grown_refl _)).2.2 k (faultSet_raiseLocalFault s k d)

@[simp] theorem ground_passSections (s : State) : s.passSections.base.ground = s.base.ground := by
  simp [State.passSections]

@[simp] theorem ground_metreTests (s : State) : s.metreTests.base.ground = s.base.ground := by
  simp [State.metreTests, State.followSections]

end Sys2Proof.Laws
end

