-- ==== Sys2Proof/Laws/Exec.lean ====
section
/-! SUPPORT. A property that survives the updates of `Closed` survives every command but FULL_RESET,
WRITE_CONFIG, CLEAR_FAULTS and READ_EVENT_RESPONSE_COMPLETE, whose updates `Closed` does not name. -/

namespace Sys2Proof.Laws

open Sys2Proof.Machine

variable {P : State → Prop}

/-- The outcome is a next state with a property. -/
def Ends (P : State → Prop) (r : Result) : Prop := ∃ u, r = .next u ∧ Keeps P u

theorem ends_next {u : State} (h : Keeps P u) : Ends P (.next u) := ⟨u, rfl, h⟩

theorem keeps_expire (s : State) (tm : Timer) (t : Moment) (k : Moment → State → State) (hP : Closed P) (h : Keeps P s)
    (hk : ∀ due u, Keeps P u → Keeps P (k due u)) : Keeps P (s.expire tm t k) := by
  unfold State.expire
  split
  · exact keeps_advance _ _ hP h
  · exact hk _ _ (keeps_advance _ _ hP h)

theorem keeps_driveExpiry (s : State) (p : Pan) (tm : Drive → Timer) (t : Moment) (k : Moment → State → State)
    (hP : Closed P) (h : Keeps P s) (hk : ∀ due u, Keeps P u → Keeps P (k due u)) : Keeps P (s.driveExpiry p tm t k) := by
  unfold State.driveExpiry
  split
  · exact keeps_expire _ _ _ _ hP h hk
  · exact keeps_advance _ _ hP h

theorem keeps_hosted {α : Type} (s : State) (t : Moment) (code : Byte) (req : Request) (parse : State → List Byte → Option α)
    (act : α → State → State) (hP : Closed P) (h : Keeps P s) (hk : ∀ a u, Keeps P u → Keeps P (act a u)) :
    Keeps P (s.hosted t code req parse act) := by
  unfold State.hosted
  split
  · exact keeps_fails _ _ _ hP (keeps_advance _ _ hP h)
  · exact hk _ _ (keeps_advance _ _ hP h)

/-! ## The frame of a host command -/

/-- A request that passes both tests does the command's own part. -/
theorem hosted_ok {α : Type} (s : State) (t : Moment) (code : Byte) (r : Request) (parse : State → List Byte → Option α)
    (act : α → State → State) (a : α) (hc : r.check = requestCheck code r.args) (ha : parse s r.args = some a) :
    s.hosted t code r parse act = act a (s.advance t) := by
  simp [State.hosted, parseRequest, hc, ha]

/-- A wrong check byte. -/
theorem hosted_badCheck {α : Type} (s : State) (t : Moment) (code : Byte) (r : Request)
    (parse : State → List Byte → Option α) (act : α → State → State) (hc : r.check ≠ requestCheck code r.args) :
    s.hosted t code r parse act = (s.advance t).fails code .badCheck := by
  simp [State.hosted, parseRequest, hc]

/-- Arguments that name nothing. -/
theorem hosted_badArg {α : Type} (s : State) (t : Moment) (code : Byte) (r : Request)
    (parse : State → List Byte → Option α) (act : α → State → State) (hc : r.check = requestCheck code r.args)
    (ha : parse s r.args = none) : s.hosted t code r parse act = (s.advance t).fails code .badArg := by
  simp [State.hosted, parseRequest, hc, ha]

theorem keeps_hostNotice (s : State) (code : Byte) (may : Bool) (n : Notice) (d : ResponseData) (f : State → State)
    (hP : Closed P) (h : Keeps P s) (hf : Keeps P (f s)) (hq : (f s).rlp.queue = s.rlp.queue) :
    Keeps P (s.hostNotice code may n d f) := by
  unfold State.hostNotice
  split
  · simp (maxDischargeDepth := 40) +contextual [hP, h]
  · split
    · simp (maxDischargeDepth := 40) +contextual [hP, h]
    · split
      · simp (maxDischargeDepth := 40) +contextual [hP, h]
      · rename_i hfull
        refine keeps_taken _ _ _ hP (keeps_enqueue _ _ _ hP hf ?_)
        rw [hq]
        simp only [State.hostFull, Bool.or_eq_true, decide_eq_true_eq, not_or] at hfull
        omega

theorem gated_serve (d : Drive) (n k : Nat) (h : Gated d) : Gated (d.serve n k) := by
  intro he
  have hd : d.enable = false := by simpa using he
  exact serve_valve d n k h hd

theorem gated_pulseOver (d : Drive) (n k : Nat) (h : Gated d) : Gated (d.pulseOver n k) := by
  have hc : Gated (Drive.aim { d with heldDecision := none } .closed n k) := gated_serve _ n k h
  unfold Drive.pulseOver
  dsimp only
  split
  · exact hc
  · exact gated_serve _ n k hc

theorem keeps_pulseOver (s : State) (p : Pan) (hP : Closed P) (h : Keeps P s) :
    Keeps P (s.mapPd p fun d => d.pulseOver s.now s.deadInterval) :=
  keeps_mapPd s p _ hP h fun d hd => gated_pulseOver d _ _ hd

/-- The commands whose updates `Closed` names. -/
def Instr.covered : Instr → Bool
  | .fullReset _ | .writeConfig _ _ _ | .clearFaults _ _ | .readEventResponseComplete _ => false
  | _ => true

/-- Every covered command ends in a next state and preserves the property. -/
theorem exec_keeps (hP : Closed P) (c : Instr) (s : State) (h : Keeps P s) (hc : Instr.covered c = true) :
    Ends P (exec c s) := by
  cases c
  case fullReset => cases hc
  case writeConfig => cases hc
  case clearFaults => cases hc
  case readEventResponseComplete => cases hc
  case presenceTimerExpiry => exact ends_next (keeps_expire _ _ _ _ hP h fun _ _ hu => by simp (maxDischargeDepth := 40) +contextual [hP, hu])
  case settlingEnd => exact ends_next (keeps_expire _ _ _ _ hP h fun _ _ hu => by simp (maxDischargeDepth := 40) +contextual [hP, hu])
  case silenceTimerExpiry => exact ends_next (keeps_expire _ _ _ _ hP h fun _ _ hu => by simp (maxDischargeDepth := 40) +contextual [hP, hu])
  case dropClearTimerExpiry => exact ends_next (keeps_expire _ _ _ _ hP h fun _ _ hu => by simp (maxDischargeDepth := 40) +contextual [hP, hu])
  case deadIntervalEnd => exact ends_next (keeps_driveExpiry _ _ _ _ _ hP h fun _ _ hu => by simp (maxDischargeDepth := 40) +contextual [hP, hu])
  case pulseEnd =>
    exact ends_next (keeps_driveExpiry _ _ _ _ _ hP h fun _ u hu => keeps_pulseOver u _ hP hu)
  case raiseTimeout => exact ends_next (keeps_driveExpiry _ _ _ _ _ hP h fun _ _ hu => by simp (maxDischargeDepth := 40) +contextual [hP, hu])
  case regulationPeriod => exact ends_next (keeps_driveExpiry _ _ _ _ _ hP h fun _ _ hu => by simp (maxDischargeDepth := 40) +contextual [hP, hu])
  case lowerTimerExpiry => exact ends_next (keeps_driveExpiry _ _ _ _ _ hP h fun _ _ hu => by simp (maxDischargeDepth := 40) +contextual [hP, hu])
  case classifierWindowEnd => exact ends_next (keeps_expire _ _ _ _ hP h fun _ _ hu => by simp (maxDischargeDepth := 40) +contextual [hP, hu])
  case selectorLegTimeout => exact ends_next (keeps_expire _ _ _ _ hP h fun _ _ hu => by simp (maxDischargeDepth := 40) +contextual [hP, hu])
  case isolatorMoveTimeout => exact ends_next (keeps_expire _ _ _ _ hP h fun _ _ hu => by simp (maxDischargeDepth := 40) +contextual [hP, hu])
  case breakerTimerExpiry => exact ends_next (keeps_expire _ _ _ _ hP h fun _ _ hu => by simp (maxDischargeDepth := 40) +contextual [hP, hu])
  case deadLineTimerExpiry => exact ends_next (keeps_expire _ _ _ _ hP h fun _ _ hu => by simp (maxDischargeDepth := 40) +contextual [hP, hu])
  case roundTimerExpiry => exact ends_next (keeps_expire _ _ _ _ hP h fun _ _ hu => by simp (maxDischargeDepth := 40) +contextual [hP, hu])
  case probeWaitTimerExpiry => exact ends_next (keeps_expire _ _ _ _ hP h fun _ _ hu => by simp (maxDischargeDepth := 40) +contextual [hP, hu])
  case probeRetryTimerExpiry => exact ends_next (keeps_expire _ _ _ _ hP h fun _ _ hu => by simp (maxDischargeDepth := 40) +contextual [hP, hu])
  case scraperRetryTimerExpiry => exact ends_next (keeps_expire _ _ _ _ hP h fun _ _ hu => by simp (maxDischargeDepth := 40) +contextual [hP, hu])
  case heatRetryTimerExpiry => exact ends_next (keeps_expire _ _ _ _ hP h fun _ _ hu => by simp (maxDischargeDepth := 40) +contextual [hP, hu])
  case releaseTimerExpiry =>
    exact ends_next (keeps_expire _ _ _ _ hP h fun _ _ hu =>
      keeps_settle _ hP (keeps_giveHeat _ _ hP (keeps_mapIu _ _ hP hu fun _ hi => hi)))
  case lineIdle => exact ends_next (keeps_lineIdle _ _ hP h)
  case startSymbolHeard => exact ends_next (keeps_startSymbol _ _ hP h)
  case transmissionAttempt => exact ends_next (keeps_attempt _ _ hP h)
  case transmissionComplete => exact ends_next (by split <;> simp (maxDischargeDepth := 40) +contextual [hP, h])
  case collision => exact ends_next (by split <;> simp (maxDischargeDepth := 40) +contextual [hP, h])
  case frameReceived => exact ends_next (by (repeat' split) <;> simp (maxDischargeDepth := 40) +contextual [hP, h])
  case supplyFall => exact ends_next (by split <;> simp (maxDischargeDepth := 40) +contextual [hP, h])
  case supplyRise => exact ends_next (by split <;> simp (maxDischargeDepth := 40) +contextual [hP, h])
  case windowTimerExpiry => exact ends_next (by split <;> simp (maxDischargeDepth := 40) +contextual [hP, h])
  case housing =>
    refine ends_next ?_
    split
    · exact keeps_filter _ _ _ _ _ hP h fun _ _ hu => keeps_settle _ hP (keeps_housing _ _ hP hu)
    · exact keeps_advance _ _ hP h
  case housedInputInactive =>
    refine ends_next ?_
    split
    · exact keeps_unhoused _ _ hP (keeps_advance _ _ hP (keeps_acceptUpTo _ _ _ _ hP
        (fun _ _ hu => keeps_settle _ hP (keeps_housing _ _ hP hu)) _ h))
    · exact keeps_advance _ _ hP h
  case dropLineActive => exact ends_next (by (repeat' split) <;> simp (maxDischargeDepth := 40) +contextual [hP, h])
  case dropLineInactive => exact ends_next (by simp (maxDischargeDepth := 40) +contextual [hP, h])
  case pulseIntervalEdge t ch level =>
    exact ends_next (keeps_filter _ _ _ _ _ hP h fun _ _ hu =>
      keeps_mapMu _ _ hP hu fun m p hm => by cases ch <;> exact hm)
  case zeroCrossingEdge =>
    exact ends_next (keeps_filter _ _ _ _ _ hP h fun _ _ hu => keeps_mapMu _ _ hP hu fun _ _ hm => hm)
  case captureCounterOverflow => exact ends_next (keeps_captureOverflow _ _ _ hP h)
  case noSignalTimerExpiry t ch =>
    exact ends_next (keeps_expire _ _ _ _ hP h fun _ u hu =>
      keeps_mapMu _ _ hP hu fun m p hm => by cases ch <;> exact hm)
  case captureTake t ch =>
    refine ends_next ?_
    split
    · exact keeps_settle _ hP (keeps_take _ _ _ _ hP (keeps_advance _ _ hP h))
    · exact keeps_advance _ _ hP h
  case encoderEdge => exact ends_next (keeps_filter _ _ _ _ _ hP h fun _ _ hu => keeps_phases _ _ _ _ hP hu)
  case arcPulse =>
    exact ends_next (keeps_filter _ _ _ _ _ hP h fun _ _ hu => keeps_mapMu _ _ hP hu fun _ _ hm => hm)
  case axlePulse => exact ends_next (keeps_filter _ _ _ _ _ hP h fun _ _ hu => keeps_odoEdge _ _ hP hu)
  case selectorFeedbackChange =>
    exact ends_next (keeps_filter _ _ _ _ _ hP h fun _ _ hu => keeps_selectorFeedback _ _ hP hu)
  case isolatorFeedbackChange =>
    exact ends_next (keeps_filter _ _ _ _ _ hP h fun _ _ hu => keeps_isolatorFeedback _ _ _ hP hu)
  case breakerInputChange =>
    exact ends_next (keeps_filter _ _ _ _ _ hP h fun _ _ hu => keeps_settle _ hP (keeps_breakerInput _ _ hP hu))
  case heaterPeriod =>
    refine ends_next ?_
    split
    · exact keeps_expire _ _ _ _ hP h fun _ _ hu => by simp (maxDischargeDepth := 40) +contextual [hP, hu]
    · exact keeps_advance _ _ hP h
  case heaterDutyEnd => exact ends_next (by split <;> simp (maxDischargeDepth := 40) +contextual [hP, h])
  case thermalTrip => exact ends_next (by split <;> simp (maxDischargeDepth := 40) +contextual [hP, h])
  case transactionAbandoned => exact ends_next (hP.respond _ _ (keeps_advance _ _ hP h))
  case setRegime => exact ends_next (keeps_hosted _ _ _ _ _ _ hP h fun _ _ hu => keeps_hostNotice _ _ _ _ _ _ hP hu hu rfl)
  case announceSection =>
    exact ends_next (keeps_hosted _ _ _ _ _ _ hP h fun _ _ hu =>
      keeps_hostNotice _ _ _ _ _ _ hP hu (keeps_mapSq _ _ hP hu fun _ => Nat.le_refl _) rfl)
  case proposeChangeover =>
    exact ends_next (keeps_hosted _ _ _ _ _ _ hP h fun _ _ hu => keeps_hostNotice _ _ _ _ _ _ hP hu hu rfl)
  case abortChangeover =>
    exact ends_next (keeps_hosted _ _ _ _ _ _ hP h fun _ _ hu => keeps_hostNotice _ _ _ _ _ _ hP hu hu rfl)
  case raise =>
    refine ends_next (keeps_hosted _ _ _ _ _ _ hP h fun _ _ hu => ?_)
    split
    · simp (maxDischargeDepth := 40) +contextual [hP, hu]
    · simp (maxDischargeDepth := 40) +contextual [hP, hu]
    · simp (maxDischargeDepth := 40) +contextual [hP, hu]
    · split
      · exact keeps_taken _ _ _ hP (keeps_mapPd _ _ _ hP hu fun _ hd => hd)
      · simp (maxDischargeDepth := 40) +contextual [hP, hu]
  all_goals exact ends_next (keeps_hosted _ _ _ _ _ _ hP h fun _ _ hu => by (repeat' split) <;> simp (maxDischargeDepth := 40) +contextual [hP, hu])

/-! ## The four commands beside them -/

/-- CLEAR_FAULTS, for a property that survives the clearing of fault bits. -/
theorem clearFaults_keeps (hP : Closed P) (t : Moment) (r : Request) (s : State) (h : Keeps P s)
    (hf : ∀ (u : State) (f : BitVec 11), P u → P (u.mapLcp fun l => { l with faults := f })) :
    Ends P (exec (.clearFaults t r) s) := by
  refine ends_next (keeps_hosted _ _ _ _ _ _ hP h fun mask u hu => keeps_taken _ _ _ hP ?_)
  have ha : Keeps P (u.mapLcp fun l => { l with faults := l.faults &&& ~~~(mask.setWidth 11) }) := hf _ _ hu
  unfold State.clearFaults
  dsimp only
  repeat' split
  all_goals simp (maxDischargeDepth := 40) +contextual [hP, ha]

/-- READ_EVENT_RESPONSE_COMPLETE, for a property that survives the removal of the head record. -/
theorem responseComplete_keeps (hP : Closed P) (t : Moment) (s : State) (h : Keeps P s)
    (hf : ∀ u : State, P u → P (u.mapLcp Lcp.popEvent)) : Ends P (exec (.readEventResponseComplete t) s) := by
  refine ends_next ?_
  split
  · exact hf _ (hP.advance _ _ h)
  · exact hP.respond _ _ (hP.advance _ _ h)

/-- WRITE_CONFIG, for a property that survives the writing of the bytes a request may write. -/
theorem writeConfig_keeps (hP : Closed P) (t : Moment) (r : Request) (b : Pair Bool) (s : State) (h : Keeps P s)
    (hw : ∀ (u : State) (a : Nat × List Byte), s.configWriteArg r.args = some a → P u → P (u.mapSc fun x =>
      { x with config := x.config.writeAll a.1 a.2
               fingerprint := if a.1 < 28 then fingerprintOf (x.config.writeAll a.1 a.2) else x.fingerprint })) :
    Ends P (exec (.writeConfig t r b) s) := by
  refine ends_next ?_
  unfold State.hosted
  split
  · exact keeps_fails _ _ _ hP (keeps_advance _ _ hP h)
  · rename_i a ha
    dsimp only
    split
    · exact keeps_fails _ _ _ hP (keeps_advance _ _ hP h)
    · refine keeps_taken _ _ _ hP (keeps_writeConfig _ _ _ _ hP (hw _ a ?_ (keeps_advance _ _ hP h)))
      unfold parseRequest at ha
      by_cases hcheck : r.check = requestCheck 0x01 r.args
      · rw [if_pos hcheck] at ha
        cases hp : s.configWriteArg r.args with
        | none => rw [hp] at ha; cases ha
        | some x => rw [hp] at ha; cases ha; rfl
      · rw [if_neg hcheck] at ha; cases ha

/-- A property that survives the updates of `Closed`, the updates of these three commands, a full reset and the change of the
queue of commands survives every step. -/
theorem step_keeps (hP : Closed P) (hreset : ∀ pins l, P { State.resetOf pins with pending := l })
    (hpending : ∀ (s : State) l, P s → P { s with pending := l })
    (hclear : ∀ (u : State) (f : BitVec 11), P u → P (u.mapLcp fun l => { l with faults := f }))
    (hpop : ∀ u : State, P u → P (u.mapLcp Lcp.popEvent))
    (hwrite : ∀ (s u : State) (l : List Byte) (a : Nat × List Byte), s.configWriteArg l = some a → P u → P (u.mapSc fun x =>
      { x with config := x.config.writeAll a.1 a.2
               fingerprint := if a.1 < 28 then fingerprintOf (x.config.writeAll a.1 a.2) else x.fingerprint }))
    (s u : State) (h : P s) (hs : step s = .next u) : P u := by
  unfold step at hs
  split at hs
  · cases hs
    have := hP.advance s (s.now + 1) h
    rwa [show s.advance (s.now + 1) = s.tick by simp [State.advance, State.tick]] at this
  · rename_i c rest _
    have h' : P { s with pending := rest } := hpending _ _ h
    have he : Ends P (exec c { s with pending := rest }) := by
      by_cases hc : Instr.covered c = true
      · exact exec_keeps hP c _ h' hc
      · cases c <;> simp [Instr.covered] at hc
        · exact ⟨_, rfl, hreset _ _⟩
        · exact writeConfig_keeps hP _ _ _ _ h' fun u a ha hu => hwrite _ u _ a ha hu
        · exact responseComplete_keeps hP _ _ h' hpop
        · exact clearFaults_keeps hP _ _ _ h' hclear
    obtain ⟨v, hv, hvp⟩ := he
    rw [hs] at hv
    cases hv
    exact hvp

end Sys2Proof.Laws
end

