-- ==== Sys2Proof/Laws/Filter.lean ====
section
/-! SUPPORT. What the input filters (R77) do with one pin and with a pin that nothing moves: everything the statements about
the commands of an input cite instead of unfolding the filter. -/

namespace Sys2Proof.Laws

open Sys2Proof.Machine

variable (s : State) (x : InputPin) (b : Bool) (since t d : Moment) (edge : Moment → State → State)

/-- A pin that stands at its filtered level has no change to accept. -/
theorem acceptedAt_of_eq (h : (s.pins.get x).level = s.filtered x) : s.acceptedAt x = none := by
  simp [State.acceptedAt, h]

/-- A pin that has left its filtered level is accepted when it has held the level for the filter time. -/
theorem acceptedAt_of_ne (h : (s.pins.get x).level ≠ s.filtered x) :
    s.acceptedAt x = some ((s.pins.get x).since + filterTime x) := by
  simp [State.acceptedAt, h]

@[simp] theorem advance_filtered : (s.advance d).filtered x = s.filtered x := by cases x <;> rfl

@[simp] theorem mapPins_filtered (f : Pins → Pins) : (s.mapPins f).filtered x = s.filtered x := by cases x <;> rfl

@[simp] theorem advance_acceptedAt : (s.advance d).acceptedAt x = s.acceptedAt x := by simp [State.acceptedAt]

/-- One pin with nothing pending. -/
theorem acceptUpTo_idle (n : Nat) (h : s.acceptedAt x = none) : s.acceptUpTo n [x] edge t = s := by
  cases n <;> simp [State.acceptUpTo, State.nextEdge, h]

/-- One pin whose pending change is not yet due. -/
theorem acceptUpTo_early (n : Nat) (h : s.acceptedAt x = some d) (ht : t < d) : s.acceptUpTo n [x] edge t = s := by
  cases n <;> simp [State.acceptUpTo, State.nextEdge, h, Nat.not_le.mpr ht]

/-- One pin whose pending change is due: the edge is made at the moment of acceptance. -/
theorem acceptUpTo_due (h : s.acceptedAt x = some d) (ht : d ≤ t) :
    s.acceptUpTo 1 [x] edge t = edge d (s.advance d) := by
  simp [State.acceptUpTo, State.nextEdge, h, ht]

/-- The pin of one input after it has taken a level other than the one it had. -/
theorem take_pins (h : (s.pins.get x).level ≠ b) :
    (s.mapPins fun p => p.take since [(x, b)]) = s.mapPins fun p => p.set x ⟨b, since⟩ := by
  simp [State.mapPins, Pins.take, h]

/-- A pin that takes the level it had keeps its moment. -/
theorem take_pins_same (h : (s.pins.get x).level = b) : (s.mapPins fun p => p.take since [(x, b)]) = s := by
  simp [State.mapPins, Pins.take, h]

/-- When the change a pin takes is accepted. -/
theorem acceptedAt_taken (hb : b ≠ s.filtered x) :
    (s.mapPins fun p => p.set x ⟨b, since⟩).acceptedAt x = some (since + filterTime x) := by
  simp [State.acceptedAt, hb]

/-- The level the filter hands on at the acceptance of a change is the level the pin took. -/
theorem levelAt_taken (hb : b ≠ s.filtered x) :
    ((s.mapPins fun p => p.set x ⟨b, since⟩).advance d).levelAt (since + filterTime x) x = b := by
  simp [State.levelAt, acceptedAt_taken s x b since hb]

/-- A change of one pin that is held for its filter time is accepted then, and time passes to the command's moment (R77). -/
theorem filter_accepts (hp : (s.pins.get x).level = s.filtered x) (hb : b ≠ s.filtered x) (ht : since + filterTime x ≤ t) :
    s.filter [(x, b)] since t edge =
      (edge (since + filterTime x)
        ((s.mapPins fun p => p.set x ⟨b, since⟩).advance (since + filterTime x))).advance t := by
  have hn : (s.pins.get x).level ≠ b := fun h => hb (h ▸ hp)
  simp only [State.filter, List.map_cons, List.map_nil, List.length_cons, List.length_nil]
  rw [acceptUpTo_idle s x _ _ _ (acceptedAt_of_eq s x hp), take_pins s x b since hn,
    acceptUpTo_due _ x t _ edge (acceptedAt_taken s x b since hb) ht]

/-- A change of one pin not yet held for its filter time only stands at the pin (R77). -/
theorem filter_waits (hp : (s.pins.get x).level = s.filtered x) (hb : b ≠ s.filtered x) (ht : t < since + filterTime x) :
    s.filter [(x, b)] since t edge = (s.mapPins fun p => p.set x ⟨b, since⟩).advance t := by
  have hn : (s.pins.get x).level ≠ b := fun h => hb (h ▸ hp)
  simp only [State.filter, List.map_cons, List.map_nil, List.length_cons, List.length_nil]
  rw [acceptUpTo_idle s x _ _ _ (acceptedAt_of_eq s x hp), take_pins s x b since hn,
    acceptUpTo_early _ x t _ edge _ (acceptedAt_taken s x b since hb) ht]

/-- A change that reverts before its filter time leaves no trace but at the pin (R77). -/
theorem filter_reverts (hp : (s.pins.get x).level ≠ s.filtered x)
    (hs : since < (s.pins.get x).since + filterTime x) :
    s.filter [(x, s.filtered x)] since t edge =
      (s.mapPins fun p => p.set x ⟨s.filtered x, since⟩).advance t := by
  simp only [State.filter, List.map_cons, List.map_nil, List.length_cons, List.length_nil]
  rw [acceptUpTo_early s x since _ edge _ (acceptedAt_of_ne s x hp) hs, take_pins s x _ since hp,
    acceptUpTo_idle _ x _ _ _ (acceptedAt_of_eq _ x (by simp))]

/-- A pin that stands at its filtered level and takes it again: only time passes. -/
theorem filter_same (hp : (s.pins.get x).level = s.filtered x) :
    s.filter [(x, s.filtered x)] since t edge = s.advance t := by
  simp only [State.filter, List.map_cons, List.map_nil, List.length_cons, List.length_nil]
  rw [acceptUpTo_idle s x _ _ _ (acceptedAt_of_eq s x hp), take_pins_same s x _ since hp,
    acceptUpTo_idle s x _ _ _ (acceptedAt_of_eq s x hp)]

end Sys2Proof.Laws
end

