-- ==== Sys2Proof/Tests/Slice0.lean ====
section
/-! SUPPORT. Tests: the checks of WellFormed refuse ill-formed terms; words and frames written out from the spec; and, for every
statement of Certificates/Slice0/Obligations.lean with hypotheses, states and operands that meet them, clause by clause. -/

namespace Sys2Proof.Tests

open Sys2Proof Sys2Proof.Machine

-- One theorem after the other: together they would wait in as many threads.
set_option Elab.async false

/-! ## WellFormed -/

theorem test_stations_are_1_to_24 : isStation 0 = false ∧ isStation 1 = true ∧ isStation 24 = true ∧ isStation 25 = false := by
  decide +kernel

theorem test_silence_of_station_0_is_refused : (Instr.silenceTimerExpiry 0 0).wellFormed = false := by decide +kernel

theorem test_dropClear_of_station_25_is_refused : (Instr.dropClearTimerExpiry 0 25).wellFormed = false := by decide +kernel

theorem test_window_of_station_25_is_refused : (Instr.windowTimerExpiry 0 ⟨25, 0, .claim⟩).wellFormed = false := by
  decide +kernel

theorem test_request_of_256_arguments_is_refused : (Instr.raise 0 ⟨List.replicate 256 0, 0⟩).wellFormed = false := by
  decide +kernel

theorem test_known_code_is_no_unknown_command : (Instr.unknownCommand 0 0x40 ⟨[], 0⟩).wellFormed = false := by decide +kernel

theorem test_abandoned_request_of_258_bytes_is_refused :
    (Instr.transactionAbandoned 0 (List.replicate 258 0)).wellFormed = false := by decide +kernel

theorem test_change_held_since_a_later_moment_is_refused :
    (Instr.housing ⟨6, 5⟩ .p0).wellFormed = false ∧ (Instr.housing ⟨5, 5⟩ .p0).wellFormed = true ∧
    (Instr.pulseIntervalEdge ⟨6, 5⟩ .lv true).wellFormed = false ∧ (Instr.zeroCrossingEdge ⟨6, 5⟩ true).wellFormed = false ∧
    (Instr.encoderEdge ⟨6, 5⟩ .p0 true true).wellFormed = false ∧ (Instr.arcPulse ⟨6, 5⟩ .p0 true).wellFormed = false ∧
    (Instr.axlePulse ⟨6, 5⟩ true).wellFormed = false ∧
    (Instr.selectorFeedbackChange ⟨6, 5⟩ ⟨true, false, false⟩).wellFormed = false ∧
    (Instr.isolatorFeedbackChange ⟨6, 5⟩ .p0 ⟨true, false⟩).wellFormed = false ∧
    (Instr.breakerInputChange ⟨6, 5⟩ true).wellFormed = false := by decide +kernel

/-! ## Bytes written out from the spec -/

/-- R182: the fingerprint of the default block, computed from its 28 bytes. -/
theorem test_default_fingerprint : fingerprintOf [] = defaultFingerprint := by decide +kernel

/-- R1: CRC-16 of the ASCII digits 1 to 9 with initial value 0xFFFF and polynomial 0x1021. -/
theorem test_crc16_of_nine_digits : crc16 [0x31, 0x32, 0x33, 0x34, 0x35, 0x36, 0x37, 0x38, 0x39] = 0x29B1#16 := by
  decide +kernel

/-- Sections 11.1 and 11.2: a YIELD of P1 by station 7 at sequence 3, its header and payload. -/
theorem test_yield_bytes : (Frame.mk 7 3 (.yield 1)).body = [0x12, 0x07, 0x03, 0x01, 0x01] := by decide +kernel

/-- Sections 11.1 and 11.2: a CLAIM of P0 as COLLECTOR. -/
theorem test_claim_bytes : (Frame.mk 24 0xFF (.claim 0 1)).body = [0x10, 0x18, 0xFF, 0x02, 0x00, 0x01] := by decide +kernel

/-- R8: a frame of origin 0, one of an unknown kind, and one with a wrong CRC are discarded. -/
theorem test_discarded_frames : readFrame (Frame.mk 0 0 (.yield 0)).bytes = none ∧
    readFrame [0x05, 0x07, 0, 0, 0, 0] = none ∧ readFrame [0x12, 0x07, 0x03, 0x01, 0x01, 0, 0] = none := by decide +kernel

/-- Section 11.5: the request check of a command without arguments is over command and length. -/
theorem test_request_check : requestCheck 0x11 [] = portCheck [0x11, 0x00] ∧ responseFrame 0 [] = [0, 0, portCheck [0, 0]] := by
  decide +kernel

/-- R176 and section 11.6: an own bus fault carries no value, and LINE_DEAD's metre count stands most significant byte first. -/
theorem test_event_records :
    (EventRecord.mk (.fault .busCollisions .bare) 0x0102).bytes = [9, 0, 0, 0] ++
      (arrange (Config.detailOrder 9) [0, 0, 0, 0]) ++ [1, 2] ∧
    (EventRecord.mk (.lineDead 0x0A0B0C0D) 0x0102).bytes = [0x20, 0, 0, 0, 0x0A, 0x0B, 0x0C, 0x0D, 1, 2] :=
  ⟨rfl, by decide +kernel⟩

/-- Every order of four bytes keeps the four. -/
theorem test_orders_of_four_bytes : ∀ n ∈ List.range 24, ∀ b ∈ [1, 2, 3, 4], b ∈ arrange n [1, 2, 3, 4] := by decide +kernel

/-- R170: bytes clocked when no transaction stands are answered with the filler. -/
theorem test_filler_after_the_response (i : Nat) : State.reset.dataOutput (some i) = filler := rfl

/-- Section 11.5.1: the response to a READ-EVENT with the queue empty, byte by byte, with the filler before and after it. -/
theorem test_response_of_an_empty_event_queue :
    let s : State := { State.reset with lcp := { Lcp.reset with transaction := some ⟨0x31, .ok, .event none 0 false⟩ } }
    s.responseOutput = some [0x00, 0x02, 0x00, 0x00, 0x58] ∧ s.dataOutput none = filler ∧ s.dataOutput (some 4) = 0x58 ∧
      s.dataOutput (some 5) = filler := by decide +kernel

/-! ## States for the witnesses -/

/-- The part a second after reset. -/
def base : State := { State.reset with now := 1000000 }

/-- With both pantographs fitted and their dead intervals over. -/
def two : State := { base with
  sc := { base.sc with config := [(28, 2)] }
  pd := ⟨{ base.pd.p0 with deadTimer := none }, { base.pd.p1 with deadTimer := none }⟩ }

/-- ONLINE. -/
def online : State := { two with rlp := { two.rlp with port := .online } }

/-- P0's drive changed. -/
def withDrive (s : State) (f : Drive → Drive) : State := { s with pd := { s.pd with p0 := f s.pd.p0 } }

/-- An attempt in progress. -/
def sending (s : State) (n : Notice) : State :=
  { s with rlp := { s.rlp with attempt := some ⟨false, n, 0, 1000500⟩, line := .busy, queue := [⟨n, false, true, false⟩] } }

/-- Open contest records. -/
def contested (s : State) (l : List Contest) : State := { s with ru := { s.ru with contests := l } }

/-- Roster entries. -/
def listed (s : State) (l : List Entry) : State := { s with ru := { s.ru with roster := l } }

/-- The peer record of station 2 changed. -/
def withPeer (s : State) (x : Peer) : State := { s with ru := { s.ru with peers := tableSet s.ru.peers 2 x } }

/-- A request with its right check. -/
def request (code : Byte) (args : List Byte) : Request := ⟨args, requestCheck code args⟩

/-- An entry of station 2 for P0. -/
def entry (st : EntryState) : Entry := ⟨2, .p0, 100, .ac, st, none, none, false⟩

/-- A record of a claim of station 2. -/
def claimRecord : Contest := ⟨⟨2, 9, .claim⟩, .claim .p0, 1040000, false⟩

/-- A CLAIMED entry of station 2 with its record open. -/
def claimed : State :=
  contested (listed online [{ entry .claimed with role := some .collector, claimSeq := some 9, windowOpen := true }]) [claimRecord]

/-- A report of the own fingerprint, with two fields. -/
def reported (p0 p1 : Word16) : Report := ⟨defaultFingerprint, p0, p1, 0, 0, 0⟩

/-- The configuration bytes changed. -/
def configured (s : State) (m : Memory) : State := { s with sc := { s.sc with config := m } }

/-- The queue's notice of a kind, by the part itself. -/
def queued (n : Notice) : QueuedNotice := ⟨n, false, false, false⟩

/-- The scraper record changed. -/
def scraping (s : State) (f : Scraper → Scraper) : State := { s with iu := { s.iu with scraper := f s.iu.scraper } }

/-- The gear changed. -/
def geared (s : State) (f : Sg → Sg) : State := { s with sg := f s.sg }

/-- The round record changed. -/
def inRound (s : State) (f : Cu → Cu) : State := { s with cu := f s.cu }

/-- Section entries. -/
def sectioned (s : State) (l : List SectionEntry) : State := { s with sq := { s.sq with entries := l } }

/-- The supply low. -/
def low (s : State) : State := { s with sc := { s.sc with supplyLow := true } }

/-- The odometer changed. -/
def rolled (s : State) (f : Odo → Odo) : State := { s with mu := { s.mu with odo := f s.mu.odo } }

/-- A pin held at a level since a moment. -/
def pinned (s : State) (x : InputPin) (level : Bool) (since : Moment) : State := { s with pins := s.pins.set x ⟨level, since⟩ }

/-- A section of station 2. -/
def held (id : Byte) (start finish : Word32) : SectionEntry := ⟨⟨2, id⟩, .neutral, false, start, finish, ⟨false, false⟩, false⟩

/-- The sections at their capacity, none of which reaches beyond 80 m. -/
def heldEight : List SectionEntry :=
  [held 0 0 1, held 1 10 11, held 2 20 21, held 3 30 31, held 4 40 41, held 5 50 51, held 6 60 61, held 7 70 71]

/-- A force capture that is fresh. -/
def freshCapture (c : CaptureRecord) (x : Capture) : CaptureRecord := { c with capture := some x, fresh := true }

/-! ## Witnesses: for each statement with hypotheses, states and operands that meet them, clause by clause -/

/-- P0 housed, with a heater whose period is not running, and the drop lines active. -/
def quiet : State :=
  { withDrive two (fun d => { d with housed := true }) with
    dropLine := ⟨true, true⟩
    pins := two.pins.set (.housed .p0) ⟨true, 5⟩
    iu := { two.iu with heaters := ⟨{ two.iu.heaters.p0 with periodTimer := none }, two.iu.heaters.p1⟩ }
    sg := { two.sg with windowTimer := none } }

theorem witness_EmptyQueueAndIdleCommandsPassTime :
    quiet.pending = [] ∧
    (quiet.rlp.presenceTimer = none ∧ quiet.rlp.settleTimer = none ∧ (quiet.peer 1).silence = none ∧
      (quiet.peer 24).dropClear = none ∧ quiet.rlp.attempt = none ∧ quiet.rlp.deference = none) ∧
    (quiet.fitted .p0 = true ∧ (quiet.drive .p0).deadTimer = none ∧ (∀ due, (quiet.drive .p0).pulse ≠ .running due) ∧
      (quiet.drive .p0).raiseTimer = none ∧ (quiet.drive .p0).regulationTimer = none ∧ (quiet.drive .p0).lowerTimer = none ∧
      (quiet.drive .p0).housed = true ∧ (quiet.pins.get (.housed .p0)).level = true ∧ quiet.dropLine.get .p0 = true ∧ base.fitted .p1 = false) ∧
    ((quiet.mu.cap .zx).noSignal = none ∧ (rolled (pinned base .odo true 7) fun o => { o with level := true }).mu.odo.level = true ∧
      ((rolled (pinned base .odo true 7) fun o => { o with level := true }).pins.get .odo).level = true ∧
      quiet.sg.windowTimer = none ∧ quiet.sg.selector.legTimer = none ∧ (quiet.sg.iso.get .p0).moveTimer = none ∧
      quiet.sg.breakerTimer = none ∧ quiet.sg.deadLineTimer = none) ∧
    (quiet.cu.roundTimer = none ∧ quiet.cu.probeWait = none ∧ quiet.cu.probeRetry = none ∧ quiet.iu.scraper.retry = none ∧
      quiet.iu.heatRetry = none ∧ quiet.iu.release = none ∧ (quiet.iu.heaters.get .p0).periodTimer = none) := by
  refine ⟨?_, ?_, ⟨?_, ?_, ?_, ?_⟩, ?_, ?_⟩
  case refine_5 => intro due h; exact Pulse.noConfusion h
  all_goals decide +kernel

theorem witness_TimeAndBlockChangeOnlyByTheirCommands :
    (∀ pins, Instr.lineIdle 5 ≠ .fullReset pins) ∧ (∀ t r h, Instr.lineIdle 5 ≠ .writeConfig t r h) ∧
      (∃ u, exec (.lineIdle 5) State.reset = .next u) ∧
    ((∀ pins, Instr.writeConfig 5 ⟨[], 0⟩ ⟨true, true⟩ ≠ .fullReset pins) ∧
      ∃ u, exec (.writeConfig 5 ⟨[], 0⟩ ⟨true, true⟩) State.reset = .next u) :=
  ⟨fun _ h => Instr.noConfusion h, fun _ _ _ h => Instr.noConfusion h, ⟨_, rfl⟩, fun _ h => Instr.noConfusion h, _, rfl⟩

/-- A state at every capacity, with a SUPPLY_RISE at the front of its queue. -/
def brimful : State :=
  { base with
    pending := [.supplyRise 0]
    rlp := { base.rlp with queue := List.replicate 16 (queued (.yield 0)) }
    ru := { base.ru with contests := List.replicate 8 claimRecord }
    mu := { base.mu with pos := ⟨⟨false, false, 32767, -32768, 0⟩, ⟨false, false, -32768, 32767, 0⟩⟩ }
    sg := { base.sg with line := { base.sg.line with runLength := 3 } }
    sq := { base.sq with entries := heldEight }
    iu := { base.iu with history := ⟨List.replicate 8 0, []⟩ }
    lcp := { base.lcp with events := List.replicate 32 ⟨.supplyState true, 0⟩ }
    sc := { base.sc with supplyLow := true } }

theorem witness_EveryStepKeepsTheBlockCanonical :
    (configured brimful [(28, 2)]).configCanonical ∧ ∃ u, step (configured brimful [(28, 2)]) = .next u :=
  ⟨by unfold State.configCanonical; decide +kernel, _, rfl⟩

theorem witness_EveryStepKeepsTheQueuesWithinCapacity : brimful.eventsFit ∧ brimful.queueFits ∧ ∃ u, step brimful = .next u :=
  ⟨by unfold State.eventsFit; decide +kernel, by unfold State.queueFits; decide +kernel, _, rfl⟩

theorem witness_EveryStepKeepsTheTablesWithinCapacity :
    brimful.contestsFit ∧ brimful.sectionsFit ∧ ∃ u, step brimful = .next u :=
  ⟨by unfold State.contestsFit; decide +kernel, by unfold State.sectionsFit; decide +kernel, _, rfl⟩

theorem witness_EveryStepKeepsTheFillValveGated : brimful.fillGated ∧ (brimful.drive .p0).enable = false ∧
    ∃ u, step brimful = .next u :=
  ⟨fun p => by cases p <;> decide +kernel, by decide +kernel, _, rfl⟩

theorem witness_EveryStepKeepsCountsHistoriesAndRunsInRange :
    brimful.countsFit ∧ brimful.historiesFit ∧ brimful.runFits ∧ ∃ u, step brimful = .next u :=
  ⟨fun p => by cases p <;> decide +kernel, fun p => by cases p <;> decide +kernel, by unfold State.runFits; decide +kernel,
    _, rfl⟩

theorem witness_EveryFrameReadsBackAsSent :
    1 ≤ (Frame.mk 1 0 (.yield 0)).origin ∧ (Frame.mk 1 0 (.yield 0)).origin ≤ 24 ∧
      1 ≤ (Frame.mk 24 0xFF (.ice 9)).origin ∧ (Frame.mk 24 0xFF (.ice 9)).origin ≤ 24 := by decide +kernel

theorem witness_LineViewFollowsTheLine :
    base.rlp.line = .ended ∧ ({ base.rlp with line := .jam }).line = .jam ∧ base.rlp.attempt = none ∧
      ((sending online (.yield 0)).rlp.line ≠ .ended ∧ (sending online (.yield 0)).rlp.line ≠ .jam) ∧
      (sending online (.yield 0)).rlp.attempt ≠ none := by decide +kernel

/-- A YIELD offered, at the moment at which the first deference point of its class is ahead, and later. -/
def offering : State := { online with now := 0, rlp := { online.rlp with queue := [queued (.yield 0)] } }

/-- The deference point computed. -/
def deferring : State := { offering with rlp := { offering.rlp with deference := some ⟨2, false, 0, 564⟩ } }

theorem witness_AttemptBeginsAtTheDeferencePoint :
    (offering.offeredClass = some 2 ∧ offering.rlp.line ≠ .busy ∧ offering.rlp.attempt = none ∧
      offering.rlp.deference = none) ∧
    deferring.rlp.deference = some ⟨2, false, 0, 564⟩ ∧ deferring.offeredNotice = some (false, .yield 0) ∧
      deferring.rlp.attempt = none ∧ deferring.rlp.line ≠ .busy := by decide +kernel

theorem witness_CompletedTransmissionEntersItsEcho :
    (sending online (.yield 0)).rlp.attempt = some ⟨false, .yield 0, 0, 1000500⟩ ∧ (Notice.yield 0).kind ≠ .leave ∧
    (sending online (.leave 1)).rlp.attempt = some ⟨false, .leave 1, 0, 1000500⟩ ∧ (Notice.leave 1).kind = .leave ∧
    (sending online (.leave 1)).fitted .p0 = true := by decide +kernel

/-- Collisions counted. -/
def collided (n : Nat) : State :=
  { sending online (.yield 0) with rlp := { (sending online (.yield 0)).rlp with collisions := n } }

theorem witness_CollisionsAreCountedUpToTheEighth :
    ((collided 6).rlp.attempt = some ⟨false, .yield 0, 0, 1000500⟩ ∧ (collided 6).rlp.collisions + 1 < 8 ∧
      (collided 6).attemptWithdrawn = false) ∧
    (collided 7).rlp.attempt = some ⟨false, .yield 0, 0, 1000500⟩ ∧ 8 ≤ (collided 7).rlp.collisions + 1 ∧
    (let up (housed : Bool) : State := withDrive (collided 7) fun d => { d with state := .up, housed := housed }
     (up true).fitted .p0 = true ∧ ((up true).drive .p0).state = .up ∧ ((up true).drive .p0).housed = true ∧
       ((up false).drive .p0).housed = false ∧ ((up false).drive .p1).state = .down) := by decide +kernel

theorem witness_FrameOfAnotherStationIsDelivered :
    online.rlp.attempt = none ∧ readFrame (Frame.mk 2 0 (.yield 0)).bytes = some ⟨2, 0, .yield 0⟩ ∧
      (Frame.mk 2 0 (.yield 0)).origin ≠ online.own ∧ online.rlp.port ≠ .offline := by decide +kernel

/-- Station 2 LIVE, doubtful or not, its next sequence expected to be 7. -/
def expecting (doubtful : Bool) : State :=
  let s := withPeer claimed { Peer.reset with status := .live, doubtful := doubtful }
  { s with rlp := { s.rlp with expected := tableSet s.rlp.expected 2 (some 7) } }

theorem witness_FrameOfAnotherStationIsDelivered_gap :
    ((tableGet online.rlp.expected 2).getD none = none ∧ (Notice.join (reported 0 0)).kind = .join) ∧
    ((tableGet (expecting false).rlp.expected 2).getD none = some 7 ∧ (7 : Byte) ≠ 9 ∧ (Notice.yield 0).kind ≠ .join) ∧
    (((expecting true).peer 2).doubtful = true ∧ ((expecting false).peer 2).doubtful = false) ∧
    (∃ e ∈ (expecting false).ru.roster, e.station = 2 ∧ e.state ≠ .unknown) ∧
    (2 ≠ (expecting false).own ∧ ((expecting false).peer 2).status = .live ∧ (online.peer 2).status ≠ .live ∧ 1 = online.own) := by
  decide +kernel

theorem witness_OtherFramesAreNotDelivered :
    (sending online (.yield 0)).rlp.attempt ≠ none ∧ online.rlp.attempt = none ∧ readFrame [0x05] = none ∧
      readFrame (Frame.mk 2 0 (.yield 0)).bytes = some ⟨2, 0, .yield 0⟩ ∧ two.rlp.attempt = none ∧ two.rlp.port = .offline ∧
      readFrame (Frame.mk 1 0 (.yield 0)).bytes = some ⟨1, 0, .yield 0⟩ ∧ (Frame.mk 1 0 (.yield 0)).origin = online.own ∧
      online.rlp.port ≠ .offline ∧ online.rlp.port = .online ∧
      ({ two.rlp with port := .joining }).port = .joining := by decide +kernel

/-- Presence and settling times running, the slot empty or with a JOIN. -/
def joining (slot : Option SlotNotice) : State :=
  { two with rlp := { two.rlp with port := .joining, slot := slot, presenceTimer := some 2000000, settleTimer := some 3000000 } }

theorem witness_PresenceAndSettlingTimersExpire :
    ((joining none).rlp.presenceTimer = some 2000000 ∧ (joining none).rlp.attempt = none ∧
      (∀ p, ((joining none).drive p).outstanding = none) ∧ (joining none).cu.lost = none ∧
      (joining none).iu.giveLost = none ∧ (joining none).sc.leaving ≠ some .lost ∧ (joining none).transmits = true ∧
      (joining none).ventedHeld = false) ∧
    ((joining (some .join)).rlp.slot = some .join ∧ (joining (some .join)).rlp.presenceTimer = some 2000000) ∧
    (joining none).rlp.settleTimer = some 3000000 := by
  refine ⟨⟨?_, ?_, fun p => by cases p <;> rfl, ?_, ?_, ?_, ?_, ?_⟩, ?_, ?_⟩ <;> decide +kernel

theorem witness_PeerTimersClearTheEntries :
    ((withPeer online { Peer.reset with silence := some 1100000 }).peer 2).silence = some 1100000 ∧
      ((withPeer online { Peer.reset with dropClear := some 1100000 }).peer 2).dropClear = some 1100000 ∧
    (let l : List Contest := [claimRecord, ⟨⟨2, 8, .regime⟩, .regime 0 .aForward, 1040000, false⟩,
        ⟨⟨2, 7, .heatTake⟩, .heatTake 0 5, 1040000, false⟩, { claimRecord with target := ⟨3, 9, .claim⟩ }]
     (∃ c ∈ l, c.target.station = 2 ∧ c.body = .claim .p0) ∧ (∃ c ∈ l, c.target.station ≠ 2) ∧
       ∀ c ∈ l.drop 1, c.target.station = 2 → ∀ d ∈ l, d.target = c.target → d.body ≠ .claim .p0 ∧ d.body ≠ .claim .p1) := by
  decide +kernel

/-- An own record of a body, with the own entry of P0 CLAIMED by a sequence. -/
def ownRecord (body : ContestBody) (kind : ContestKind) (q : Byte) : State :=
  contested (listed online [⟨1, .p0, 0, .ac, .claimed, some .collector, some q, true⟩]) [⟨⟨1, 9, kind⟩, body, 1040000, false⟩]

theorem witness_WindowEndClosesTheRecord :
    ((contested online [claimRecord]).contest ⟨2, 9, .claim⟩ = some claimRecord ∧
      (contested online [claimRecord]).contest ⟨2, 10, .claim⟩ = none ∧ claimRecord.target.station ≠ online.own ∧
      ({ claimRecord with objected := true }).objected = true) ∧
    ((1 : Nat) = online.own ∧
      (ownRecord (.regime 0 .aForward) .regime 9).contest ⟨1, 9, .regime⟩ =
        some ⟨⟨1, 9, .regime⟩, .regime 0 .aForward, 1040000, false⟩ ∧
      (ownRecord (.heatTake 0 5) .heatTake 9).contest ⟨1, 9, .heatTake⟩ =
        some ⟨⟨1, 9, .heatTake⟩, .heatTake 0 5, 1040000, false⟩ ∧
      (ownRecord (.claim .p0) .claim 9).contest ⟨1, 9, .claim⟩ = some ⟨⟨1, 9, .claim⟩, .claim .p0, 1040000, false⟩) ∧
    (((ownRecord (.claim .p0) .claim 9).dropContest ⟨1, 9, .claim⟩).ownEntry .p0 =
        some ⟨1, .p0, 0, .ac, .claimed, some .collector, some 9, false⟩ ∧
      ((ownRecord (.claim .p0) .claim 8).dropContest ⟨1, 9, .claim⟩).ownEntry .p0 =
        some ⟨1, .p0, 0, .ac, .claimed, some .collector, some 8, true⟩) := by decide +kernel

/-- The field of an AC pantograph at 100 m in a state with a role. -/
def field (st role : Nat) : Word16 := BitVec.ofNat 16 (32768 + 6400 + st * 4 + role)

theorem witness_YieldDropAndRaisedChangeTheEntry :
    (∀ c ∈ claimed.ru.contests, ∀ d ∈ claimed.ru.contests, c.target = d.target → c.body = d.body) ∧
    ((claimed.entry 2 .p0).map Entry.state = some .claimed ∧ Role.collector ≠ .scraper ∧
      claimed.otherOccupying .scraper 2 .p0 = false) ∧
    (listed online [entry .down]).entry 2 .p0 = some (entry .down) ∧ (entry .down).state ≠ .claimed := by decide +kernel

theorem witness_YieldDropAndRaisedChangeTheEntry_reports :
    (24 ≠ online.own ∧ online.ru.peers.length = 24 ∧ (reported 0 0).fingerprint = online.sc.fingerprint ∧
      ({ reported 0 0 with fingerprint := 0 }).fingerprint ≠ online.sc.fingerprint ∧ online.ru.regime.settled = false ∧
      (State.applyPeerReport (listed online [entry .up]) 2 true { reported 0 0 with fingerprint := 0, pan0 := field 3 1 }).entry
        2 .p0 = some { entry .unknown with windowOpen := false }) ∧
    ((readField 0).fitted = false ∧
      (readField (field 3 1)).fitted = true ∧ (readField (field 3 1)).state = .up ∧ (readField (field 3 1)).role = some .collector ∧
      (readField (field 3 0)).role = none ∧ (readField (field 6 0)).state = .unknown ∧
      (readField (field 4 2)).state = .dropping ∧ (readField (field 4 2)).role = some .scraper ∧
      (readField (field 1 1)).state = .claimed) ∧
    ((listed online [{ entry .up with station := 3, role := some .scraper }]).otherOccupying .scraper 2 .p0 = true ∧
      (inRound (listed online [entry .down]) fun c => { c with isOpen := true }).cu.isOpen = true) ∧
    (1 ≤ online.own ∧ online.own ≤ 24) := by decide +kernel

theorem witness_YieldDropAndRaisedChangeTheEntry_settles :
    let s := contested (listed online [entry .up]) [claimRecord, ⟨⟨3, 4, .regime⟩, .regime 0 .aForward, 1040000, false⟩]
    let t := s.applyPeerReport 2 true { reported (field 3 1) 0 with regime := 0x4C }
    (s.ru.regime.settled = false ∧ 2 ≠ s.own ∧ s.ru.peers.length = 24 ∧
      (∀ c ∈ s.ru.contests, c.target.kind = .regime → c.body ≠ .claim .p0 ∧ c.body ≠ .claim .p1)) ∧
    (t.ru.regime = { s.ru.regime with system := some .ac15, band := 1, direction := .bForward, settled := true } ∧
      t.ru.contests = [claimRecord] ∧ t.entry 2 .p0 = some { entry .up with role := some .collector }) ∧
    ({ reported 0 0 with fingerprint := 0 }).fingerprint ≠ s.sc.fingerprint := by
  decide +kernel

theorem witness_ClaimMakesADownEntryClaimed :
    2 ≠ online.own ∧ (listed online [entry .down]).entry 2 .p0 = some (entry .down) ∧ (entry .down).state = .down ∧
    (contested (listed online [entry .down]) (List.replicate 7 claimRecord)).ru.contests.length < 8 ∧
    (listed online [entry .down]).cu.isOpen = false ∧ (listed online [entry .down]).otherOccupying .scraper 2 .p0 = false ∧
    ((listed online [entry .up]).entry 2 .p0 = some (entry .up) ∧ (entry .up).state ≠ .down) ∧
    8 ≤ (contested (listed online [entry .down]) (List.replicate 8 claimRecord)).ru.contests.length ∧
    ((claimed.claimEntry 2 9).map Entry.state = some .claimed ∧ claimed.claimEntry 2 10 = none ∧ 255 < 256 ∧
      ((ownRecord (.claim .p0) .claim 9).claimEntry 1 9).map Entry.state = some .claimed) := by decide +kernel

theorem witness_ClaimMakesADownEntryClaimed_evaluated :
    (online.entry 2 .p0 = none ∧ (listed online [entry .down]).entry 2 .p0 = some (entry .down) ∧
      (listed online [entry .up]).entry 2 .p0 = some (entry .up)) ∧
    (online.rlp.port = .online ∧ two.rlp.port ≠ .online ∧ 1 = online.own ∧ 2 ≠ online.own) ∧
    (online.transmits = true ∧ online.ventedHeld = false ∧ online.rlp.queue.length < 16) := by decide +kernel

/-- R45: with no regime system a CLAIM of a DOWN entry is objected with SYSTEM, as no source serves the pantograph. -/
theorem test_claim_without_a_system_is_objected :
    ((listed online [entry .down]).applyNotice 2 9 (.claim 0 1)).rlp.queue = [queued (.object 2 9 0x10 5)] := by decide +kernel

/-- Station 2 with a grant of 5 units. -/
def granted : State := { online with iu := { online.iu with grants := [⟨2, 5⟩] } }

theorem witness_RegimeFaultIceAndHeatNoticesApply :
    (2 ≠ online.own ∧ 2 < 256 ∧ (contested online (List.replicate 7 claimRecord)).ru.contests.length < 8 ∧
      ∀ c ∈ (contested online (List.replicate 7 claimRecord)).ru.contests,
        c.target ≠ ⟨2, 9, .regime⟩ ∧ c.target ≠ ⟨2, 9, .heatTake⟩) ∧
    (granted.ru.peers.length = 24 ∧ granted.iu.table.length = 24 ∧ (0x04 : Byte).toNat % 16 < granted.grantOf 2 ∧
      ¬ (0x05 : Byte).toNat % 16 < granted.grantOf 2) ∧
    (8 ≤ (contested online (List.replicate 8 claimRecord)).ru.contests.length ∧
      (granted.applyNotice 2 9 (.heatTake 7)).grantOf 2 = 7) ∧
    ((0x00 : Byte).getLsbD 0 = false ∧ (0x01 : Byte).getLsbD 0 = true ∧ 24 ≠ online.own) ∧
    (decide ((contested online (List.replicate 8 claimRecord)).ru.contests.length < 8) = false ∧ 1 = online.own) := by
  decide +kernel

/-- P0 with its timers and an open FILL pulse running. -/
def driving : State := withDrive two fun d => { d with
  deadTimer := some 1000001, pulse := .running 1000002, regulationTimer := some 1000003, valve := .fill, target := .fill }

theorem witness_DriveTimersServeTheValves :
    driving.fitted .p0 = true ∧ (driving.drive .p0).deadTimer = some 1000001 ∧
      (driving.drive .p0).pulse = .running 1000002 ∧ (driving.drive .p0).regulationTimer = some 1000003 := by decide +kernel

/-- A drive record with a valve, a target, its dead timer and its enable. -/
def valved (v g : Valve) (dead : Timer) (enable : Bool) : Drive :=
  { Drive.reset true 0 20000 6000000 70 with valve := v, target := g, deadTimer := dead, enable := enable }

theorem witness_ValvesAreServedTowardsTheTarget :
    ((valved .fill .vent none true).valve ≠ .closed ∧ (valved .fill .vent none true).target ≠ (valved .fill .vent none true).valve) ∧
    ((valved .fill .fill none true).valve ≠ .closed ∧ (valved .fill .fill none true).target = (valved .fill .fill none true).valve) ∧
    ((valved .closed .fill (some 9) true).valve = .closed ∧ (valved .closed .fill (some 9) true).deadTimer ≠ none) ∧
    ((valved .closed .vent none false).valve = .closed ∧ (valved .closed .vent none false).deadTimer = none ∧
      (valved .closed .vent none false).target = .vent) ∧
    ((valved .closed .fill none true).deadTimer = none ∧ (valved .closed .fill none true).target = .fill ∧
      (valved .closed .fill none true).enable = true) ∧
    ((valved .closed .fill none false).valve = .closed ∧ (valved .closed .fill none false).enable = false) ∧
    ((valved .closed .closed none true).valve = .closed ∧ (valved .closed .closed none true).target = .closed) ∧
    (({ valved .fill .fill none true with pulse := .running 9 }).heldDecision = none ∧
      ({ valved .fill .fill none true with heldDecision := some .vent }).heldDecision = some .vent ∧
      ({ valved .fill .fill none true with pulse := .running 9 }).pulse = .running 9) := by decide +kernel

theorem witness_ValvesAreServedTowardsTheTarget_waiting (due : Moment) :
    ({ valved .closed .vent none true with pulse := .waiting }).pulse ≠ .running due := fun h => Pulse.noConfusion h

/-- P0 LOWERING at a count. -/
def sinking (count : Int) : State :=
  { withDrive two (fun d => { d with state := .lowering, lowerTimer := some 7000000 }) with
    mu := { two.mu with pos := ⟨⟨false, false, count, 0, 0⟩, two.mu.pos.p1⟩ } }

theorem witness_HousingReferencesTheCount :
    (sinking 200).fitted .p0 = true ∧ ((sinking 200).drive .p0).housed = false ∧ ((sinking 200).mu.pos.get .p0).count ≤ 200 ∧
      ((sinking 200).drive .p0).state = .lowering ∧ ((sinking 200).drive .p0).pendingBlock = none ∧
    ((pinned (sinking 200) (.housed .p0) false 0).pins.get (.housed .p0)).level = false ∧
      (pinned (sinking 200) (.housed .p0) true 1000000).pins.get (.housed .p0) = ⟨true, 1000000⟩ ∧
    (1000000 + 30000 ≤ 1030000 ∧ 1029999 < 1000000 + 30000) ∧
    (((pinned (sinking 200) (.housed .p0) false 0).pins.get (.housed .p0)).level =
        ((pinned (sinking 200) (.housed .p0) false 0).drive .p0).housed ∧
      1029999 < ((pinned (sinking 200) (.housed .p0) true 1000000).pins.get (.housed .p0)).since + 30000) := by
  decide +kernel

/-- P0's drive ONLINE in a state. -/
def driven (st : DriveState) : State := withDrive online fun d => { d with state := st }

theorem witness_DropLineClearsTheEnable :
    (two.dropLine.get .p0 = false ∧ two.fitted .p0 = true ∧ base.dropLine.get .p1 = false ∧ base.fitted .p1 = false) ∧
    ((online.drive .p0).state = .down ∧ online.transmits = true ∧ online.ventedHeld = false ∧ online.rlp.queue.length < 16 ∧
      (online.drive .p0).claimStage ≠ .queued) ∧
    ((driven .raising).drive .p0).state = .raising ∧ ((driven .up).drive .p0).state = .up ∧
    (((driven .lowering).drive .p0).state = .lowering ∧ ((driven .lowering).drive .p0).housed = false ∧
      ((withDrive (driven .up) fun d => { d with housed := true }).drive .p0).housed = true) ∧
    ((driven .dropped).drive .p0).state = .dropped ∧ ((driven .blocked).drive .p0).state = .blocked := by decide +kernel

theorem witness_DriveTimeoutsRaiseTheirFaults :
    ((withDrive two fun d => { d with state := .raising, raiseTimer := some 5 }).drive .p0).raiseTimer = some 5 ∧
      ((sinking 300).drive .p0).lowerTimer = some 7000000 ∧ (sinking 300).fitted .p0 = true ∧
      ((withDrive two fun d => { d with state := .raising }).drive .p0).housed = false ∧
      ((withDrive two fun d => { d with state := .raising, housed := true }).drive .p0).housed = true := by decide +kernel

/-- P0's claim STANDING with a role. -/
def standing (r : Role) : State :=
  withDrive online fun d => { d with enable := true, role := some r, claimStage := .standing, claimSeq := some 9 }

theorem witness_GoAheadBeginsTheRaise :
    (((standing .collector).drive .p0).role ≠ none ∧ ((standing .collector).drive .p0).claimStage = .standing ∧
      ((standing .collector).drive .p0).claimSeq = some 9 ∧ ((standing .collector).drive .p0).state = .down ∧
      ((standing .collector).drive .p0).enable = true ∧ (standing .collector).rlp.port = .online ∧
      ∀ q ∈ (standing .collector).rlp.queue, q.notice ≠ .yield (panCode .p0)) ∧
    (((standing .collector).sg.iso.get .p0).confirmed = some .closed ∧
      ((standing .scraper).sg.iso.get .p0).confirmed ≠ some .opn ∧
      ((geared (standing .scraper) fun g => { g with iso := ⟨{ g.iso.p0 with confirmed := some .opn }, g.iso.p1⟩ }).sg.iso.get
        .p0).confirmed = some .opn) ∧
    (((withDrive (standing .collector) fun d => { d with role := none }).drive .p0).role = none ∧
      ∃ q ∈ offering.rlp.queue, q.notice = .yield (panCode .p0)) := by decide +kernel

/-- R69: a claim whose own YIELD still waits does not take its go-ahead. -/
theorem test_go_ahead_behind_an_own_yield_is_ignored :
    let s := standing .collector
    let t : State := { s with rlp := { s.rlp with queue := [queued (.yield 0)] } }
    t.goAhead .p0 9 = t := by decide +kernel

theorem witness_LineVoltageConversion : 0 < 1 ∧ 0 < 131072 ∧ 131071 < 131072 ∧ 131072 ≤ 131072 := by decide +kernel

theorem witness_ContactForceConversion :
    (0 < 131072 ∧ 131071 < 131072 ∧ 131072 ≤ 131072 ∧ PulseChan.frc1 = .frc1) ∧
    (∃ c : Capture, c.validity = .valid ∧ c.quantity = some 65535) ∧
    (∃ c : Capture, c.validity ≠ .valid ∧ c.quantity = some 0) ∧ noSignalCapture.validity ≠ .valid :=
  ⟨by decide +kernel, ⟨⟨.valid, none, none, some 65535, none⟩, rfl, rfl⟩,
    ⟨⟨.over, none, none, some 0, none⟩, by decide +kernel, rfl⟩, by decide +kernel⟩

/-- LV with a measurement in progress. -/
def measuring (periods : Nat) : State :=
  { two with mu := { two.mu with lv := { two.mu.lv with measurement := some ⟨900000, periods⟩ } } }

theorem witness_PulseEdgeMeasuresThePeriods :
    (two.pins.get (pulsePin .lv)).level = (two.mu.pulse .lv).cap.level ∧ (1000001 < 1000000 + 2 ∧ 1000000 + 2 ≤ 1000002) ∧
    (two.mu.pulse .lv).cap.level = false ∧ (two.mu.pulse .lv).cap.level ≠ true ∧
    ({ two.mu.lv.cap with level := true } : CaptureRecord).level ≠ false ∧ (two.mu.pulse .lv).measurement = none ∧
    ((measuring 6).mu.pulse .lv).measurement = some ⟨900000, 6⟩ ∧
    ((measuring 7).mu.pulse .lv).measurement = some ⟨900000, 7⟩ := by decide +kernel

/-- ZX with an edge behind it. -/
def crossed : State := { two with mu := { two.mu with zx := { two.mu.zx with previous := some 990000 } } }

theorem witness_ZeroCrossingEdgeCapturesTheHalf :
    (two.pins.get .zx).level = two.mu.zx.cap.level ∧ (1000019 < 1000000 + 20 ∧ 1000000 + 20 ≤ 1000020) ∧
      two.mu.zx.cap.level = false ∧ two.mu.zx.cap.level ≠ true ∧ two.mu.zx.previous = none ∧
      (crossed.pins.get .zx).level = crossed.mu.zx.cap.level ∧ crossed.mu.zx.cap.level ≠ true ∧
      crossed.mu.zx.previous = some 990000 := by decide +kernel

/-- LV with its counter and its no-signal timer running. -/
def listening : State :=
  { two with mu := { two.mu with lv := { two.mu.lv with
      cap := { two.mu.lv.cap with counterFrom := some 934464, noSignal := some 1100000 } } } }

theorem witness_CounterOverflowAndSilenceOfAChannel :
    ((listening.mu.cap .lv).counterFrom = some 934464 ∧ (listening.mu.cap .lv).overflow < 2 ∧
      ({ two.mu.lv.cap with overflow := 1 } : CaptureRecord).overflow < 2 ∧
      2 ≤ ({ two.mu.lv.cap with overflow := 2 } : CaptureRecord).overflow) ∧
    (two.mu.cap .lv).counterFrom = none ∧ (listening.mu.cap .lv).noSignal = some 1100000 := by decide +kernel

/-- Every channel with a fresh capture. -/
def taking : State :=
  { two with mu := { two.mu with
      lv := { two.mu.lv with cap := freshCapture two.mu.lv.cap ⟨.valid, some 100, some 80, some 23, none⟩ }
      zx := { two.mu.zx with cap := freshCapture two.mu.zx.cap (zxCapture 10000 false) }
      frc := ⟨⟨freshCapture two.mu.frc.p0.cap ⟨.valid, some 100, some 80, some 70, none⟩, none⟩,
        ⟨freshCapture two.mu.frc.p1.cap noSignalCapture, none⟩⟩ } }

/-- P0 RAISING as COLLECTOR, with contact made since a moment. -/
def rising (since : Timer) : State :=
  withDrive online fun d => { d with state := .raising, role := some .collector, contactSince := since }

/-- P0 UP, pressed below 20 N since a moment, in an episode or not. -/
def pressed (since : Timer) (episode : Bool) : State :=
  withDrive online fun d => { d with state := .up, lowSince := since, episode := episode }

theorem witness_TakesClearTheFlagsAndFeedTheConsumer :
    (taking.mu.lv.cap.fresh = true ∧ taking.mu.lv.cap.capture = some ⟨.valid, some 100, some 80, some 23, none⟩) ∧
    (taking.mu.zx.cap.fresh = true ∧ taking.mu.zx.cap.capture = some (zxCapture 10000 false) ∧
      noSignalCapture.validity = .noSignal) ∧
    (taking.fitted .p0 = true ∧ taking.mu.frc.p0.cap.fresh = true ∧
      taking.mu.frc.p0.cap.capture = some ⟨.valid, some 100, some 80, some 70, none⟩) ∧
    (taking.fitted .p1 = true ∧ taking.mu.frc.p1.cap.fresh = true ∧ taking.mu.frc.p1.cap.capture = some noSignalCapture) ∧
    ((two.mu.cap .frc0).fresh = false ∧ (configured base [(28, 0)]).fitted .p0 = false ∧ base.fitted .p1 = false) ∧
    ((rising none).drive .p0).state = .raising ∧
      ((rising none).contactThreshold = 40 ∧ ((rising none).drive .p0).contactSince = none) ∧
      (((rising (some 940001)).drive .p0).contactSince = some 940001 ∧ (rising (some 940001)).now < 940001 + 60000) ∧
      (((rising (some 940000)).drive .p0).contactSince = some 940000 ∧ 940000 + 60000 ≤ (rising (some 940000)).now) ∧
      ((rising none).drive .p0).role = some .collector ∧
      (online.transmits = true ∧ online.ventedHeld = false ∧ online.rlp.queue.length < 16) ∧
    (((pressed none false).drive .p0).state = .up ∧ ((pressed none false).drive .p0).lowSince = none ∧
      ((pressed none true).drive .p0).episode = true) ∧
      (((pressed (some 900000) false).drive .p0).lowSince = some 900000 ∧
        (pressed (some 900000) false).now ≤ 900000 + 100000) ∧
      (((pressed (some 899999) false).drive .p0).lowSince = some 899999 ∧
        899999 + 100000 < (pressed (some 899999) false).now ∧ ((pressed (some 899999) false).drive .p0).episode = false) ∧
    ((online.drive .p0).state ≠ .raising ∧ (online.drive .p0).state ≠ .up) := by
  decide +kernel

theorem witness_EncoderAndArcInputsCount :
    ((two.pins.get .lv).level = two.filtered .lv ∧ true ≠ two.filtered .lv ∧ false = two.filtered .lv ∧
      ((pinned two .lv true 1000000).pins.get .lv).level ≠ (pinned two .lv true 1000000).filtered .lv ∧
      1000001 < ((pinned two .lv true 1000000).pins.get .lv).since + filterTime .lv ∧
      (1000000 + filterTime .lv ≤ 1000002 ∧ 1000001 < 1000000 + filterTime .lv)) ∧
    ((two.pins.get (.posA .p0)).level = (two.mu.pos.get .p0).a ∧ (two.pins.get (.posB .p0)).level = (two.mu.pos.get .p0).b) ∧
    ((two.pins.get (.arc .p0)).level = (two.mu.arc.get .p0).level ∧ 1000004 < 1000000 + 5 ∧ 1000000 + 5 ≤ 1000005) ∧
    (two.mu.arc.get .p0).level = false ∧ ({ two.mu.arc.p0 with level := true } : ArcChannel).level = true := by decide +kernel

/-- An axle pulse of 50 mm, the fraction and the window's metres as given. -/
def rolling (fraction metres : Nat) : State :=
  rolled (configured base [(50, 50)]) fun o => { o with fraction := fraction, windowMetres := metres }

theorem witness_AxlePulseDrivesTheOdometer :
    ((rolling 949 0).pins.get .odo).level = (rolling 949 0).mu.odo.level ∧ (1000049 < 1000000 + 50 ∧ 1000000 + 50 ≤ 1000050) ∧
    (rolled (pinned base .odo true 0) fun o => { o with level := true }).mu.odo.level = true ∧
    (rolling 949 0).millimetresPerPulse = 50 ∧ (rolling 949 0).arcWindow = 200 ∧ (rolling 949 0).mu.odo.level = false ∧
    (rolling 949 0).mu.odo.fraction + 50 < 1000 ∧
    (1000 ≤ (rolling 950 198).mu.odo.fraction + 50 ∧ (rolling 950 198).mu.odo.windowMetres + 1 < 200) ∧
    (1000 ≤ (rolling 999 199).mu.odo.fraction + 50 ∧ 200 ≤ (rolling 999 199).mu.odo.windowMetres + 1) := by decide +kernel

/-- P0 UP as COLLECTOR. -/
def collecting : State :=
  listed (withDrive online fun d => { d with state := .up, role := some .collector })
    [⟨1, .p0, 0, .ac, .up, some .collector, none, false⟩]

/-- The same at 50 m, with the breaker closed, inside a NEUTRAL section, late there or not, and short of a SYSTEM one. -/
def coasting (late : Bool) : State :=
  let s := geared (sectioned collecting
    [{ held 0 20 80 with late := ⟨late, false⟩ }, ⟨⟨2, 1⟩, .system .dc3, false, 200, 500, ⟨false, false⟩, false⟩])
    fun g => { g with breakerOpen := false }
  rolled s fun o => { o with metres := 50 }

theorem witness_AxlePulseDrivesTheOdometer_sections :
    let s := coasting false
    let inside (e : SectionEntry) : Bool := e.kind = .neutral &&
      (s.reached (moved e.start (s.panDistance .p0)) && !s.reached (moved e.finish (s.panDistance .p0)))
    (s.fitted .p0 = true ∧ (s.drive .p0).state = .up ∧ (s.drive .p0).role = some .collector ∧ s.sg.breakerOpen = false ∧
      (s.drive .p0).housed = false) ∧
    (s.sq.entries.find? inside = some (held 0 20 80) ∧ ((held 0 20 80).late.get .p0) = false ∧
      ({ held 0 20 80 with late := ⟨true, false⟩ }).late.get .p0 = true ∧ ([] : List SectionEntry).find? inside = none) ∧
    (s.sg.breakerOpen = false ∧ online.sg.breakerOpen = true ∧ (online.drive .p0).state ≠ .up) ∧
    ((s.reached (moved 20 (s.panDistance .p0 - 20)) && !s.reached (moved 80 (s.panDistance .p0 + 20))) = true ∧
      (s.reached (moved 200 (s.panDistance .p0 - s.lowerDistance)) &&
        !s.reached (moved 500 (s.probeMargin + s.panDistance .p0 + 1))) = true) := by decide +kernel

/-- R117, R118, R120: NEUTRAL held, the collector ordered down with BREAKER_LATE once, and its raise held. -/
theorem test_sections_act_on_breaker_and_drive :
    let t := (coasting false).followSections
    t.sg.reasons.neutral = true ∧ (t.drive .p0).state = .lowering ∧ t.faultSet .breakerLate = true ∧
      t.sq.raiseHold.get .p0 = true ∧ ((coasting true).followSections).faultSet .breakerLate = false := by decide +kernel

/-- The regime's system. -/
def under (x : Supply) (s : State) : State := { s with ru := { s.ru with regime := { s.ru.regime with system := some x } } }

/-- A SECTION of the key (2, id) at a distance of 200 m and 10 m long. -/
def announced (id : Byte) (kind : SectionKind) : SectionEntry := ⟨⟨2, id⟩, kind, false, 200, 210, ⟨false, false⟩, false⟩

/-- A SYSTEM entry of station 2 beside the announced one. -/
def system (id : Byte) (t : Supply) : SectionEntry := ⟨⟨2, id⟩, .system t, false, 195, 205, ⟨false, false⟩, false⟩

theorem witness_SectionNoticeEntersTheQueue :
    (∃ x ∈ (sectioned online heldEight).sq.entries, x.key = ⟨2, 7⟩) ∧
    (∃ x ∈ (sectioned online [held 0 140 149]).sq.entries, x.overlaps (announced 9 .neutral) = true) ∧
    ((∀ x ∈ heldEight, x.key ≠ ⟨2, 9⟩) ∧ (∀ x ∈ heldEight, x.overlaps (announced 9 .neutral) = false) ∧
      8 ≤ heldEight.length ∧ (heldEight.drop 1).length < 8) ∧
    ((under .ac25 online).ru.regime.system = some .ac25 ∧ (under .ac25 online).ru.regime.system ≠ some .dc3) ∧
    ((∀ x ∈ [held 0 140 149], x.overlaps (announced 9 (.system .dc3)) = true → x.kind = .neutral) ∧
      ([held 0 140 149].filter fun x => !x.overlaps (announced 9 (.system .dc3))).length < 8) ∧
    ((([system 0 .ac25, system 1 .dc15].filter fun y => y.overlaps (announced 9 (.system .dc3))).find? fun y =>
        y.kind != .neutral && y.kind != .system .dc3) = some (system 0 .ac25) ∧
      ((system 0 .dc3).overlaps (announced 9 (.system .dc3)) = true ∧ (system 0 .dc3).kind = .system .dc3) ∧
      online.ru.regime.system ≠ some .dc3) ∧
    (notAfter 200 201 = true ∧ notAfter 200 200 = true ∧ notAfter 200 199 = false) := by decide +kernel

theorem witness_WindowResultFollowsTheTable : base.sg.windowTimer = some 160000 ∧
    (1 ≤ 1 ∧ 10 * max 12 10 ≤ 12 * min 12 10 ∧ ¬ 10 * max 13 10 ≤ 12 * min 13 10) := by decide +kernel

/-- A collector UP under 3 kV with its isolator CLOSED and a stable class, the held conditions as given. -/
def watching (stable : LineClass) (held : Bool) : State := geared (under .dc3 collecting) fun g => { g with
  line := { g.line with stable := stable }, mismatchHeld := held, deadHeld := held
  iso := ⟨{ g.iso.p0 with confirmed := some .closed }, g.iso.p1⟩ }

theorem witness_ThreeEqualResultsMakeTheStableClass :
    base.sg.windowTimer = some 160000 ∧
    (let s := watching (.live .ac25) false
     s.ru.regime.system = some .dc3 ∧ s.fitted .p0 = true ∧ (s.drive .p0).state = .up ∧
       (s.drive .p0).role = some .collector ∧ (s.sg.iso.get .p0).confirmed = some .closed ∧
       s.sg.line.stable ≠ .dead ∧ s.sg.line.stable ≠ .live .dc3 ∧ s.sg.mismatchHeld = false ∧
       (watching (.live .ac25) true).sg.mismatchHeld = true) ∧
    ((watching .dead false).sg.line.stable = .dead ∧ (watching .dead false).sq.entries = [] ∧
      (watching .dead false).sg.deadHeld = false ∧ (watching .dead true).sg.deadHeld = true) ∧
    (watching (.live .dc3) false).sg.line.stable = .live .dc3 ∧ (online.drive .p0).state ≠ .up ∧
    (∃ e ∈ (coasting false).sq.entries,
      (coasting false).reached (moved e.start ((coasting false).panDistance .p0)) = true ∧
        (coasting false).reached (moved e.finish ((coasting false).panDistance .p0)) = false) := by decide +kernel

/-- The selector on a leg to OPEN, its target as given. -/
def moving (target : SelPos) : State := geared two fun g => { g with selector := { g.selector with
  target := some target, leg := some .opn, before := some .ac, confirmed := none, busy := true } }

/-- P0's isolator changed. -/
def isolated (f : Isolator → Isolator) : State := geared two fun g => { g with iso := ⟨f g.iso.p0, g.iso.p1⟩ }

theorem witness_FeedbackInputsAreKept :
    ((base.pins.get .selAc).level = base.sg.selector.contacts.ac ∧ (base.pins.get .selOpn).level = base.sg.selector.contacts.opn ∧
      (base.pins.get .selDc).level = base.sg.selector.contacts.dc ∧ 1000000 + 30000 ≤ 1030000 ∧
      base.sg.selector.contacts ≠ ⟨true, true, true⟩) ∧
    (base.sg.selector.busy = false ∧ base.sg.selector.leg = none ∧
      selShows ⟨false, false, false⟩ ≠ base.sg.selector.confirmed) ∧
    (((moving .opn).sg.selector.leg = some .opn ∧ selShows ⟨false, true, false⟩ = some .opn ∧
        (moving .opn).sg.selector.target = some .opn) ∧
      ((moving .dc).sg.selector.target = some .dc ∧ SelPos.dc ≠ .opn ∧ nextLeg (some .opn) .dc = some .dc ∧
        (moving .dc).sg.selector.busy = true)) ∧
    ((withDrive two fun d => { d with state := .up }).allDown = false ∧ two.allDown = true ∧ (moving .dc).allDown = true ∧
      two.sg.selector.busy = false ∧
      (geared two fun g => { g with selector := { g.selector with confirmed := some .ac } }).sg.selector.confirmed = some .ac) ∧
    ((two.pins.get (.isoOpn .p0)).level = (two.sg.iso.get .p0).contacts.opn ∧
      (two.pins.get (.isoClosed .p0)).level = (two.sg.iso.get .p0).contacts.closed) ∧
    (((isolated fun i => { i with moving := some .opn }).sg.iso.get .p0).moving = some .opn ∧
      isoShows ⟨true, false⟩ = some .opn ∧ isoShows ⟨true, true⟩ ≠ some .opn ∧
      ((isolated fun i => { i with requested := some .opn }).sg.iso.get .p0).requested = some .opn ∧
      ((isolated fun i => { i with confirmed := some .closed }).sg.iso.get .p0).confirmed = some .closed) ∧
    (two.fitted .p0 = true ∧ base.fitted .p1 = false ∧ base.sg.breakerOpen ≠ false ∧ base.sg.breakerOpen = true ∧
      (base.pins.get .breaker).level = base.sg.breakerOpen ∧ 1029999 < 1000000 + 30000) := by decide +kernel

/-- Every timer of the switchgear running. -/
def timedGear : State := geared two fun g => { g with
  selector := { g.selector with busy := true, target := some .ac, leg := some .ac, before := some .opn, legTimer := some 2 }
  iso := ⟨{ g.iso.p0 with moving := some .opn, moveTimer := some 3 }, g.iso.p1⟩
  breakerTimer := some 4, deadLineTimer := some 5 }

theorem witness_GearTimeoutsRaiseTheirFaults :
    timedGear.sg.selector.legTimer = some 2 ∧ (timedGear.sg.iso.get .p0).moveTimer = some 3 ∧
      timedGear.sg.breakerTimer = some 4 ∧ timedGear.sg.deadLineTimer = some 5 := by decide +kernel

/-- A round in a phase with its timers running. -/
def timedRound (phase : RoundPhase) : State := inRound online fun c => { c with
  number := 1, isOpen := true, target := some .ac15, phase := phase, roundTimer := some 2, probeWait := some 3, probeRetry := some 4 }

theorem witness_RoundTimersQueueTheirNotices :
    ((timedRound .lower).cu.roundTimer = some 2 ∧ (timedRound .lower).cu.phase ≠ .adopted) ∧
    ((timedRound .adopted).cu.roundTimer = some 2 ∧ (timedRound .adopted).cu.phase = .adopted) ∧
    (timedRound .probe).cu.probeWait = some 3 ∧ (timedRound .probe).cu.probeRetry = some 4 ∧
    ((timedRound .gather).cu.phase = .gather ∧ (timedRound .gather).anyFitted = true ∧ (timedRound .gather).allDown = true ∧
      (configured (timedRound .gather) [(28, 0)]).anyFitted = false ∧ (timedRound .gather).cu.start = none) ∧
    ((withDrive (timedRound .lower) fun d => { d with state := .up }).fitted .p0 = true ∧
      ((withDrive (timedRound .lower) fun d => { d with state := .up }).drive .p0).housed = false) ∧
    ((inRound (timedRound .switch) fun c => { c with selAnswer := some true }).cu.selAnswer = some true ∧
      (timedRound .switch).cu.catchUp = false ∧
      (inRound (timedRound .switch) fun c => { c with selAnswer := some false, catchUp := true }).cu.catchUp = true) ∧
    ((timedRound .ready).occupyingRole .probe = false ∧
      (listed (timedRound .ready) [{ entry .up with role := some .probe }]).occupyingRole .probe = true) := by decide +kernel

/-- A round adopted under a number modulo 64. -/
def adopted (n : Byte) : State := inRound (timedRound .adopted) fun c => { c with number := n, mod64 := true, target := none }

theorem witness_ClosingARoundSetsTheSystem :
    ((adopted 5).cu.phase = .adopted ∧ (adopted 5).cu.mod64 = true ∧ (69 : Byte).toNat % 64 = (adopted 5).cu.number.toNat % 64 ∧
      (adopted 5).cu.isOpen = true) ∧
    ((timedRound .lower).cu.isOpen = true ∧ (timedRound .lower).cu.key = .none ∧
      (timedRound .lower).cu.target = some .ac15 ∧ (timedRound .lower).cu.phase ≠ .adopted) ∧
    (online.cu.isOpen = false ∧ (RoundKey.key ⟨2, 0⟩ ≠ online.cu.key) ∧
      (inRound online fun c => { c with key := .key ⟨2, 0⟩ }).cu.key = .key ⟨2, 0⟩ ∧
      (under .ac15 online).ru.regime.system = some .ac15 ∧ online.ru.regime.system ≠ some .ac15) ∧
    (online.anyFitted = true ∧ (configured online [(28, 0)]).anyFitted = false ∧
      (configured (moving .opn) [(28, 0)]).anyFitted = false ∧
      ((moving .opn).sg.selector.busy = true ∧ (moving .opn).sg.selector.target = some .opn) ∧
      ¬ (online.sg.selector.busy = true ∧ online.sg.selector.target = some .opn)) ∧
    (abortReasonOf 3 = some .peerUnknown ∧ (timedRound .lower).cu.mod64 = false ∧ (timedRound .lower).cu.number = 1 ∧
      (timedRound .lower).cu.catchUp = false ∧
      (inRound (timedRound .lower) fun c => { c with catchUp := true }).cu.catchUp = true ∧
      some (LineClass.live .ac15) = (timedRound .probe).cu.target.map LineClass.live ∧
      some LineClass.dead ≠ (timedRound .probe).cu.target.map LineClass.live ∧
      online.newer 1 = true ∧ (inRound online fun c => { c with number := 9, outcome := .done }).newer 9 = false) ∧
    ((timedRound .switch).cu.selRequest ≠ .failed ∧ (timedRound .gather).cu.phase = .gather) ∧
    ((adopted 5).cu.catchUp = false ∧ (adopted 5).cu.selRequest = .idle ∧ (adopted 5).allDown = true ∧
      (withDrive (adopted 5) fun d => { d with state := .lowering }).allDown = false ∧
      (inRound (adopted 5) fun c => { c with selRequest := .asked }).cu.selRequest ≠ .idle ∧
      (configured (adopted 5) [(28, 0)]).anyFitted = false) ∧
    (2 ≠ online.own ∧ ((withPeer online { Peer.reset with status := .live }).peer 2).status = .live ∧
      (0xFE : Byte).getLsbD 1 = true ∧ online.cu.outcome = .none ∧
      (0xFE : Byte).toNat / 4 ≠ (inRound online fun c => { c with outcome := .done }).cu.number.toNat % 64) := by
  decide +kernel

theorem witness_ArcWindowEndFeedsTheObservation :
    (({ online.iu with forced := true }).forced = true ∧ online.iu.forced = false ∧ collecting.upCollector .p0 = true ∧
      collecting.anyCollector = true ∧ online.upCollector .p0 = false ∧ online.anyCollector = false) ∧
    (((rolling 999 199).pins.get .odo).level = false ∧ (rolling 999 199).mu.odo.level = false ∧ 1000000 + 50 ≤ 1000050 ∧
      1000 ≤ (rolling 999 199).mu.odo.fraction + 50 ∧ (rolling 999 199).arcWindow ≤ (rolling 999 199).mu.odo.windowMetres + 1) := by
  decide +kernel

/-- The ice unit's timers running, the scraper in a phase. -/
def timedIce (phase : ScraperPhase) : State :=
  scraping { online with iu := { online.iu with heatRetry := some 2, release := some 3 } } fun r =>
    { r with phase := phase, pan := some .p0, retry := some 4 }

/-- P0 with every condition of a scraper run, its entry the candidate. -/
def mayScrape : State :=
  let s := withDrive online fun d => { d with enable := true }
  { s with ru := { s.ru with
      peers := tableSet s.ru.peers 1 { Peer.reset with status := .live }, roster := [⟨1, .p0, 0, .ac, .down, none, none, false⟩]
      regime := { s.ru.regime with system := some .ac25, ice := .scrape } } }

theorem witness_IceUnitTimersEndTheirWait :
    (timedIce .claiming).iu.scraper.retry = some 4 ∧ ((timedIce .working).iu.scraper.phase ≠ .claiming ∧
      (timedIce .working).iu.scraper.retry = some 4) ∧ (timedIce .none).iu.heatRetry = some 2 ∧
      (timedIce .none).iu.release = some 3 ∧ (timedIce .claiming).iu.scraper.pan = some .p0 ∧
      (timedIce .claiming).scraperMay .p0 = false ∧ mayScrape.scraperMay .p0 = true := by decide +kernel

/-- R28, R158: at a sequence gap the roster changes twice, by the doubt and by the PRESENT that ends it, so a run whose
conditions hold starts although the roster ends as it was when they were last tested. -/
theorem test_gapped_present_tests_the_scraper_run :
    let e : Entry := entry .down
    let s := listed mayScrape [⟨1, .p0, 0, .ac, .down, none, none, false⟩, { e with position := 300 }]
    let t : State := { s with
      ru := { s.ru with
        peers := tableSet s.ru.peers 2 { Peer.reset with status := .live }, regime := { s.ru.regime with settled := true } }
      rlp := { s.rlp with expected := tableSet s.rlp.expected 2 (some 7) } }
    let u : State := { t with iu := { t.iu with observation := .scrape, tested := some t.scraperView } }
    let report : Report := ⟨defaultFingerprint, BitVec.ofNat 16 (32768 + 300 * 64), 0, 0x22, 0, 0⟩
    let shown (seq : Byte) : State := (u.receive ⟨2, seq, .present report⟩).settle
    u.settle.iu.scraper.phase = .none ∧ (shown 7).iu.scraper.phase = .none ∧ (shown 9).iu.scraper.phase = .opening := by
  decide +kernel

/-- P0's heater changed. -/
def heating (enable : Bool) (trips : List Moment) : State :=
  { two with iu := { two.iu with heaters := ⟨{ two.iu.heaters.p0 with enable := enable, trips := trips }, two.iu.heaters.p1⟩ } }

theorem witness_HeaterPeriodCopiesTheDuty :
    (two.fitted .p0 = true ∧ (two.iu.heaters.get .p0).periodTimer = some 1000000) ∧
    (({ two.iu with usable := true }).usable = true ∧ two.grantUsable = false) ∧
    ({ two.iu.heaters.p0 with cut := true } : Heater).cut = true := by decide +kernel

/-- R164: with one collector UP half of the budget is effective, and the grants within it are the longest prefix. -/
theorem test_half_budget_with_one_collector :
    let s : State := { collecting with iu := { collecting.iu with grants := [⟨1, 2⟩, ⟨2, 15⟩, ⟨3, 15⟩] } }
    online.effectiveBudget = 0 ∧ s.effectiveBudget = s.heatBudget / 2 ∧ s.activeGrants = [⟨1, 2⟩] ∧ s.grantUsable = true ∧
      2 ≤ s.iu.grants.length := by decide +kernel

theorem witness_ThirdTripTakesTheHeaterOut :
    two.fitted .p0 = true ∧
    (((heating true [0]).iu.heaters.get .p0).enable = true ∧
      (((heating true [0]).iu.heaters.get .p0).trips.filter fun x => 60000000 ≤ x + 60000000).length < 2 ∧
      (((heating true [0, 1]).iu.heaters.get .p0).trips.filter fun x => 60000001 ≤ x + 60000000).length < 2) ∧
    2 ≤ (((heating true [0, 1]).iu.heaters.get .p0).trips.filter fun x => 60000000 ≤ x + 60000000).length ∧
    ((heating false []).iu.heaters.get .p0).enable = false := by decide +kernel

theorem witness_TurnedAwayRequestsHaveNoEffect :
    (Request.mk [0] 0).check ≠ requestCheck 0x10 [0] ∧ (request 0x10 [2]).check = requestCheck 0x10 (request 0x10 [2]).args ∧
      (two.panArg [2]).isSome = false ∧ (base.panArg [1]).isSome = false ∧
      (request 0x40 [1]).check = requestCheck 0x40 (request 0x40 [1]).args ∧ (maskArg [1]).isSome = false := by decide +kernel

theorem witness_RaiseAndLowerMoveTheRequest :
    two.panArg [0] = some .p0 ∧ (request 0x10 [0]).check = requestCheck 0x10 [0] ∧
      (request 0x11 [0]).check = requestCheck 0x11 [0] ∧
    ((two.drive .p0).state = .down ∧ (two.drive .p0).enable = false ∧ ((standing .probe).drive .p0).enable = true ∧
      ((standing .probe).drive .p0).state = .down) ∧
    ((sinking 0).drive .p0).state = .lowering ∧ ((withDrive two fun d => { d with state := .dropped }).drive .p0).state = .dropped ∧
    ((withDrive two fun d => { d with state := .blocked }).drive .p0).state = .blocked ∧
    ((withDrive two fun d => { d with state := .raising }).drive .p0).state = .raising ∧
    (collecting.drive .p0).state = .up ∧ (collecting.drive .p0).housed = false := by decide +kernel

/-- P0 with every condition of a collector claim but the isolator's, which is as given. -/
def mayRaise (pos : Option IsoPos) : State :=
  let s := under .ac25 (withDrive online fun d => { d with raiseRequest := true, enable := true })
  geared (listed s [⟨1, .p0, 0, .ac, .down, none, none, false⟩]) fun g => { g with
    iso := ⟨{ g.iso.p0 with confirmed := pos }, g.iso.p1⟩ }

theorem witness_RaiseAndLowerMoveTheRequest_claim :
    let s := mayRaise (some .closed)
    let d := s.drive .p0
    (s.fitted .p0 = true ∧ d.raiseRequest = true ∧ d.state = .down ∧ d.enable = true ∧ d.claimStage = .idle ∧
      s.ownEntry .p0 = some ⟨1, .p0, 0, .ac, .down, none, none, false⟩ ∧ s.rlp.port = .online ∧ s.cu.isOpen = false ∧
      s.ru.regime.system ≠ none ∧ s.sq.raiseHold.get .p0 = false ∧ (s.sg.iso.get .p0).confirmed = some .closed) ∧
    (s.ventedHeld = false ∧ s.rlp.queue.length < 16) ∧
    ((mayRaise none).sg.iso.get .p0).confirmed ≠ some .closed := by decide +kernel

theorem witness_BlockAndUnblockChangeTheService :
    two.panArg [0] = some .p0 ∧ (request 0x12 [0]).check = requestCheck 0x12 [0] ∧
      (request 0x13 [0]).check = requestCheck 0x13 [0] ∧ (two.drive .p0).state = .down ∧
      (((sinking 0).drive .p0).state = .lowering ∧ ((sinking 0).drive .p0).pendingBlock = none) ∧
    ((!two.dropLine.get .p0 && !two.sc.supplyLow && !((two.drive .p0).housed && decide (200 < (two.mu.pos.get .p0).count)) &&
      ((two.drive .p0).state = .down || (two.drive .p0).state = .blocked)) = true) ∧
    ((!(low two).dropLine.get .p0 && !(low two).sc.supplyLow) = false) := by decide +kernel

/-- Host notices queued in ONLINE. -/
def hosting (n : Nat) : State :=
  { online with rlp := { online.rlp with queue := List.replicate n ⟨.regime 0 0, true, false, false⟩ } }

/-- R14 at 16 notices: the last host notice makes room for an internal one, though a later own notice stands behind it; with
no host notice the internal one is lost, and PRESENT is in the slot. -/
theorem witness_HostNoticesEnterTheQueue_internal :
    let own : QueuedNotice := queued (.yield 0)
    let old : QueuedNotice := ⟨.regime 1 0, true, false, false⟩
    let s : State := { hosting 8 with rlp := { (hosting 8).rlp with
      queue := ((hosting 7).rlp.queue ++ old :: List.replicate 8 own) } }
    let full : State := { online with rlp := { online.rlp with queue := List.replicate 16 own } }
    ((s.rlp.port = .joining ∨ s.rlp.port = .online) ∧ s.ventedHeld = false ∧ s.rlp.queue.length = 16) ∧
    (old.host = true ∧ old.inAttempt = false ∧ ∀ q ∈ List.replicate 8 own, q.host = true → q.inAttempt = true) ∧
    ((s.send (.yield 1)).rlp.queue = (hosting 7).rlp.queue ++ List.replicate 8 own ++ [queued (.yield 1)] ∧
      (s.send (.yield 1)).lcp.events.map EventRecord.event = [.txDiscarded .regime]) ∧
    ((full.rlp.port = .joining ∨ full.rlp.port = .online) ∧ full.ventedHeld = false ∧ 16 ≤ full.rlp.queue.length ∧
      ∀ q ∈ full.rlp.queue, q.host = true → q.inAttempt = true) ∧
    ((full.send (.yield 1)).rlp.queue = full.rlp.queue ∧ (full.send (.yield 1)).rlp.slot = some .present ∧
      (full.send (.yield 1)).lcp.events.map EventRecord.event = [.txLost .yield]) ∧
    (¬ ((two.rlp.port = .joining ∨ two.rlp.port = .online) ∧ two.ventedHeld = false) ∧ online.rlp.queue.length < 16 ∧
      Notice.heatGive 3 = .heatGive (BitVec.ofNat 8 3)) := by
  decide +kernel

theorem witness_HostNoticesEnterTheQueue :
    (two.rlp.port ≠ .online ∧ online.rlp.port = .online) ∧
    ((request 0x20 [3, 1]).check = requestCheck 0x20 [3, 1] ∧ regimeArg [3, 1] = some (3, .bForward)) ∧
    ((request 0x21 [0, 0, 100, 7, 0xD0, 0]).check = requestCheck 0x21 [0, 0, 100, 7, 0xD0, 0] ∧
      sectionArg [0, 0, 100, 7, 0xD0, 0] = some (.neutral, 100, 2000)) ∧
    ((request 0x22 [4]).check = requestCheck 0x22 [4] ∧ supplyArg [4] = some .dc15 ∧
      (!online.cu.isOpen && online.ru.regime.system != some .dc15) = true ∧
      (!(under .dc15 online).cu.isOpen && (under .dc15 online).ru.regime.system != some .dc15) = false) ∧
    ((request 0x23 []).check = requestCheck 0x23 [] ∧
      (online.cu.isOpen && online.cu.phase != .adopted && !online.cu.catchUp) = false ∧
      ((timedRound .lower).cu.isOpen && (timedRound .lower).cu.phase != .adopted && !(timedRound .lower).cu.catchUp) = true) ∧
    ((decide (8 ≤ (hosting 8).hostNotices) || decide (16 ≤ (hosting 8).rlp.queue.length) || (hosting 8).ventedHeld) = true ∧
      (decide (8 ≤ (hosting 7).hostNotices) || decide (16 ≤ (hosting 7).rlp.queue.length) || (hosting 7).ventedHeld) = false) := by
  decide +kernel

theorem witness_ForgetRemovesThePeer :
    (request 0x24 [2]).check = requestCheck 0x24 [2] ∧ stationArg [2] = some 2 ∧ stationArg [24] = some 24 ∧
    (2 != online.own && ((withPeer online { Peer.reset with status := .silent }).peer 2).status = .silent) = true ∧
    (2 != online.own && ((online.peer 2).status = .silent || (online.peer 2).status = .foreign)) = false ∧
    (1 != online.own) = false := by decide +kernel

theorem witness_IceAndHeatCommandsSetTheirFlags :
    ((request 0x28 [2]).check = requestCheck 0x28 [2] ∧ iceArg [2] = some (some .scrape) ∧
      (request 0x28 [3]).check = requestCheck 0x28 [3] ∧ iceArg [3] = some none) ∧
    ((request 0x29 [1]).check = requestCheck 0x29 [1] ∧ onOffArg [1] = some true) ∧
    ((request 0x2A [0]).check = requestCheck 0x2A [0] ∧ two.panArg [0] = some .p0 ∧ (low two).panArg [0] = some .p0 ∧
      (low two).sc.supplyLow = true ∧ two.sc.supplyLow = false ∧ (two.iu.heaters.get .p0).inService = true ∧
      ({ two.iu.heaters.p0 with inService := false } : Heater).inService = false) := by decide +kernel

/-- A response on the port. -/
def responding (x : Transaction) : State := { two with lcp := { two.lcp with transaction := some x } }

theorem witness_FaultsAreClearedAndEventsRemoved :
    ((request 0x40 [0xFF, 0xFF]).check = requestCheck 0x40 [0xFF, 0xFF] ∧ maskArg [0xFF, 0xFF] = some 0xFFFF) ∧
    ((0 : BitVec 11).getLsbD (faultBit .selectorTimeout) = false ∧ (0 : BitVec 11).getLsbD (faultBit .isolatorTimeout) = false ∧
      (0 : BitVec 11).getLsbD (faultBit .voltageMismatch) = false ∧
      (0x7FF : BitVec 11).getLsbD (faultBit .isolatorTimeout) = true) ∧
    (responding ⟨0x31, .ok, .event (some ⟨.supplyState true, 7⟩) 1 false⟩).lcp.transaction =
      some ⟨0x31, .ok, .event (some ⟨.supplyState true, 7⟩) 1 false⟩ ∧
    (∀ code x head n o, (responding ⟨0x31, .ok, .event none 0 false⟩).lcp.transaction ≠
      some ⟨code, x, .event (some head) n o⟩) := by
  refine ⟨by decide +kernel, by decide +kernel, rfl, ?_⟩
  intro code x head n o h
  have : some (Transaction.mk 0x31 .ok (.event none 0 false)) = some ⟨code, x, .event (some head) n o⟩ := h
  simp at this

theorem witness_WriteConfigWritesItsBytesAlone :
    (((request 0x01 [2, 250]).check = requestCheck 0x01 [2, 250] ∧ base.configWriteArg [2, 250] = some (2, [250])) ∧
      ((request 0x01 [63, 10]).check = requestCheck 0x01 [63, 10] ∧ base.configWriteArg [63, 10] = some (63, [10])) ∧
      ({ base.sc with locked := true }).locked = true ∧ base.sc.locked = false ∧ Memory.wf base.sc.config = true) ∧
    ∀ p, base.fitted p = (configured base (base.sc.config.writeAll 2 [250])).fitted p :=
  ⟨by decide +kernel, fun p => by cases p <;> decide +kernel⟩

theorem witness_JoinAndLeaveMoveThePort :
    ((request 0x03 []).check = requestCheck 0x03 [] ∧
      (1 ≤ two.sc.strap.toNat ∧ two.sc.strap.toNat ≤ 24 ∧ two.rlp.port = .offline ∧ two.sc.supplyLow = false) ∧
      online.rlp.port ≠ .offline) ∧
    ((request 0x04 []).check = requestCheck 0x04 [] ∧
      ((online.rlp.port = .joining ∨ online.rlp.port = .online) ∧ online.sc.supplyLow = false ∧ online.sc.leaving = none) ∧
      ¬ (two.rlp.port = .joining ∨ two.rlp.port = .online)) ∧
    (let s : State := { withDrive online (fun d => { d with state := .raising }) with
        iu := { online.iu with grants := [⟨1, 2⟩] } }
     let b := State.orderAllDown (State.addReason { s with sc := { s.sc with leaving := some .waiting } } .host) .leave
     s.fitted .p0 = true ∧ (s.drive .p0).state = .raising ∧ (s.drive .p0).housed = false ∧ (s.drive .p1).state = .down ∧
       1 ≤ s.ownGrant ∧ b.ventedHeld = false ∧ b.rlp.queue.length < 16) ∧
    (((standing .collector).drive .p0).claimStage = .standing ∧
      ((withDrive online fun d => { d with claimStage := .queued }).drive .p0).claimStage = .queued) := by decide +kernel

theorem witness_JoinAndLeaveMoveThePort_ready (p : Pan) : two.fitted p = true ∧
    ((two.drive p).state = .down ∨ (two.drive p).state = .blocked) ∧ two.panPosition p ≤ two.trainLength := by
  cases p <;> decide +kernel

theorem witness_ReadsChangeNothingButTheResponse :
    ((request 0x02 [0, 64]).check = requestCheck 0x02 [0, 64] ∧ configReadArg [0, 64] = some (0, 64) ∧
      configReadArg [63, 1] = some (63, 1)) ∧
    ((request 0x30 [3]).check = requestCheck 0x30 [3] ∧ numberArg 3 [3] = some 3) ∧
    (request 0x31 []).check = requestCheck 0x31 [] ∧
    ((request 0x32 [24]).check = requestCheck 0x32 [24] ∧ stationArg [24] = some 24) ∧
    ((request 0x33 [1, 1]).check = requestCheck 0x33 [1, 1] ∧ entryArg [1, 1] = some (1, .p1)) ∧
    ((request 0x34 [1]).check = requestCheck 0x34 [1] ∧ two.panArg [1] = some .p1) ∧
    (request 0x35 []).check = requestCheck 0x35 [] ∧
    ((request 0x36 [7]).check = requestCheck 0x36 [7] ∧ numberArg 7 [7] = some 7) ∧
    (request 0x37 []).check = requestCheck 0x37 [] ∧
    ((request 0x38 [8]).check = requestCheck 0x38 [8] ∧ numberArg 8 [8] = some 8) ∧
    (request 0x39 []).check = requestCheck 0x39 [] ∧
    ({ two with lcp := { two.lcp with transaction := some ⟨0x40, .ok, .faults 3⟩ } }).lcp.transaction = some ⟨0x40, .ok, .faults 3⟩ ∧
    two.lcp.transaction = none := by decide +kernel

/-- R145: at a station without pantographs the completed adoption enters READY, and the move to OPEN still running goes on to
the target's position. -/
theorem test_adoption_without_pantographs_sends_the_selector_on :
    let s : State := { configured (adopted 5) [(28, 0)] with sg := (moving .opn).sg }
    let t := s.applyNotice 2 9 (.coAbort 69 4 3)
    let u := s.completeAdoption 69 .dc15 .none none none
    t.cu.isOpen = false ∧ u.cu.phase = .ready ∧ u.sg.selector.target = some .dc ∧ u.sg.selector.leg = some .opn := by
  decide +kernel

theorem witness_SupplyEdgesSetAndClearTheFlag :
    two.sc.supplyLow = false ∧ two.fitted .p0 = true ∧ (low two).sc.supplyLow = true ∧
    (online.rlp.port = .online ∧ online.sc.supplyLow = false ∧ (sending online (.yield 0)).rlp.attempt ≠ none) ∧
    ((online.drive .p0).state = .down ∧ ((driven .lowering).drive .p0).state = .lowering ∧
      ((driven .lowering).drive .p0).housed = false ∧ ((driven .dropped).drive .p0).state = .dropped) ∧
    ((moving .dc).sg.selector.busy = true ∧ (moving .dc).sc.supplyLow = false ∧
      ((isolated fun i => { i with moving := some .opn }).sg.iso.get .p0).moving ≠ none) := by decide +kernel

end Sys2Proof.Tests
end

section
/-! SUPPORT. The pulse-interval captures (R79, R80) and their converted quantities (R84, R85): what a closed measurement
captures, the two conversions with their clamps written as the rules state them, and what a drive does with a force capture. -/

namespace Sys2Proof.Proofs

open Sys2Proof Sys2Proof.Machine

/-! ## Captures (R79, R80) -/

theorem frequencyOf_of_pos (interval : Nat) (h : 0 < interval) : frequencyOf interval = 8000000 / interval :=
  if_neg (Nat.ne_of_gt h)

theorem pulseCapture_of_lt (s : State) (ch : PulseChan) {interval : Nat} (h : interval < 131072) :
    s.pulseCapture ch interval =
      ⟨.valid, some interval, some (frequencyOf interval), some (s.convert ch (frequencyOf interval)), none⟩ :=
  if_pos h

theorem pulseCapture_of_le (s : State) (ch : PulseChan) {interval : Nat} (h : 131072 ≤ interval) :
    s.pulseCapture ch interval = ⟨.over, none, none, none, none⟩ :=
  if_neg (Nat.not_lt.mpr h)

/-! ## Conversions (R84, R85) -/

/-- The clamp at the top as R84 and R85 word it: only a result above the limit is taken as the limit. -/
theorem min_eq_ite_lt (limit x : Nat) : min limit x = if limit < x then limit else x := by
  split
  next above => exact Nat.min_eq_left (Nat.le_of_lt above)
  next within => exact Nat.min_eq_right (Nat.not_lt.mp within)

/-- R84 as the rule words it. The model's natural subtraction is the rule's clamp at 0. -/
theorem voltageOf_eq_clamped (f f0 slope : Nat) :
    voltageOf f f0 slope =
      if f < f0 then 0 else if 9999 < (f - f0) * 10 / slope then 9999 else (f - f0) * 10 / slope := by
  unfold voltageOf
  split
  next below => simp [Nat.sub_eq_zero_of_le (Nat.le_of_lt below)]
  next => exact min_eq_ite_lt _ _

/-- R85 as the rule words it. -/
theorem forceOf_eq_clamped (f f0 slope : Nat) :
    forceOf f f0 slope = if f < f0 then 0 else if 65535 < (f - f0) / slope then 65535 else (f - f0) / slope := by
  unfold forceOf
  split
  next below => simp [Nat.sub_eq_zero_of_le (Nat.le_of_lt below)]
  next => exact min_eq_ite_lt _ _

theorem convert_lv (s : State) (f : Nat) :
    s.convert .lv f = voltageOf f (s.sc.config.item2 51) (s.sc.config.item2 53) := rfl

theorem convert_frc0 (s : State) (f : Nat) :
    s.convert .frc0 f = forceOf f (s.sc.config.item2 55) (s.sc.config.item2 57) := rfl

theorem convert_frc1 (s : State) (f : Nat) :
    s.convert .frc1 f = forceOf f (s.sc.config.item2 59) (s.sc.config.item2 61) := rfl

/-- Both force channels convert alike, each from its own pair of calibration items. -/
theorem convert_force (s : State) {ch : PulseChan} {z k : Nat} (f : Nat)
    (pair : (ch = .frc0 ∧ z = 55 ∧ k = 57) ∨ (ch = .frc1 ∧ z = 59 ∧ k = 61)) :
    s.convert ch f = forceOf f (s.sc.config.item2 z) (s.sc.config.item2 k) := by
  obtain ⟨rfl, rfl, rfl⟩ | ⟨rfl, rfl, rfl⟩ := pair
  · exact convert_frc0 s f
  · exact convert_frc1 s f

/-! ## Readings (R83, R85) -/

theorem takeForce_of_valid (s : State) (p : Pan) (c : Capture) {force : Nat} (hv : c.validity = .valid)
    (hq : c.quantity = some force) : s.takeForce p c = s.validReading p force := by
  simp only [State.takeForce, hv, hq]

theorem takeForce_of_not_valid (s : State) (p : Pan) (c : Capture) (hv : c.validity ≠ .valid) :
    s.takeForce p c = s.invalidReading p := by
  unfold State.takeForce
  split
  next valid _ => exact absurd valid hv
  next => rfl

/-! ## The calibration items (R84, R85, R181) -/

theorem zeroFrequency_item_mem {z : Nat} (h : z ∈ [51, 55, 59]) : (⟨z, 2, 0, 65535⟩ : ConfigItem) ∈ configItems := by
  revert z; decide

theorem slope_item_mem {k : Nat} (h : k ∈ [53, 57, 61]) : (⟨k, 2, 1, 65535⟩ : ConfigItem) ∈ configItems := by
  revert k; decide

theorem reset_calibration_lv :
    State.reset.sc.config.item2 51 = 10000 ∧ State.reset.sc.config.item2 53 = 3000 := by
  decide

theorem reset_zeroFrequency_force : ∀ z ∈ [55, 59], State.reset.sc.config.item2 z = 5000 := by decide

theorem reset_slope_force : ∀ k ∈ [57, 61], State.reset.sc.config.item2 k = 100 := by decide

/-! ## The statements -/

/-- Settles O31: a capture below 131,072 µs carries R84's clamped quotient, and any other capture none. -/
theorem lineVoltageConversion : Obligations.LineVoltageConversion := by
  refine ⟨frequencyOf_of_pos, fun s interval valid => ?_, fun s interval long => ?_, rfl,
    zeroFrequency_item_mem (by simp), slope_item_mem (by simp), reset_calibration_lv⟩
  · rw [pulseCapture_of_lt s .lv valid, convert_lv, voltageOf_eq_clamped]
    exact ⟨rfl, rfl⟩
  · rw [pulseCapture_of_le s .lv long]
    exact ⟨rfl, rfl⟩

/-- Settles O32: both force channels carry R85's clamped quotient, and the drive's reading follows the validity. -/
theorem contactForceConversion : Obligations.ContactForceConversion := by
  refine ⟨frequencyOf_of_pos, fun s ch interval z k pair => ⟨fun valid => ?_, fun long => ?_⟩, fun s p c force hq => ?_,
    takeForce_of_not_valid, fun z hz => ?_, fun k hk => ?_⟩
  · rw [pulseCapture_of_lt s ch valid, convert_force s _ pair, forceOf_eq_clamped]
    exact ⟨rfl, rfl⟩
  · rw [pulseCapture_of_le s ch long]
  · exact ⟨fun hv => takeForce_of_valid s p c hv hq, takeForce_of_not_valid s p c⟩
  · exact ⟨zeroFrequency_item_mem (List.mem_cons_of_mem _ hz), reset_zeroFrequency_force z hz⟩
  · exact ⟨slope_item_mem (List.mem_cons_of_mem _ hk), reset_slope_force k hk⟩

end Sys2Proof.Proofs
end

section
/-! SUPPORT. The classifier window (R94): the model's window result row by row against the rule's table, and that the
result of a window's end stands as the last result when the step is over. -/

namespace Sys2Proof.Proofs

open Sys2Proof Sys2Proof.Machine Sys2Proof.Laws

/-! ## The table (R94) -/

/-- Tables tested in order agree when their first rows have one result under equivalent conditions and the rows after agree. -/
theorem row_congr {c d : Prop} [Decidable c] [Decidable d] {r x y : LineClass} (row : c ↔ d) (rest : x = y) :
    (if c then r else x) = if d then r else y :=
  ite_congr (propext row) (fun _ => rfl) (fun _ => rest)

/-- The halves agree as R94 words it: the larger mean is no more than 1.2 times the smaller. -/
theorem agree_iff (a : Accumulators) :
    a.agree = true ↔ 1 ≤ a.highCount ∧ 1 ≤ a.lowCount ∧
      10 * max (a.highSum / a.highCount) (a.lowSum / a.lowCount) ≤
        12 * min (a.highSum / a.highCount) (a.lowSum / a.lowCount) := by
  simp only [Accumulators.agree, Bool.and_eq_true, decide_eq_true_eq, and_assoc, Nat.mul_comm]

/-- Row 1 of the table: nothing to take a mean of, a capture that was not VALID, or no signal at the expiry. -/
theorem no_voltage_iff (a : Accumulators) (signal : Bool) :
    (decide (a.voltageCount = 0) || a.lvInvalid || !signal) = true ↔
      a.voltageCount = 0 ∨ a.lvInvalid = true ∨ signal = false := by
  simp only [Bool.or_eq_true, decide_eq_true_eq, Bool.not_eq_true', or_assoc]

/-- A row for an AC system: the halves agree, with the mean half and the mean voltage within the system's bounds. -/
theorem ac_row_iff (a : Accumulators) (half mean halfMin halfMax meanMin meanMax : Nat) :
    (a.agree && decide (halfMin ≤ half) && decide (half ≤ halfMax) && decide (meanMin ≤ mean) &&
        decide (mean ≤ meanMax)) = true ↔
      a.agree = true ∧ halfMin ≤ half ∧ half ≤ halfMax ∧ meanMin ≤ mean ∧ mean ≤ meanMax := by
  simp only [Bool.and_eq_true, decide_eq_true_eq, and_assoc]

/-- A row for a DC system: no crossing, with the mean voltage within the system's bounds. -/
theorem dc_row_iff (crossings mean meanMin meanMax : Nat) :
    (decide (crossings = 0) && decide (meanMin ≤ mean) && decide (mean ≤ meanMax)) = true ↔
      crossings = 0 ∧ meanMin ≤ mean ∧ mean ≤ meanMax := by
  simp only [Bool.and_eq_true, decide_eq_true_eq, and_assoc]

/-! ## The end of a window (R93 to R95) -/

theorem classChanged_line (s : State) (before : LineClass) : (s.classChanged before).sg.line = s.sg.line :=
  congrArg Base.lineRecord (base_classChanged s before)

/-- The result of the window stands as the last result, whatever a change of the stable class hands on. -/
theorem classify_lastResult (s : State) (due : Moment) :
    (s.classify due).sg.line.lastResult = some (s.sg.acc.result s.mu.lv.cap.signal) := by
  unfold State.classify
  rw [classChanged_line]
  rfl

theorem expire_of_running (s : State) (due t : Moment) (k : Moment → State → State) :
    s.expire (some due) t k = k due (s.advance (max t due)) := rfl

theorem exec_classifierWindowEnd (t : Moment) (s : State) :
    exec (.classifierWindowEnd t) s = execClassifierWindowEnd t s := rfl

theorem exec_classifierWindowEnd_of_running (t : Moment) {due : Moment} {s : State} (running : s.sg.windowTimer = some due) :
    exec (.classifierWindowEnd t) s = .next (((s.advance (max t due)).classify due).settle) := by
  rw [exec_classifierWindowEnd, execClassifierWindowEnd, running, expire_of_running]

theorem classifierWindowEnd_lastResult (s : State) (t due : Moment) :
    ((s.advance (max t due)).classify due).settle.sg.line.lastResult = some (s.sg.acc.result s.mu.lv.cap.signal) := by
  rw [settle_lineRecord, classify_lastResult, advance_sg, advance_mu]

/-! ## The statement -/

/-- Settles O40: the window's end records the model's window result, whose rows are those of R94's table in its order. -/
theorem windowResultFollowsTheTable : Obligations.WindowResultFollowsTheTable := by
  intro t due s running a mean crossings half high low agree result
  have row1 := no_voltage_iff a s.mu.lv.cap.signal
  have agrees : a.agree = true ↔ agree := agree_iff a
  have acRow (halfMin halfMax meanMin meanMax : Nat) :=
    (ac_row_iff a half mean halfMin halfMax meanMin meanMax).trans (and_congr_left' agrees)
  have follows : a.result s.mu.lv.cap.signal = result :=
    row_congr row1 <| row_congr Iff.rfl <| row_congr Iff.rfl <| row_congr (acRow ..) <| row_congr (acRow ..) <|
    row_congr (dc_row_iff ..) <| row_congr (dc_row_iff ..) rfl
  refine ⟨_, exec_classifierWindowEnd_of_running t running, ?_⟩
  rw [classifierWindowEnd_lastResult, follows]

end Sys2Proof.Proofs
end

section
/-! SUPPORT. What every command keeps: the invariants of every step, the queue of commands, time, the configuration block and
the strap; each is one property that the updates of `Closed` preserve. -/

namespace Sys2Proof.Proofs

open Sys2Proof Sys2Proof.Machine Sys2Proof.Laws

/-! ## Every command but a full reset -/

variable {P : State → Prop}

/-- A property that survives the updates of `Closed` and those of the three commands beside them survives every command but
FULL_RESET. -/
theorem exec_ends (closed : Closed P)
    (clear : ∀ (u : State) (f : BitVec 11), P u → P (u.mapLcp fun l => { l with faults := f }))
    (pop : ∀ u : State, P u → P (u.mapLcp Lcp.popEvent)) (s : State) (c : Instr)
    (write : ∀ t r b, c = .writeConfig t r b → ∀ (u : State) (a : Nat × List Byte), P u → P (u.mapSc fun x =>
      { x with config := x.config.writeAll a.1 a.2
               fingerprint := if a.1 < 28 then fingerprintOf (x.config.writeAll a.1 a.2) else x.fingerprint }))
    (noReset : ∀ pins, c ≠ .fullReset pins) (h : P s) : Ends P (exec c s) := by
  by_cases covered : Instr.covered c = true
  · exact exec_keeps closed c s h covered
  · cases c with
    | fullReset pins => exact absurd rfl (noReset pins)
    | writeConfig t r housed => exact writeConfig_keeps closed t r housed s h fun u a _ => write t r housed rfl u a
    | readEventResponseComplete t => exact responseComplete_keeps closed t s h pop
    | clearFaults t r => exact clearFaults_keeps closed t r s h clear
    | _ => exact absurd rfl covered

theorem ends_of_eq {r : Result} {u : State} (ends : Ends P r) (h : r = .next u) : P u := by
  obtain ⟨v, hv, kept⟩ := ends
  rw [h] at hv
  cases hv
  exact kept

/-! ## Properties the updates of `Closed` preserve -/

theorem closed_pending (l : List Instr) : Closed fun u => u.pending = l := by
  constructor <;> intros <;> try assumption
  case insert s e h => unfold State.insertSection; split <;> exact h

theorem closed_notBefore (m : Moment) : Closed fun u => m ≤ u.now := by
  constructor <;> intros <;> try assumption
  case advance s t h => exact Nat.le_trans h (Nat.le_max_left _ _)
  case insert s e h => unfold State.insertSection; split <;> exact h

theorem closed_block (m : Memory) (f : Byte) : Closed fun u => u.sc.config = m ∧ u.sc.fingerprint = f := by
  constructor <;> intros <;> try assumption
  case insert s e h => unfold State.insertSection; split <;> exact h
  case sc s f hf h => simpa [hf] using h

theorem closed_strap (b : BitVec 5) : Closed fun u => u.sc.strap = b := by
  constructor <;> intros <;> try assumption
  case insert s e h => unfold State.insertSection; split <;> exact h
  case sc s f hf h => simpa [hf] using h

/-! ## The removal of an event record, a write's bounds -/

theorem popEvent_length (l : Lcp) : l.popEvent.events.length ≤ l.events.length := by
  simp [Lcp.popEvent]

/-- A write that R181 accepts stays inside the block. -/
theorem configWriteArg_within {s : State} {args : List Byte} {a : Nat × List Byte} (h : s.configWriteArg args = some a) :
    a.1 + a.2.length ≤ configSize := by
  unfold State.configWriteArg at h
  split at h
  · split at h
    · next within =>
      cases h
      obtain ⟨-, -, -, ok⟩ := within
      simp only [configWriteOk, Bool.and_eq_true, decide_eq_true_eq] at ok
      exact ok.1.1
    · cases h
  · cases h

/-! ## The reset state -/

theorem resetOf_gated (pins : ResetPins) (p : Pan) : Gated ((State.resetOf pins).drive p) := by
  cases p <;> exact fun _ => by simp [State.resetOf, State.drive, Pair.get, Drive.reset]

theorem resetOf_countsFit (pins : ResetPins) : (State.resetOf pins).countsFit := by
  intro p
  cases p <;> simp [State.resetOf, Mu.reset, Pair.get]

theorem resetOf_historiesFit (pins : ResetPins) : (State.resetOf pins).historiesFit := by
  intro p
  cases p <;> exact Nat.zero_le _

/-- Settles O6: every table and run of a reset state is empty, and the rest stands at the values of its record. -/
theorem resetStateSatisfiesEveryInvariant : Obligations.ResetStateSatisfiesEveryInvariant :=
  ⟨rfl, Nat.zero_le _, Nat.zero_le _, Nat.zero_le _, Nat.zero_le _, (fillGated_iff _).mpr (resetOf_gated _),
    resetOf_countsFit _, resetOf_historiesFit _, Nat.zero_le _⟩

/-! ## The statements -/

/-- Settles O7: a write inside the block keeps its form, and no other command touches the block. -/
theorem everyStepKeepsTheBlockCanonical : Obligations.EveryStepKeepsTheBlockCanonical := fun s u h hs =>
  step_keeps closed_configCanonical (fun _ _ => rfl) (fun _ _ h => h) (fun _ _ h => h) (fun _ h => h)
    (fun _ _ _ _ ha h => writeAll_wf _ _ _ (configWriteArg_within ha) h) s u h hs

/-- Settles O8: a record or notice joins its queue only while there is room. -/
theorem everyStepKeepsTheQueuesWithinCapacity : Obligations.EveryStepKeepsTheQueuesWithinCapacity := fun s u hs =>
  ⟨fun h => step_keeps closed_eventsFit (fun _ _ => Nat.zero_le _) (fun _ _ h => h) (fun _ _ h => h)
    (fun v h => Nat.le_trans (popEvent_length v.lcp) h) (fun _ _ _ _ _ h => h) s u h hs,
  fun h => step_keeps closed_queueFits (fun _ _ => Nat.zero_le _) (fun _ _ h => h) (fun _ _ h => h) (fun _ h => h)
    (fun _ _ _ _ _ h => h) s u h hs⟩

/-- Settles O9: a contest record or section entry is added only while its table has room. -/
theorem everyStepKeepsTheTablesWithinCapacity : Obligations.EveryStepKeepsTheTablesWithinCapacity := fun s u hs =>
  ⟨fun h => step_keeps closed_contestsFit (fun _ _ => Nat.zero_le _) (fun _ _ h => h) (fun _ _ h => h) (fun _ h => h)
    (fun _ _ _ _ _ h => h) s u h hs,
  fun h => step_keeps closed_sectionsFit (fun _ _ => Nat.zero_le _) (fun _ _ h => h) (fun _ _ h => h) (fun _ h => h)
    (fun _ _ _ _ _ h => h) s u h hs⟩

/-- Settles O10: every update of a drive keeps its fill valve behind its enable. -/
theorem everyStepKeepsTheFillValveGated : Obligations.EveryStepKeepsTheFillValveGated := fun s u h hs =>
  step_keeps closed_fillGated (fun pins _ => (fillGated_iff _).mpr (resetOf_gated pins)) (fun _ _ h => h) (fun _ _ h => h)
    (fun _ h => h) (fun _ _ _ _ _ h => h) s u h hs

/-- Settles O11: counts, histories and runs are clamped where they grow. -/
theorem everyStepKeepsCountsHistoriesAndRunsInRange : Obligations.EveryStepKeepsCountsHistoriesAndRunsInRange := fun s u hs =>
  ⟨fun h => step_keeps closed_countsFit (fun pins _ => resetOf_countsFit pins) (fun _ _ h => h) (fun _ _ h => h)
    (fun _ h => h) (fun _ _ _ _ _ h => h) s u h hs,
  fun h => step_keeps closed_historiesFit (fun pins _ => resetOf_historiesFit pins) (fun _ _ h => h) (fun _ _ h => h)
    (fun _ h => h) (fun _ _ _ _ _ h => h) s u h hs,
  fun h => step_keeps closed_runFits (fun _ _ => Nat.zero_le _) (fun _ _ h => h) (fun _ _ h => h) (fun _ h => h)
    (fun _ _ _ _ _ h => h) s u h hs⟩

/-- Settles O1: the definition of a step, at a queue with a front. -/
theorem stepRunsTheCommandAtTheFront : Obligations.StepRunsTheCommandAtTheFront := fun _ _ _ => rfl

/-- Settles O3: no update changes the queue of commands, and a full reset puts back the one it found. -/
theorem everyCommandAnswersAndLeavesTheQueue : Obligations.EveryCommandAnswersAndLeavesTheQueue := by
  intro c s
  cases c with
  | fullReset pins => exact ⟨_, rfl, rfl⟩
  | _ =>
    exact exec_ends (closed_pending s.pending) (fun _ _ h => h) (fun _ h => h) s _ (fun _ _ _ _ _ _ h => h)
      (fun _ => by simp) rfl

/-- Settles O4: time only advances, and only the two commands named write the block. -/
theorem timeAndBlockChangeOnlyByTheirCommands : Obligations.TimeAndBlockChangeOnlyByTheirCommands :=
  ⟨fun c s _ noReset h => ends_of_eq (exec_ends (closed_notBefore s.now) (fun _ _ h => h) (fun _ h => h) s c
      (fun _ _ _ _ _ _ h => h) noReset (Nat.le_refl _)) h,
  fun c s _ noReset noWrite h => ends_of_eq (exec_ends (closed_block s.sc.config s.sc.fingerprint)
      (fun _ _ h => h) (fun _ h => h) s c (fun t r b hc => absurd hc (noWrite t r b)) noReset ⟨rfl, rfl⟩) h,
  fun c s _ noReset h => ends_of_eq (exec_ends (closed_strap s.sc.strap) (fun _ _ h => h) (fun _ h => h) s c
      (fun _ _ _ _ _ _ h => h) noReset rfl) h⟩

end Sys2Proof.Proofs
end

section
/-! SUPPORT. The frame on the line (R1, R8): what is sent reads back; and the view of the line with its deference points
(R2, R3, R5). -/

namespace Sys2Proof.Proofs

open Sys2Proof Sys2Proof.Machine Sys2Proof.Laws

/-! ## The frame -/

theorem kindOf_kindCode (k : NoticeKind) : kindOf ((kindCode k).toNat % 32) = some k := by
  cases k <;> decide

@[simp] theorem word16_hiByte_loByte (w : Word16) : word16 (hiByte w) (loByte w) = w := by
  unfold word16 hiByte loByte
  exact BitVec.extractLsb'_append_extractLsb'_eq_extractLsb' (by rfl) |>.trans BitVec.extractLsb'_eq_self

theorem reportOf_payload (r : Report) : reportOf r.payload = some r := by
  simp [reportOf, Report.payload]

theorem noticeOf_payload (x : Notice) : noticeOf x.kind x.payload = some x := by
  cases x <;> simp [noticeOf, Notice.kind, Notice.payload, reportOf_payload]

/-- The longest payload is that of a report or a section, eight bytes (table 11.2). -/
theorem payload_length_le (x : Notice) : x.payload.length ≤ 8 := by
  cases x <;> simp [Notice.payload, Report.payload]

theorem isStation_of_within {n : Nat} (h1 : 1 ≤ n) (h24 : n ≤ 24) : isStation n = true := by
  simp [isStation, h1, h24]

theorem toNat_ofNat_of_lt {n : Nat} (h : n < 256) : (BitVec.ofNat 8 n).toNat = n := by
  simp [Nat.mod_eq_of_lt h]

/-- Settles O12: the CRC sent is the CRC computed, the length is that of the kind, and every field is two halves of itself. -/
theorem everyFrameReadsBackAsSent : Obligations.EveryFrameReadsBackAsSent := by
  intro f h1 h24
  have origin : (BitVec.ofNat 8 f.origin).toNat = f.origin := toNat_ofNat_of_lt (by omega)
  have length : (BitVec.ofNat 8 f.notice.payload.length).toNat = f.notice.payload.length :=
    toNat_ofNat_of_lt (Nat.lt_of_le_of_lt (payload_length_le f.notice) (by decide))
  simp only [Frame.bytes, Frame.body, List.cons_append, readFrame, length, origin, List.take_left',
    isStation_of_within h1 h24, and_self, if_true, kindOf_kindCode, noticeOf_payload, Option.map_some]

/-! ## The view of the line (R2, R3) -/

/-- Settles O13: each case is the branch of the command for that view of the line. -/
theorem lineViewFollowsTheLine : Obligations.LineViewFollowsTheLine := by
  refine fun t s => ⟨fun ended => ?_, fun notEnded notJam => ?_, fun free => ?_, fun busy => ?_⟩
  · change Host.Outcome.next (s.lineIdle t) = _
    unfold State.lineIdle
    rw [if_pos (by simpa using ended)]
    rfl
  · change Host.Outcome.next (s.lineIdle t) = _
    unfold State.lineIdle
    rw [if_neg (by simp [notEnded, notJam])]
    rfl
  · change Host.Outcome.next (s.startSymbol t) = _
    unfold State.startSymbol
    rw [if_neg (by simp [free])]
    rfl
  · change Host.Outcome.next (s.startSymbol t) = _
    unfold State.startSymbol
    rw [if_pos (Option.isSome_iff_ne_none.mpr busy)]
    rfl

/-- The first repeat, every 1024 µs, of a moment that is past. -/
theorem first_repeat_ahead (now base : Nat) (past : base ≤ now) :
    now < base + 1024 * ((now - base) / 1024 + 1) ∧
      ∀ k, k < (now - base) / 1024 + 1 → base + 1024 * k ≤ now := by
  refine ⟨by omega, fun k hk => by omega⟩

/-- The repeat of a deference point that lies ahead, and that it is the first to do so (R3; notes/assumptions/36.md). -/
theorem pointAhead_spec (s : State) (cls : Nat) :
    ∃ m, s.pointAhead cls = s.firstPoint cls + 4 * (256 * m) ∧ s.now < s.pointAhead cls ∧
      ∀ k, k < m → s.firstPoint cls + 4 * (256 * k) ≤ s.now := by
  unfold State.pointAhead
  dsimp only
  split
  next ahead => exact ⟨0, rfl, ahead, fun k hk => absurd hk (Nat.not_lt_zero k)⟩
  next past =>
    obtain ⟨ahead, first⟩ := first_repeat_ahead s.now (s.firstPoint cls) (Nat.not_lt.mp past)
    simp only [← Nat.mul_assoc]
    exact ⟨_, rfl, ahead, first⟩

theorem refreshDeference_of_none (s : State) (cls : Nat) (offered : s.offeredClass = some cls) (idle : s.rlp.line ≠ .busy)
    (free : s.rlp.attempt = none) (none : s.rlp.deference = none) :
    s.refreshDeference.rlp.deference = some ⟨cls, s.rlp.recentSender, s.rlp.lastEnd, s.pointAhead cls⟩ := by
  simp [State.refreshDeference, offered, idle, free, none]

/-- An attempt at a deference point, with a notice to send and no frame on the line. -/
theorem attempt_begins (s : State) (t : Moment) {d : Deference} {fromSlot : Bool} {n : Notice}
    (point : s.rlp.deference = some d) (offered : s.offeredNotice = some (fromSlot, n)) (free : s.rlp.attempt = none)
    (idle : s.rlp.line ≠ .busy) : s.attempt t = (s.advance (max t d.point)).beginAttempt fromSlot n := by
  simp [State.attempt, point, offered, free, idle]

/-- Settles O14: the point computed is the first ahead, and the attempt at it sends the notice offered. -/
theorem attemptBeginsAtTheDeferencePoint : Obligations.AttemptBeginsAtTheDeferencePoint := by
  refine ⟨?_, fun t s d fromSlot n point offered free idle => ?_⟩
  · intro s cls base offered idle free none
    obtain ⟨m, hpoint, ahead, first⟩ := pointAhead_spec s cls
    exact ⟨m, s.pointAhead cls, refreshDeference_of_none s cls offered idle free none, hpoint, ahead, first⟩
  · exact congrArg Host.Outcome.next (attempt_begins s t point offered free idle)

end Sys2Proof.Proofs
end

section
/-! SUPPORT. The drives, operation by operation: what a drive record is after each operation of chapter 3, that the other drive's
is not touched, and what is left of the port and of the ice unit. -/

namespace Sys2Proof.Proofs

open Sys2Proof Sys2Proof.Machine Sys2Proof.Laws

/-! ## The drive of a pantograph after an update -/

@[simp] theorem drive_mapPd (s : State) (p : Pan) (f : Drive → Drive) : (s.mapPd p f).drive p = f (s.drive p) := by
  simp [State.drive]

theorem drive_mapPd_ne (s : State) {p q : Pan} (f : Drive → Drive) (h : q ≠ p) : (s.mapPd p f).drive q = s.drive q := by
  simp [State.drive, pair_get_set_ne _ _ _ _ h]

theorem drive_of_pd {s t : State} (h : t.pd = s.pd) (p : Pan) : t.drive p = s.drive p := congrArg (fun x => x.get p) h

@[simp] theorem drive_advance (s : State) (t : Moment) (p : Pan) : (s.advance t).drive p = s.drive p := rfl
@[simp] theorem drive_setDropLine (s : State) (q : Pan) (b : Bool) (p : Pan) : (s.setDropLine q b).drive p = s.drive p := rfl
@[simp] theorem drive_mapPins (s : State) (f : Pins → Pins) (p : Pan) : (s.mapPins f).drive p = s.drive p := rfl
@[simp] theorem drive_mapRlp (s : State) (f : Rlp → Rlp) (p : Pan) : (s.mapRlp f).drive p = s.drive p := rfl
@[simp] theorem drive_mapRu (s : State) (f : Ru → Ru) (p : Pan) : (s.mapRu f).drive p = s.drive p := rfl
@[simp] theorem drive_mapMu (s : State) (f : Mu → Mu) (p : Pan) : (s.mapMu f).drive p = s.drive p := rfl
@[simp] theorem drive_mapSg (s : State) (f : Sg → Sg) (p : Pan) : (s.mapSg f).drive p = s.drive p := rfl
@[simp] theorem drive_mapSq (s : State) (f : Sq → Sq) (p : Pan) : (s.mapSq f).drive p = s.drive p := rfl
@[simp] theorem drive_mapCu (s : State) (f : Cu → Cu) (p : Pan) : (s.mapCu f).drive p = s.drive p := rfl
@[simp] theorem drive_mapIu (s : State) (f : Iu → Iu) (p : Pan) : (s.mapIu f).drive p = s.drive p := rfl
@[simp] theorem drive_mapLcp (s : State) (f : Lcp → Lcp) (p : Pan) : (s.mapLcp f).drive p = s.drive p := rfl
@[simp] theorem drive_mapSc (s : State) (f : Sc → Sc) (p : Pan) : (s.mapSc f).drive p = s.drive p := rfl
@[simp] theorem drive_raiseEvent (s : State) (e : Event) (p : Pan) : (s.raiseEvent e).drive p = s.drive p := rfl
@[simp] theorem drive_raiseLocalFault (s : State) (k : FaultKind) (d : FaultDetail) (p : Pan) :
    (s.raiseLocalFault k d).drive p = s.drive p := rfl
@[simp] theorem drive_withdraw (s : State) (f : QueuedNotice → Bool) (p : Pan) : (s.withdraw f).drive p = s.drive p := rfl
@[simp] theorem drive_enqueue (s : State) (n : Notice) (b : Bool) (p : Pan) : (s.enqueue n b).drive p = s.drive p := rfl
@[simp] theorem drive_clearArcs (s : State) (q p : Pan) : (s.clearArcs q).drive p = s.drive p := rfl
@[simp] theorem drive_scraperTo (s : State) (ph : ScraperPhase) (p : Pan) : (s.scraperTo ph).drive p = s.drive p := rfl
@[simp] theorem drive_aim (s : State) (p : Pan) (v : Valve) :
    (s.aim p v).drive p = (s.drive p).aim v s.now s.deadInterval := drive_mapPd s p _
theorem drive_aim_ne (s : State) {p q : Pan} (v : Valve) (h : q ≠ p) : (s.aim p v).drive q = s.drive q :=
  drive_mapPd_ne s _ h

@[simp] theorem drive_addReason (s : State) (x : Reason) (p : Pan) : (s.addReason x).drive p = s.drive p := by
  unfold State.addReason
  split <;> simp

@[simp] theorem drive_removeReason (s : State) (x : Reason) (p : Pan) : (s.removeReason x).drive p = s.drive p := by
  unfold State.removeReason
  split <;> simp

@[simp] theorem drive_scraperLosesClaim (s : State) (q p : Pan) : (s.scraperLosesClaim q).drive p = s.drive p := by
  unfold State.scraperLosesClaim
  split <;> simp

@[simp] theorem drive_fillPresent (s : State) (p : Pan) : s.fillPresent.drive p = s.drive p := by
  unfold State.fillPresent
  split <;> simp

/-! ## Notices of the drives -/

/-- Outside JOINING and ONLINE a unit's notice is turned away (R12). -/
theorem queueInternal_of_silent (s : State) (n : Notice) (silent : s.transmits = false) :
    s.queueInternal n = (s, .turnedAway) := by
  simp [State.queueInternal, silent]

theorem sendOr_of_silent (s : State) (n : Notice) (f : State → State) (silent : s.transmits = false) : s.sendOr n f = s := by
  simp [State.sendOr, queueInternal_of_silent s n silent]

theorem sendDrive_of_silent (s : State) (p : Pan) (n : Notice) (o : Outstanding) (silent : s.transmits = false) :
    s.sendDrive p n o = s := sendOr_of_silent s n _ silent

/-- A queue that admits a unit's notices, with room for one (R12, R14, R18). -/
def Admits (s : State) : Prop := s.transmits = true ∧ s.ventedHeld = false ∧ s.rlp.queue.length < 16

theorem queueInternal_of_admits (s : State) (n : Notice) (admits : Admits s) :
    s.queueInternal n = (s.enqueue n false, .admitted) := by
  obtain ⟨transmits, vented, room⟩ := admits
  have room : s.rlp.queue.length < queueCapacity := room
  simp [State.queueInternal, transmits, vented, room]

theorem send_of_admits (s : State) (n : Notice) (admits : Admits s) : s.send n = s.enqueue n false := by
  simp [State.send, queueInternal_of_admits s n admits]

theorem sendOr_of_admits (s : State) (n : Notice) (f : State → State) (admits : Admits s) :
    s.sendOr n f = s.enqueue n false := by
  simp [State.sendOr, queueInternal_of_admits s n admits]

theorem sendDrive_of_admits (s : State) (p : Pan) (n : Notice) (o : Outstanding) (admits : Admits s) :
    s.sendDrive p n o = s.enqueue n false := sendOr_of_admits s n _ admits

@[simp] theorem drive_queueInternal (s : State) (n : Notice) (p : Pan) : (s.queueInternal n).1.drive p = s.drive p := by
  unfold State.queueInternal
  split
  · rfl
  · split
    · simp
    · split <;> simp

@[simp] theorem drive_send (s : State) (n : Notice) (p : Pan) : (s.send n).drive p = s.drive p := drive_queueInternal s n p

@[simp] theorem drive_raiseFault (s : State) (k : FaultKind) (d : FaultDetail) (q : Option Pan) (x : Byte) (p : Pan) :
    (s.raiseFault k d q x).drive p = s.drive p := by
  simp [State.raiseFault]

@[simp] theorem drive_driveFault (s : State) (q : Pan) (k : FaultKind) (n : Int) (p : Pan) :
    (s.driveFault q k n).drive p = s.drive p := by
  simp [State.driveFault]

/-- A notice queued, as its admission has it. -/
theorem sendOr_cases (s : State) (n : Notice) (f : State → State) :
    s.sendOr n f = (s.queueInternal n).1 ∨ s.sendOr n f = f (s.queueInternal n).1 := by
  unfold State.sendOr
  split
  next h => exact .inr (by rw [h])
  next h => exact .inl (by rw [h])

/-- A drive notice changes no more of a drive than its record of an outstanding notice. -/
theorem drive_sendDrive (s : State) (p : Pan) (n : Notice) (o : Outstanding) :
    ∃ x, (s.sendDrive p n o).drive p = { s.drive p with outstanding := x } := by
  obtain h | h := sendOr_cases s n fun t => t.mapPd p fun d => { d with outstanding := some o }
  · exact ⟨(s.drive p).outstanding, by rw [State.sendDrive, h, drive_queueInternal]⟩
  · exact ⟨some o, by rw [State.sendDrive, h, drive_mapPd, drive_queueInternal]⟩

theorem drive_sendDrive_ne (s : State) {p q : Pan} (n : Notice) (o : Outstanding) (h : q ≠ p) :
    (s.sendDrive p n o).drive q = s.drive q := by
  obtain e | e := sendOr_cases s n fun t => t.mapPd p fun d => { d with outstanding := some o }
  · rw [State.sendDrive, e, drive_queueInternal]
  · rw [State.sendDrive, e, drive_mapPd_ne _ _ h, drive_queueInternal]

/-! ## Serving the valves (R51, R52) -/

/-- Serving the valves changes the valve, the dead interval and the pulse, and nothing else of a drive. -/
theorem serve_eq (d : Drive) (now dead : Nat) :
    ∃ v k x, d.serve now dead = { d with valve := v, deadTimer := k, pulse := x } := by
  unfold Drive.serve Drive.openValve
  repeat' split
  all_goals exact ⟨_, _, _, rfl⟩

/-- A lasting target set changes the target beside. -/
theorem aim_eq (d : Drive) (v : Valve) (now dead : Nat) :
    ∃ w k x, d.aim v now dead = { d with target := v, heldDecision := none, valve := w, deadTimer := k, pulse := x } := by
  obtain ⟨w, k, x, h⟩ := serve_eq { d with target := v, pulse := .idle, heldDecision := none } now dead
  exact ⟨w, k, x, h⟩

theorem serve_vent_valve (d : Drive) (now dead : Nat) (h : d.target = .vent) : (d.serve now dead).valve ≠ .fill := by
  unfold Drive.serve Drive.openValve
  cases hv : d.valve <;> simp [h, hv]
  split <;> simp [hv]

/-- A drive aimed at VENT has its fill valve closed. -/
theorem aim_vent_valve (d : Drive) (now dead : Nat) : (d.aim .vent now dead).valve ≠ .fill := serve_vent_valve _ now dead rfl

/-! ## Changes of drive state -/

@[simp] theorem drive_driveTo (s : State) (p : Pan) (st : DriveState) (c : Option BlockCause) :
    (s.driveTo p st c).drive p = { s.drive p with state := st, blockCause := c } := by
  unfold State.driveTo
  dsimp only
  split <;> simp

theorem drive_driveTo_ne (s : State) {p q : Pan} (st : DriveState) (c : Option BlockCause) (h : q ≠ p) :
    (s.driveTo p st c).drive q = s.drive q := by
  unfold State.driveTo
  dsimp only
  split <;> simp [drive_mapPd_ne _ _ h]

/-- The drive record that a housing leaves: its wait is over, and its state is one of those housed (R55, R69). -/
structure HousedFrom (d x : Drive) : Prop where
  state : x.state = if d.state = .lowering ∧ d.pendingBlock = none then .down else .blocked
  cause : x.blockCause = if d.state = .dropped then d.blockCause else
    match d.pendingBlock with
    | none => none
    | some .host => some .host
    | some .sensorConflict => some .sensorConflict
  lowerTimer : x.lowerTimer = none
  role : x.role = none
  claimSeq : x.claimSeq = none
  pendingBlock : x.pendingBlock = none
  kept : x.raiseRequest = d.raiseRequest ∧ x.target = d.target ∧ x.valve = d.valve ∧ x.claimStage = d.claimStage ∧
    x.raiseTimer = d.raiseTimer ∧ x.regulationTimer = d.regulationTimer ∧ x.episode = d.episode ∧ x.enable = d.enable

/-- The notice of a housing leaves what the housing made of the drive. -/
theorem HousedFrom.sent {d : Drive} {s : State} {p : Pan} (h : HousedFrom d (s.drive p)) (n : Notice) (o : Outstanding) :
    HousedFrom d ((s.sendDrive p n o).drive p) := by
  obtain ⟨x, hx⟩ := drive_sendDrive s p n o
  rw [hx]
  exact ⟨h.state, h.cause, h.lowerTimer, h.role, h.claimSeq, h.pendingBlock, h.kept⟩

/-- The drive record after a housing that it waited for. -/
theorem takeHousing_housed (s : State) (p : Pan) (waits : (s.drive p).state = .lowering ∨ (s.drive p).state = .dropped) :
    HousedFrom (s.drive p) ((s.takeHousing p).drive p) := by
  unfold State.takeHousing State.sendYield State.sendBlocked
  dsimp only
  split
  next lowering =>
    split
    all_goals
      next pending =>
        apply HousedFrom.sent
        constructor <;> simp [lowering, pending]
  next dropped =>
    apply HousedFrom.sent
    constructor <;> simp [dropped]
  next notLowering notDropped => exact absurd waits (not_or.mpr ⟨notLowering, notDropped⟩)

theorem drive_takeHousing_ne (s : State) {p q : Pan} (h : q ≠ p) : (s.takeHousing p).drive q = s.drive q := by
  unfold State.takeHousing State.sendYield State.sendBlocked
  dsimp only
  repeat' split
  all_goals simp [drive_sendDrive_ne _ _ _ h, drive_driveTo_ne _ _ _ h, drive_mapPd_ne _ _ h]

theorem drive_housedAlready_ne (s : State) {p q : Pan} (h : q ≠ p) : (s.housedAlready p).drive q = s.drive q := by
  unfold State.housedAlready
  split
  · exact drive_takeHousing_ne s h
  · rfl

/-! ## Ordering down (R68) -/

/-- The drive record that a lowering leaves of one that was raised or raising: LOWERING, or already housed (R68, R69). -/
structure LoweredFrom (d x : Drive) (due : Moment) : Prop where
  target : x.target = .vent
  valve : x.valve ≠ .fill
  raiseTimer : x.raiseTimer = none
  raiseRequest : x.raiseRequest = d.raiseRequest
  claimStage : x.claimStage = d.claimStage
  claimSeq : x.claimSeq = d.claimSeq ∨ x.claimSeq = none
  unhoused : d.housed = false → x.state = .lowering ∧ x.lowerTimer = some due
  housed : d.housed = true → (x.state = .down ∨ x.state = .blocked) ∧ x.lowerTimer = none

/-- The drive record of a lowering before the housed indication is looked at. -/
def lowered (d : Drive) (due now dead : Nat) : Drive :=
  Drive.aim { ({ d with state := .lowering, blockCause := none } : Drive).quiet with lowerTimer := some due } .vent now dead

theorem lowered_eq (d : Drive) (due now dead : Nat) :
    ∃ v k x, lowered d due now dead = { ({ d with state := .lowering, blockCause := none } : Drive).quiet with
      lowerTimer := some due, target := .vent, heldDecision := none, valve := v, deadTimer := k, pulse := x } :=
  aim_eq _ .vent now dead

/-- What a lowering makes of a drive: `lowered`, and a housing taken at once where the indication is set. -/
theorem drive_enterLowering (s : State) (p : Pan) :
    ∃ t : State, t.drive p = lowered (s.drive p) (s.now + s.lowerLimit) s.now s.deadInterval ∧
      s.enterLowering p = t.housedAlready p := by
  refine ⟨_, ?_, rfl⟩
  rw [drive_aim, drive_mapPd, drive_driveTo]
  have moment : aside (s.driveTo p .lowering none) = aside s := aside_driveTo s p .lowering none
  simp only [lowered, mapPd_now, aside_now moment, State.timerFor, State.deadInterval, mapPd_sc, aside_sc moment]

theorem enterLowering_lowered (s : State) (p : Pan) :
    LoweredFrom (s.drive p) ((s.enterLowering p).drive p) (s.now + s.lowerLimit) := by
  obtain ⟨t, lowers, enters⟩ := drive_enterLowering s p
  obtain ⟨v, k, x, h⟩ := lowered_eq (s.drive p) (s.now + s.lowerLimit) s.now s.deadInterval
  have closed : (t.drive p).valve ≠ .fill := by rw [lowers]; exact aim_vent_valve _ _ _
  rw [h] at lowers
  have indicated : (t.drive p).housed = (s.drive p).housed := by rw [lowers]; rfl
  have lowering : (t.drive p).state = .lowering := by rw [lowers]; rfl
  rw [enters, State.housedAlready, indicated]
  split
  next housed =>
    have taken := takeHousing_housed t p (.inl lowering)
    obtain ⟨request, target, valve, stage, raiseTimer, -, -, -⟩ := taken.kept
    constructor
    case housed => exact fun _ => ⟨by rw [taken.state]; split <;> simp, taken.lowerTimer⟩
    case unhoused => exact fun unhoused => absurd (unhoused.symm.trans housed) (by decide)
    case claimSeq => exact .inr taken.claimSeq
    case valve => rw [valve]; exact closed
    case target => rw [target, lowers]
    case raiseTimer => rw [raiseTimer, lowers]; rfl
    case raiseRequest => rw [request, lowers]; rfl
    case claimStage => rw [stage, lowers]; rfl
  next unhoused =>
    constructor
    case valve => exact closed
    case housed => exact fun housed => absurd housed unhoused
    case unhoused => exact fun _ => ⟨lowering, by rw [lowers]⟩
    all_goals simp [lowers, Drive.quiet]

theorem drive_enterLowering_ne (s : State) {p q : Pan} (h : q ≠ p) : (s.enterLowering p).drive q = s.drive q := by
  simp [State.enterLowering, drive_housedAlready_ne _ h, drive_aim_ne _ _ h, drive_mapPd_ne _ _ h, drive_driveTo_ne _ _ _ h]

/-! ## Claims (R15, R60) -/

theorem cancelClaim_of_idle (s : State) (p : Pan) (idle : (s.drive p).claimStage = .idle) : s.cancelClaim p = s := by
  simp [State.cancelClaim, idle]

/-- A cancelled claim changes the claim's fields of a drive alone. -/
structure ClaimCancelled (d x : Drive) : Prop where
  kept : x.state = d.state ∧ x.raiseRequest = d.raiseRequest ∧ x.target = d.target ∧ x.valve = d.valve ∧
    x.housed = d.housed ∧ x.enable = d.enable ∧ x.lowerTimer = d.lowerTimer
  standing : d.claimStage = .standing → x.claimStage = .cancelled
  queued : d.claimStage = .queued → x.claimStage = .idle ∨ x.cancelPending = true
  idle : d.claimStage = .idle → x = d

theorem ClaimCancelled.refl {d : Drive} (h1 : d.claimStage ≠ .standing) (h2 : d.claimStage ≠ .queued) : ClaimCancelled d d :=
  ⟨⟨rfl, rfl, rfl, rfl, rfl, rfl, rfl⟩, fun h => absurd h h1, fun h => absurd h h2, fun _ => rfl⟩

/-- Withdrawing a QUEUED claim ends it, unless its attempt is in progress (R15). -/
theorem drive_withdrawClaim (s : State) (p : Pan) :
    (s.withdrawClaim p).drive p = if s.inAttempt (isClaimOf p) then s.drive p else (s.drive p).claimOver := by
  unfold State.withdrawClaim
  split <;> simp

theorem drive_withdrawClaim_ne (s : State) {p q : Pan} (h : q ≠ p) : (s.withdrawClaim p).drive q = s.drive q := by
  unfold State.withdrawClaim
  split <;> simp [drive_mapPd_ne _ _ h]

theorem cancelClaim_cancelled (s : State) (p : Pan) : ClaimCancelled (s.drive p) ((s.cancelClaim p).drive p) := by
  unfold State.cancelClaim
  dsimp only
  split
  next queued =>
    rw [drive_scraperLosesClaim, drive_mapPd, drive_withdrawClaim]
    constructor <;> split <;> simp [Drive.claimOver, *]
  next standing =>
    rw [drive_scraperLosesClaim, State.yieldClaim, State.sendYield]
    obtain ⟨x, hx⟩ := drive_sendDrive (s.mapPd p fun d => { d with claimStage := .cancelled, cancelPending := false }) p
      (.yield (panCode p)) .yield
    rw [hx]
    constructor <;> simp [standing]
  next notQueued notStanding => exact .refl notStanding notQueued

theorem drive_cancelClaim_ne (s : State) {p q : Pan} (h : q ≠ p) : (s.cancelClaim p).drive q = s.drive q := by
  unfold State.cancelClaim
  dsimp only
  split
  · rw [drive_scraperLosesClaim, drive_mapPd_ne _ _ h, drive_withdrawClaim_ne s h]
  · rw [drive_scraperLosesClaim, State.yieldClaim, State.sendYield, drive_sendDrive_ne _ _ _ h, drive_mapPd_ne _ _ h]
  · rfl

/-! ## A drive ordered down -/

/-- The drive with its raise request as a cause leaves it (R56, R68). -/
def requestAfter (d : Drive) (c : DownCause) : Drive := { d with raiseRequest := d.raiseRequest && !c.clears d.role }

theorem orderDown_of_raised (s : State) (p : Pan) (c : DownCause) (raised : (s.drive p).state = .raising ∨ (s.drive p).state = .up) :
    LoweredFrom (requestAfter (s.drive p) c) ((s.orderDown p c).drive p) (s.now + s.lowerLimit) := by
  have lowered := enterLowering_lowered (s.mapPd p fun d => requestAfter d c) p
  rw [drive_mapPd] at lowered
  unfold State.orderDown
  obtain raising | up := raised
  · simp only [raising]; exact lowered
  · simp only [up]; exact lowered

theorem orderDown_of_down (s : State) (p : Pan) (c : DownCause) (down : (s.drive p).state = .down) (h : c ≠ .listenOnly) :
    ClaimCancelled (requestAfter (s.drive p) c) ((s.orderDown p c).drive p) := by
  have cancelled := cancelClaim_cancelled (s.mapPd p fun d => requestAfter d c) p
  rw [drive_mapPd] at cancelled
  unfold State.orderDown
  simp only [down, if_neg h]
  exact cancelled

/-- A drive that neither is raised nor has a claim to cancel only loses its raise request (R68). -/
theorem orderDown_of_rest (s : State) (p : Pan) (c : DownCause) (h1 : (s.drive p).state ≠ .raising) (h2 : (s.drive p).state ≠ .up)
    (h3 : (s.drive p).state = .down → c = .listenOnly ∨ (s.drive p).claimStage = .idle) :
    s.orderDown p c = s.mapPd p fun d => requestAfter d c := by
  unfold State.orderDown
  dsimp only
  split
  next raising => exact absurd raising h1
  next up => exact absurd up h2
  next down =>
    split
    · rfl
    next claims =>
      obtain listen | idle := h3 down
      · exact absurd listen claims
      · exact cancelClaim_of_idle _ p (by rw [drive_mapPd]; exact idle)
  · rfl

/-- Ordering down leaves the state of every drive that is neither RAISING nor UP. -/
theorem orderDown_state_of_rest (s : State) (p : Pan) (c : DownCause) (h1 : (s.drive p).state ≠ .raising)
    (h2 : (s.drive p).state ≠ .up) : ((s.orderDown p c).drive p).state = (s.drive p).state := by
  by_cases cancels : (s.drive p).state = .down ∧ c ≠ .listenOnly
  · exact (orderDown_of_down s p c cancels.1 cancels.2).kept.1
  · rw [orderDown_of_rest s p c h1 h2 fun down => .inl (Classical.not_not.mp fun h => cancels ⟨down, h⟩), drive_mapPd]
    rfl

theorem orderDown_raiseRequest (s : State) (p : Pan) (c : DownCause) :
    ((s.orderDown p c).drive p).raiseRequest = (requestAfter (s.drive p) c).raiseRequest := by
  by_cases raised : (s.drive p).state = .raising ∨ (s.drive p).state = .up
  · exact (orderDown_of_raised s p c raised).raiseRequest
  · obtain ⟨h1, h2⟩ := not_or.mp raised
    by_cases cancels : (s.drive p).state = .down ∧ c ≠ .listenOnly
    · exact (orderDown_of_down s p c cancels.1 cancels.2).kept.2.1
    · rw [orderDown_of_rest s p c h1 h2 fun down => .inl (Classical.not_not.mp fun h => cancels ⟨down, h⟩), drive_mapPd]

theorem drive_orderDown_ne (s : State) {p q : Pan} (c : DownCause) (h : q ≠ p) : (s.orderDown p c).drive q = s.drive q := by
  unfold State.orderDown
  dsimp only
  split
  · rw [drive_enterLowering_ne _ h, drive_mapPd_ne _ _ h]
  · rw [drive_enterLowering_ne _ h, drive_mapPd_ne _ _ h]
  · split
    · exact drive_mapPd_ne _ _ h
    · rw [drive_cancelClaim_ne _ h, drive_mapPd_ne _ _ h]
  · exact drive_mapPd_ne _ _ h

/-! ## Each fitted drive -/

/-- Something done to each fitted pantograph that keeps `I`, does not look at what is fitted and does to its own drive what `R`
says does so to every fitted drive, and leaves the others. -/
theorem eachFitted_drive {I : State → Prop} {R : Drive → Drive → Prop} (f : Pan → State → State)
    (keeps : ∀ p t, I t → I (f p t)) (fitted : ∀ p t q, (f p t).fitted q = t.fitted q)
    (own : ∀ p t, I t → R (t.drive p) ((f p t).drive p)) (other : ∀ p q t, q ≠ p → (f p t).drive q = t.drive q)
    (s : State) (h : I s) :
    I (s.eachFitted f) ∧ ∀ p, s.fitted p = true → R (s.drive p) ((s.eachFitted f).drive p) := by
  unfold State.eachFitted
  dsimp only
  cases h0 : s.fitted .p0 <;> cases h1 : s.fitted .p1 <;>
    simp only [fitted, h1, if_true, if_false, Bool.false_eq_true]
  · exact ⟨h, fun p hp => by cases p <;> simp_all⟩
  · exact ⟨keeps _ _ h, fun p hp => by cases p <;> simp_all⟩
  · exact ⟨keeps _ _ h, fun p hp => by cases p <;> simp_all⟩
  · refine ⟨keeps _ _ (keeps _ _ h), fun p _ => ?_⟩
    cases p
    · rw [other .p1 .p0 _ (by simp)]
      exact own .p0 s h
    · have := own .p1 _ (keeps .p0 s h)
      rwa [other .p0 .p1 s (by simp)] at this

end Sys2Proof.Proofs
end

section
/-! SUPPORT. The commands of the drives (chapter 3): the timers of the valves, the timeouts, the go-ahead, the drop line, and RAISE,
LOWER, BLOCK and UNBLOCK. -/

namespace Sys2Proof.Proofs

open Sys2Proof Sys2Proof.Machine Sys2Proof.Laws

/-! ## Timers of a drive -/

theorem driveExpiry_of_running (s : State) {p : Pan} {tm : Drive → Timer} (t : Moment) {due : Moment} (k : Moment → State → State)
    (fitted : s.fitted p = true) (running : tm (s.drive p) = some due) :
    s.driveExpiry p tm t k = k due (s.advance (max t due)) := by
  simp [State.driveExpiry, fitted, running, State.expire]

/-- Settles O25: each timer of the valves does its part on the drive at the moment it is due. -/
theorem driveTimersServeTheValves : Obligations.DriveTimersServeTheValves := by
  refine fun t due p s fitted => ⟨fun running => ?_, fun running => ?_, fun running => ?_⟩
  · exact congrArg Host.Outcome.next (driveExpiry_of_running s t _ fitted running)
  · have ends : Drive.pulseEnd (s.drive p) = some due := by simp [Drive.pulseEnd, running]
    exact congrArg Host.Outcome.next (driveExpiry_of_running s t _ fitted ends)
  · exact congrArg Host.Outcome.next (driveExpiry_of_running s t _ fitted running)

/-- Settles O26: the table of the valves, row by row. -/
theorem valvesAreServedTowardsTheTarget : Obligations.ValvesAreServedTowardsTheTarget := by
  refine fun d now dead => ⟨fun openValve other => ?_, fun openValve target => ?_, fun closed dead => ?_,
    fun closed stopped target => ?_, fun closed stopped target enable => ?_, fun closed target enable => ?_, fun closed target => ?_,
    ⟨fun held => ?_, fun v held => ?_⟩, fun decision => ⟨fun due running => ?_, fun notRunning => ?_⟩⟩
  · cases h : d.valve <;> simp_all [Drive.serve]
  · cases h : d.valve <;> simp_all [Drive.serve]
  · simp [Drive.serve, closed, Option.isSome_iff_ne_none.mpr dead]
  · simp [Drive.serve, closed, stopped, target, Drive.openValve]
  · simp [Drive.serve, closed, stopped, target, enable, Drive.openValve]
  · simp [Drive.serve, closed, target, enable]
  · simp [Drive.serve, closed, target]
  · simp [Drive.pulseOver, held, Drive.aim]
  · simp [Drive.pulseOver, held, Drive.aim]
  · simp [Drive.decide, running]
  · unfold Drive.decide
    split
    next due h => exact absurd h (notRunning due)
    · rfl
    · rfl

/-! ## Timeouts (R64, R70) -/

theorem faultSet_driveFault (s : State) (p : Pan) (k : FaultKind) (n : Int) : (s.driveFault p k n).faultSet k = true :=
  faultSet_raiseFault _ _ _ _ _

theorem faultSet_orderDown (s : State) (p : Pan) (c : DownCause) (k : FaultKind) (h : s.faultSet k = true) :
    (s.orderDown p c).faultSet k = true :=
  (keeps_orderDown s p c (closed_grown s) (grown_refl s)).2.2 k h

@[simp] theorem aside_driveFault (s : State) (p : Pan) (k : FaultKind) (n : Int) : aside (s.driveFault p k n) = aside s := by
  simp [State.driveFault]

/-- What the end of a raise without contact makes of a RAISING drive (R64, R68, R69). -/
theorem raiseFails_lowered (s : State) (p : Pan) (k : FaultKind) (raising : (s.drive p).state = .raising) :
    LoweredFrom (requestAfter (s.drive p) .fault) ((s.raiseFails p k).drive p) (s.now + s.lowerLimit) := by
  have lowered := orderDown_of_raised (s.driveFault p k (s.position p)) p .fault (.inl (by rw [drive_driveFault]; exact raising))
  rw [drive_driveFault] at lowered
  have same : aside (s.driveFault p k (s.position p)) = aside s := aside_driveFault s p k _
  have limit : (s.driveFault p k (s.position p)).lowerLimit = s.lowerLimit := by rw [State.lowerLimit, aside_sc same]; rfl
  rwa [aside_now same, limit] at lowered

/-- Settles O29: the fault stands before the order down, and neither changes the base. -/
theorem driveTimeoutsRaiseTheirFaults : Obligations.DriveTimeoutsRaiseTheirFaults := by
  intro t due p s fitted w
  refine ⟨fun running => ?_, fun running => ?_⟩
  · have runs : exec (.raiseTimeout t p) s = .next (w.raiseFails p .raiseTimeout).settle :=
      congrArg Host.Outcome.next (driveExpiry_of_running s t _ fitted running)
    refine ⟨runs, fun raising => ?_, _, runs, ?_, ?_⟩
    · have lowered := raiseFails_lowered w p .raiseTimeout raising
      exact ⟨lowered.raiseRequest.trans (by simp [requestAfter, DownCause.clears]), lowered.valve, lowered.target,
        lowered.raiseTimer, lowered.unhoused, lowered.housed⟩
    · exact settle_faultSet _ _ (faultSet_orderDown _ _ _ _ (faultSet_driveFault _ _ _ _))
    · rw [settle_base, base_raiseFails]
  · have runs : exec (.lowerTimerExpiry t p) s = .next (w.stuckUp p).settle :=
      congrArg Host.Outcome.next (driveExpiry_of_running s t _ fitted running)
    refine ⟨runs, _, runs, settle_faultSet _ _ (faultSet_driveFault _ _ _ _), ?_⟩
    rw [settle_base, base_stuckUp]

/-! ## The go-ahead (R62) -/

theorem yieldAwaited_iff (s : State) (p : Pan) :
    s.yieldAwaited p = false ↔ ∀ q ∈ s.rlp.queue, q.notice ≠ .yield (panCode p) := by
  have each (q : QueuedNotice) : isYieldOf p q = true ↔ q.notice = .yield (panCode p) := by
    unfold isYieldOf
    split
    next c h => simp [h]
    next other => simpa using other (panCode p)
  simp [State.yieldAwaited, Bool.eq_false_iff, each]

theorem rolePosition_eq (r : Option Role) : rolePosition r = if r = some .scraper then .opn else .closed := by
  obtain _ | r := r
  · rfl
  · cases r <;> rfl

/-- The state of the drive and what it leaves when a raise begins (R62). -/
theorem enterRaising_raising (s : State) (p : Pan) :
    let x := (s.enterRaising p).drive p
    x.state = .raising ∧ x.raiseTimer = some (s.now + s.raiseLimit) ∧ x.target = .fill ∧ x.role = (s.drive p).role ∧
      x.claimStage = .idle := by
  intro x
  have hx : x = ((s.enterRaising p).drive p) := rfl
  rw [State.enterRaising, drive_aim, drive_mapPd, drive_driveTo] at hx
  obtain ⟨v, k, pulse, h⟩ := aim_eq { s.drive p with
    state := .raising, blockCause := none, raiseTimer := s.timerFor s.raiseLimit, claimStage := .idle, contactSince := none } .fill
    ((s.driveTo p .raising none).mapPd p fun d =>
      { d with raiseTimer := s.timerFor s.raiseLimit, claimStage := .idle, contactSince := none }).now
    ((s.driveTo p .raising none).mapPd p fun d =>
      { d with raiseTimer := s.timerFor s.raiseLimit, claimStage := .idle, contactSince := none }).deadInterval
  rw [hx]
  rw [h]
  exact ⟨rfl, rfl, rfl, rfl, rfl⟩

@[simp] theorem base_enterRaising (s : State) (p : Pan) : (s.enterRaising p).base = s.base := by
  simp [State.enterRaising]

theorem drive_yieldClaim (s : State) (p : Pan) :
    ∃ x, (s.yieldClaim p).drive p =
      { s.drive p with claimStage := .cancelled, cancelPending := false, outstanding := x } := by
  obtain ⟨x, hx⟩ := drive_sendDrive (s.mapPd p fun d => { d with claimStage := .cancelled, cancelPending := false }) p
    (.yield (panCode p)) .yield
  exact ⟨x, by rw [State.yieldClaim, State.sendYield, hx, drive_mapPd]⟩

/-- Settles O30: the test of R62 is the model's, and each of its three answers is one operation. -/
theorem goAheadBeginsTheRaise : Obligations.GoAheadBeginsTheRaise := by
  intro s p seq d u pos finds
  have test : (d.role.isSome && d.claimStage = .standing && d.claimSeq = some seq && d.state = .down && d.enable &&
      s.rlp.port = .online && !s.yieldAwaited p) = true ↔ finds := by
    simp only [Bool.and_eq_true, decide_eq_true_eq, Bool.not_eq_true', yieldAwaited_iff, Option.isSome_iff_ne_none, and_assoc,
      finds]
  have position : rolePosition d.role = pos := rolePosition_eq d.role
  have goes (h : finds) : u = if (s.sg.iso.get p).confirmed = some pos then s.enterRaising p
      else (s.raiseEvent (.claimRefused p d.role 3 false)).yieldClaim p := by
    rw [← position]
    exact if_pos (test.mpr h)
  refine ⟨fun h confirmed => ?_, fun h other => ?_, fun h => if_neg (mt test.mp h)⟩
  · rw [goes h, if_pos confirmed]
    obtain ⟨state, timer, target, role, stage⟩ := enterRaising_raising s p
    exact ⟨state, timer, target, role, stage, base_enterRaising s p⟩
  · rw [goes h, if_neg other]
    obtain ⟨x, hx⟩ := drive_yieldClaim (s.raiseEvent (.claimRefused p d.role 3 false)) p
    obtain ⟨-, -, -, down, -⟩ := h
    refine ⟨rfl, ?_, by simp⟩
    rw [hx]
    exact down

end Sys2Proof.Proofs
end

section
/-! SUPPORT. The housed input (R50, R69, R88), the drop line (R53 to R55), and RAISE, LOWER, BLOCK and UNBLOCK (R56, R57, R72 to
R74). -/

namespace Sys2Proof.Proofs

open Sys2Proof Sys2Proof.Machine Sys2Proof.Laws

/-! ## Time in the base -/

theorem base_advance (s : State) (t : Moment) : (s.advance t).base = { s.base with now := max s.now t } := rfl

/-- A step of a filtered input: what its edge makes of the base at the acceptance, and time up to the command's moment. -/
theorem base_settle_advance (s : State) (t : Moment) : (s.settle.advance t).base = { s.base with now := max s.base.now t } := by
  rw [base_advance, settle_base, settle_now]
  rfl

theorem max_due {now due t : Nat} (h : due ≤ t) : max (max now due) t = max now t := by omega

/-! ## Housing (R50, R88) -/

@[simp] theorem pins_set_get (x : Pins) (i : InputPin) : x.set i (x.get i) = x := by
  cases i <;> try rfl
  all_goals
    rename_i p
    cases p <;> rfl

theorem filterTime_pos (x : InputPin) : 0 < filterTime x := by
  cases x <;> simp [filterTime]

/-- A pin that takes a level it stands at since the same moment, or that stood at its filtered level until then, has the change
accepted after its filter time (R77). -/
theorem filter_taken (s : State) (x : InputPin) (b : Bool) (since t : Moment) (edge : Moment → State → State)
    (hb : b ≠ s.filtered x) (hp : (s.pins.get x).level = s.filtered x ∨ s.pins.get x = ⟨b, since⟩) :
    let held := s.mapPins fun p => p.set x ⟨b, since⟩
    s.filter [(x, b)] since t edge =
      if since + filterTime x ≤ t then (edge (since + filterTime x) (held.advance (since + filterTime x))).advance t
      else held.advance t := by
  intro held
  obtain rest | standing := hp
  · split
    next due => exact filter_accepts s x b since t edge rest hb due
    next early => exact filter_waits s x b since t edge rest hb (Nat.not_le.mp early)
  · have level : (s.pins.get x).level = b := by rw [standing]
    have same : held = s := by
      have : (s.pins.set x ⟨b, since⟩) = s.pins := by rw [← standing, pins_set_get]
      simp only [held, State.mapPins, this]
    have pending : s.acceptedAt x = some (since + filterTime x) := by
      rw [acceptedAt_of_ne s x (by rw [level]; exact hb), standing]
    have late : since < since + filterTime x := Nat.lt_add_of_pos_right (filterTime_pos x)
    simp only [State.filter, List.map_cons, List.map_nil, List.length_cons, List.length_nil]
    rw [acceptUpTo_early s x since _ edge _ pending late, take_pins_same s x b since level, same]
    split
    next due => rw [acceptUpTo_due s x t _ edge pending due]
    next early => rw [acceptUpTo_early s x t _ edge _ pending (Nat.not_le.mp early)]

/-- What HOUSING makes of the base: the indication and the reference, whatever else the drive does (R50, R88). -/
theorem base_housing (s : State) (p : Pan) :
    (s.housing p).base = State.base ((s.mapPd p fun d => { d with housed := true }).mapMu fun m =>
      { m with pos := m.pos.set p (m.pos.get p).reference }) := by
  unfold State.housing
  dsimp only
  rw [base_takeHousing]
  split <;> simp only [base_sensorConflict]

theorem housing_of_lowering (s : State) (p : Pan) (within : (s.mu.pos.get p).count ≤ 200) (lowering : (s.drive p).state = .lowering)
    (free : (s.drive p).pendingBlock = none) :
    s.housing p = (((((s.mapPd p fun d => { d with housed := true }).mapMu fun m =>
      { m with pos := m.pos.set p (m.pos.get p).reference }).mapPd p fun d =>
        { d with lowerTimer := none, role := none, claimSeq := none, pendingBlock := none }).driveTo p .down none).sendYield p) := by
  have noConflict : ¬ sensorLimit < s.position p := by simpa [sensorLimit, State.position] using within
  simp only [State.housing, if_neg noConflict, State.takeHousing, drive_mapMu, drive_mapPd, lowering, free]

/-- Settles O27: the housed input is one filtered pin, and its edge the housing. -/
theorem housingReferencesTheCount : Obligations.HousingReferencesTheCount := by
  intro t since p s fitted c pins v
  refine ⟨fun indicated pin => ?_, fun idle => ?_⟩
  · have level : s.filtered (.housed p) = false := indicated
    have filters := filter_taken s (.housed p) true since t (fun _ u => (u.housing p).settle) (by rw [level]; decide)
      (pin.imp_left fun h => by rw [h, level])
    have runs : exec (.housing ⟨since, t⟩ p) s = .next (s.filter [(.housed p, true)] since t fun _ u => (u.housing p).settle) :=
      congrArg Host.Outcome.next (if_pos fitted)
    refine ⟨fun due => ⟨?_, fun within lowering free => ?_⟩, fun early => ?_⟩
    · refine ⟨_, runs, ?_⟩
      rw [filters, if_pos (show since + filterTime (.housed p) ≤ t from due), base_settle_advance, base_housing]
      have time : max (max s.now (since + 30000)) t = max s.now t := max_due due
      rw [← time]
      rfl
    · have housed := housing_of_lowering ((s.mapPins fun x => x.set (.housed p) ⟨true, since⟩).advance (since + 30000)) p within
        lowering free
      rw [runs, filters, if_pos (show since + filterTime (.housed p) ≤ t from due)]
      exact congrArg (fun u : State => Host.Outcome.next (u.settle.advance t)) housed
    · rw [runs, filters, if_neg (show ¬ since + filterTime (.housed p) ≤ t from Nat.not_le.mpr early)]
      rfl
  · have runs : exec (.housedInputInactive t p) s =
        .next (((s.acceptUpTo 1 [.housed p] (fun _ u => (u.housing p).settle) t).advance t).unhoused p) :=
      congrArg Host.Outcome.next (if_pos fitted)
    have nothing : s.acceptUpTo 1 [.housed p] (fun _ u => (u.housing p).settle) t = s := by
      by_cases rest : (s.pins.get (.housed p)).level = s.filtered (.housed p)
      · exact acceptUpTo_idle s _ t _ 1 (acceptedAt_of_eq s _ rest)
      · exact acceptUpTo_early s _ t _ _ 1 (acceptedAt_of_ne s _ rest) (idle.resolve_left rest)
    rw [runs, nothing]
    rfl

/-! ## The drop line (R53 to R55) -/

theorem base_mapPd_enable (s : State) (p : Pan) (b : Bool) :
    (s.mapPd p fun d => { d with enable := b }).base =
      { s.base with enables := (⟨s.pd.p0.enable, s.pd.p1.enable⟩ : Pair Bool).set p b } := by
  cases p <;> rfl

/-- The drive record of a drive out of service by a drop (R54). -/
def OutOfService (x : Drive) (st : DriveState) (cause : BlockCause) : Prop :=
  x.state = st ∧ x.blockCause = some cause ∧ x.role = none ∧ x.raiseRequest = false ∧ x.pendingBlock = none ∧
    x.raiseTimer = none ∧ x.regulationTimer = none ∧ x.episode = false

/-- A drive that aims at VENT with its fill valve closed. -/
def Vented (x : Drive) : Prop := x.target = .vent ∧ x.valve ≠ .fill

theorem aim_vented (d : Drive) (now dead : Nat) : Vented (d.aim .vent now dead) := by
  refine ⟨?_, aim_vent_valve d now dead⟩
  obtain ⟨v, k, x, h⟩ := aim_eq d .vent now dead
  rw [h]

/-- What a drop clears of a drive (R54). -/
def dropCleared (d : Drive) : Drive :=
  { d.quiet with raiseRequest := false, pendingBlock := none, role := none,
                 claimSeq := if d.claimStage = .standing || d.claimStage = .cancelled then d.claimSeq else none }

/-- A drive dropped to a state with a cause, before its notice. -/
def dropsTo (s : State) (p : Pan) (st : DriveState) (cause : BlockCause) : State :=
  ((((s.mapPd p fun d => { d with enable := false }).aim p .vent).endClaimByBlock p).driveTo p st (some cause)).mapPd p dropCleared

theorem drive_endClaimByBlock (s : State) (p : Pan) :
    (s.endClaimByBlock p).drive p = s.drive p ∨ (s.endClaimByBlock p).drive p = (s.drive p).claimOver := by
  unfold State.endClaimByBlock
  split
  · rw [drive_withdrawClaim]
    split
    · exact .inl rfl
    · exact .inr rfl
  · exact .inl rfl

/-- The drive as `dropsTo` leaves it. -/
theorem drive_dropsTo (s : State) (p : Pan) (st : DriveState) (cause : BlockCause) :
    OutOfService ((dropsTo s p st cause).drive p) st cause ∧ Vented ((dropsTo s p st cause).drive p) ∧
      ((dropsTo s p st cause).drive p).housed = (s.drive p).housed := by
  have claim := drive_endClaimByBlock ((s.mapPd p fun d => { d with enable := false }).aim p .vent) p
  rw [drive_aim, drive_mapPd] at claim
  have vented := aim_vented { s.drive p with enable := false } (s.mapPd p fun d => { d with enable := false }).now
    (s.mapPd p fun d => { d with enable := false }).deadInterval
  have housed : (Drive.aim { s.drive p with enable := false } .vent (s.mapPd p fun d => { d with enable := false }).now
    (s.mapPd p fun d => { d with enable := false }).deadInterval).housed = (s.drive p).housed := serve_housed _ _ _
  rw [dropsTo, drive_mapPd, drive_driveTo]
  obtain claim | claim := claim
  all_goals
    rw [claim]
    exact ⟨⟨rfl, rfl, rfl, rfl, rfl, rfl, rfl, rfl⟩, vented, housed⟩

theorem dropDrive_of_down (s : State) (p : Pan) (cause : BlockCause) (down : (s.drive p).state = .down) :
    s.dropDrive p cause = (dropsTo s p .blocked cause).sendBlocked p := by
  simp only [State.dropDrive, down]
  rfl

theorem dropDrive_of_raised (s : State) (p : Pan) (cause : BlockCause)
    (raised : (s.drive p).state = .raising ∨ (s.drive p).state = .up ∨ (s.drive p).state = .lowering) :
    s.dropDrive p cause = (((dropsTo s p .dropped cause).mapPd p fun d =>
      { d with lowerTimer := s.timerFor s.lowerLimit }).sendDrive p (.drop (panCode p) 0) .dropFalling).housedAlready p := by
  obtain h | h | h := raised
  all_goals
    simp only [State.dropDrive, h]
    rfl

theorem dropDrive_of_rest (s : State) (p : Pan) (cause : BlockCause)
    (rest : (s.drive p).state = .dropped ∨ (s.drive p).state = .blocked) :
    s.dropDrive p cause = (s.mapPd p fun d => { d with enable := false }).aim p .vent := by
  obtain h | h := rest
  all_goals simp only [State.dropDrive, h]

theorem base_dropsTo (s : State) (p : Pan) (st : DriveState) (cause : BlockCause) :
    (dropsTo s p st cause).base = { s.base with enables := (⟨s.pd.p0.enable, s.pd.p1.enable⟩ : Pair Bool).set p false } := by
  have cleared (t : State) : (t.mapPd p dropCleared).base = t.base := base_mapPd t p dropCleared fun _ => ⟨rfl, rfl⟩
  rw [dropsTo, cleared, base_driveTo, base_endClaimByBlock, base_aim, base_mapPd_enable]

/-- A drop changes the base in the enable alone (R53). -/
theorem base_dropDrive (s : State) (p : Pan) (cause : BlockCause) :
    (s.dropDrive p cause).base =
      { s.base with enables := (⟨s.pd.p0.enable, s.pd.p1.enable⟩ : Pair Bool).set p false } := by
  cases state : (s.drive p).state with
  | down => rw [dropDrive_of_down s p cause state, base_sendBlocked, base_dropsTo]
  | raising | up | lowering =>
    rw [dropDrive_of_raised s p cause (by simp [state]), base_housedAlready, base_sendDrive]
    simp [base_dropsTo]
  | dropped | blocked => rw [dropDrive_of_rest s p cause (by simp [state]), base_aim, base_mapPd_enable]

theorem rlp_driveTo (s : State) (p : Pan) (st : DriveState) (c : Option BlockCause) : (s.driveTo p st c).rlp = s.rlp := by
  unfold State.driveTo
  dsimp only
  split <;> rfl

/-- Without a claim in the queue a drop leaves the port as it is, before its notice. -/
theorem rlp_dropsTo (s : State) (p : Pan) (st : DriveState) (cause : BlockCause) (claim : (s.drive p).claimStage ≠ .queued) :
    (dropsTo s p st cause).rlp = s.rlp := by
  have stage : (((s.mapPd p fun d => { d with enable := false }).aim p .vent).drive p).claimStage ≠ .queued := by
    rw [drive_aim, drive_mapPd]
    obtain ⟨v, k, x, h⟩ := aim_eq { s.drive p with enable := false } .vent (s.mapPd p fun d => { d with enable := false }).now
      (s.mapPd p fun d => { d with enable := false }).deadInterval
    rw [h]
    exact claim
  rw [dropsTo, mapPd_rlp, rlp_driveTo, State.endClaimByBlock, if_neg stage]
  rfl

theorem admits_of_rlp {s t : State} (h : t.rlp = s.rlp) (admits : Admits s) : Admits t := by
  unfold Admits State.transmits State.ventedHeld at *
  rwa [h]

theorem queue_sendDrive_of_admits (s : State) (p : Pan) (n : Notice) (o : Outstanding) (admits : Admits s) :
    (s.sendDrive p n o).rlp.queue = s.rlp.queue ++ [⟨n, false, false, false⟩] := by
  rw [sendDrive_of_admits s p n o admits]
  rfl

/-- A drive out of service keeps its record, but for an outstanding notice, when its notice is queued. -/
theorem OutOfService.sent {s : State} {p : Pan} {st : DriveState} {cause : BlockCause} (h : OutOfService (s.drive p) st cause)
    (n : Notice) (o : Outstanding) : OutOfService ((s.sendDrive p n o).drive p) st cause := by
  obtain ⟨x, hx⟩ := drive_sendDrive s p n o
  rw [hx]
  exact h

/-- The state of a drive that dropped, before its housed indication is looked at. -/
def dropsFalling (s : State) (p : Pan) (cause : BlockCause) : State :=
  ((dropsTo s p .dropped cause).mapPd p fun d => { d with lowerTimer := s.timerFor s.lowerLimit }).sendDrive p
    (.drop (panCode p) 0) .dropFalling

theorem drive_dropsFalling (s : State) (p : Pan) (cause : BlockCause) :
    OutOfService ((dropsFalling s p cause).drive p) .dropped cause ∧ Vented ((dropsFalling s p cause).drive p) ∧
      ((dropsFalling s p cause).drive p).housed = (s.drive p).housed ∧
      ((dropsFalling s p cause).drive p).lowerTimer = some (s.now + s.lowerLimit) := by
  obtain ⟨x, hx⟩ := drive_sendDrive ((dropsTo s p .dropped cause).mapPd p fun d => { d with lowerTimer := s.timerFor s.lowerLimit })
    p (.drop (panCode p) 0) .dropFalling
  obtain ⟨out, target, housed⟩ := drive_dropsTo s p .dropped cause
  rw [dropsFalling, hx, drive_mapPd]
  exact ⟨out, target, housed, rfl⟩

/-- A DROPPED drive whose housed indication is looked at (R50, R55). -/
theorem housedAlready_of_dropped (s : State) (p : Pan) (cause : BlockCause) (out : OutOfService (s.drive p) .dropped cause) :
    (Vented (s.drive p) → Vented ((s.housedAlready p).drive p)) ∧
      ((s.drive p).housed = false → (s.housedAlready p).drive p = s.drive p) ∧
      ((s.drive p).housed = true → OutOfService ((s.housedAlready p).drive p) .blocked cause ∧
        ((s.housedAlready p).drive p).lowerTimer = none) := by
  unfold State.housedAlready
  split
  next housed =>
    have taken := takeHousing_housed s p (.inr out.1)
    obtain ⟨request, target, valve, -, raiseTimer, regulation, episode, -⟩ := taken.kept
    obtain ⟨state, because, -, noRequest, -, noTimer, noRegulation, noEpisode⟩ := out
    refine ⟨fun vented => ⟨target.trans vented.1, valve.symm ▸ vented.2⟩, fun unhoused => absurd (unhoused.symm.trans housed) (by decide), fun _ => ⟨?_, taken.lowerTimer⟩⟩
    exact ⟨by rw [taken.state]; simp [state], by rw [taken.cause]; simp [state, because], taken.role, request.trans noRequest,
      taken.pendingBlock, raiseTimer.trans noTimer, regulation.trans noRegulation, episode.trans noEpisode⟩
  next unhoused => exact ⟨id, fun _ => rfl, fun housed => absurd housed unhoused⟩

/-- What a drop makes of a drive that was not DOWN and in service (R54, R55). -/
theorem dropDrive_falls (s : State) (p : Pan) (cause : BlockCause)
    (raised : (s.drive p).state = .raising ∨ (s.drive p).state = .up ∨ (s.drive p).state = .lowering) :
    Vented ((s.dropDrive p cause).drive p) ∧
      ((s.drive p).housed = false → OutOfService ((s.dropDrive p cause).drive p) .dropped cause ∧
        ((s.dropDrive p cause).drive p).lowerTimer = some (s.now + s.lowerLimit)) ∧
      ((s.drive p).housed = true → OutOfService ((s.dropDrive p cause).drive p) .blocked cause ∧
        ((s.dropDrive p cause).drive p).lowerTimer = none) := by
  obtain ⟨out, target, indicated, timer⟩ := drive_dropsFalling s p cause
  obtain ⟨kept, unhoused, housed⟩ := housedAlready_of_dropped (dropsFalling s p cause) p cause out
  rw [indicated] at unhoused housed
  rw [dropDrive_of_raised s p cause raised]
  refine ⟨kept target, fun h => ?_, housed⟩
  rw [← dropsFalling, unhoused h]
  exact ⟨out, timer⟩

theorem dropDrive_vented (s : State) (p : Pan) (cause : BlockCause) : Vented ((s.dropDrive p cause).drive p) := by
  cases state : (s.drive p).state with
  | down =>
    obtain ⟨x, hx⟩ := drive_sendDrive (dropsTo s p .blocked cause) p (.drop (panCode p) 1) .dropBlocked
    rw [dropDrive_of_down s p cause state, State.sendBlocked, hx]
    exact (drive_dropsTo s p .blocked cause).2.1
  | raising | up | lowering => exact (dropDrive_falls s p cause (by simp [state])).1
  | dropped | blocked =>
    rw [dropDrive_of_rest s p cause (by simp [state]), drive_aim]
    exact aim_vented _ _ _

/-- The hand-offs never open FILL against a clear enable (R53). -/
theorem closed_gated (p : Pan) : Closed fun s => Gated (s.drive p) := by
  constructor <;> intros <;> try assumption
  case pd s q f hf h =>
    by_cases same : p = q
    · subst same
      rw [drive_mapPd]
      exact hf _ h
    · rwa [drive_mapPd_ne _ _ same]
  case insert s e h => unfold State.insertSection; split <;> exact h

theorem settle_gated (s : State) (p : Pan) (closed : (s.drive p).valve ≠ .fill) (clear : (s.drive p).enable = false) :
    s.settle.fillOutput p = false := by
  have gated : Gated (s.settle.drive p) := keeps_settle s (closed_gated p) fun _ => closed
  have stays : (s.settle.drive p).enable = false := (settle_enable s p).trans clear
  simpa [State.fillOutput] using gated stays

/-- The notice of a drop stands at the tail of a queue with room. -/
theorem dropDrive_queues (s : State) (p : Pan) (cause : BlockCause) (admits : Admits s) (claim : (s.drive p).claimStage ≠ .queued) :
    ((s.drive p).state = .down →
      (s.dropDrive p cause).rlp.queue = s.rlp.queue ++ [⟨.drop (panCode p) 1, false, false, false⟩]) ∧
    ((s.drive p).state = .raising ∨ (s.drive p).state = .up ∨ (s.drive p).state = .lowering → (s.drive p).housed = false →
      (s.dropDrive p cause).rlp.queue = s.rlp.queue ++ [⟨.drop (panCode p) 0, false, false, false⟩]) := by
  refine ⟨fun down => ?_, fun raised unhoused => ?_⟩
  · have port := rlp_dropsTo s p .blocked cause claim
    rw [dropDrive_of_down s p cause down, State.sendBlocked, queue_sendDrive_of_admits _ _ _ _ (admits_of_rlp port admits), port]
  · have port : ((dropsTo s p .dropped cause).mapPd p fun d => { d with lowerTimer := s.timerFor s.lowerLimit }).rlp = s.rlp :=
      rlp_dropsTo s p .dropped cause claim
    have indicated := (drive_dropsFalling s p cause).2.2.1
    rw [dropDrive_of_raised s p cause raised]
    change ((dropsFalling s p cause).housedAlready p).rlp.queue = _
    rw [State.housedAlready, indicated, unhoused, if_neg (by simp), dropsFalling,
      queue_sendDrive_of_admits _ _ _ _ (admits_of_rlp port admits), port]

theorem rlp_dropDrive_of_rest (s : State) (p : Pan) (cause : BlockCause)
    (rest : (s.drive p).state = .dropped ∨ (s.drive p).state = .blocked) :
    ((s.dropDrive p cause).drive p).state = (s.drive p).state ∧
      ((s.dropDrive p cause).drive p).blockCause = (s.drive p).blockCause ∧ (s.dropDrive p cause).rlp = s.rlp := by
  rw [dropDrive_of_rest s p cause rest, drive_aim, drive_mapPd]
  obtain ⟨v, k, x, h⟩ := aim_eq { s.drive p with enable := false } .vent (s.mapPd p fun d => { d with enable := false }).now
    (s.mapPd p fun d => { d with enable := false }).deadInterval
  rw [h]
  exact ⟨rfl, rfl, rfl⟩

theorem dropDrive_enable (s : State) (p : Pan) (cause : BlockCause) : ((s.dropDrive p cause).drive p).enable = false := by
  have enables := congrArg Base.enables (base_dropDrive s p cause)
  cases p <;> simp_all [State.base, State.drive, Pair.get, Pair.set]

/-- Settles O28: the drop of a drive with its effects by state, and the enable it clears, which gates the valve. -/
theorem dropLineClearsTheEnable : Obligations.DropLineClearsTheEnable := by
  refine ⟨fun t p s => ⟨fun inactive fitted => ?_, fun inactive unfitted => ?_, rfl⟩, ?_⟩
  · let w : State := { s with now := max s.now t, dropLine := s.dropLine.set p true }
    have runs : exec (.dropLineActive t p) s = .next (w.dropDrive p .dropLine).settle := by
      refine congrArg Host.Outcome.next ?_
      rw [if_neg (by simp [inactive]), if_pos fitted]
      rfl
    refine ⟨runs, _, runs, ?_, ?_⟩
    · rw [settle_base, base_dropDrive]
      rfl
    · exact settle_gated _ p (dropDrive_vented w p .dropLine).2 (dropDrive_enable w p .dropLine)
  · refine congrArg Host.Outcome.next ?_
    rw [if_neg (by simp [inactive]), if_neg (by simp [unfitted])]
    rfl
  · intro s p cause d u dropped admits
    refine ⟨base_dropDrive s p cause, (dropDrive_vented s p cause).1, fun down => ⟨?_, fun h => ?_⟩,
      fun raised => ⟨fun unhoused => ?_, fun housed => ?_⟩, rlp_dropDrive_of_rest s p cause⟩
    · change OutOfService ((s.dropDrive p cause).drive p) .blocked cause
      rw [dropDrive_of_down s p cause down]
      exact (drive_dropsTo s p .blocked cause).1.sent _ _
    · obtain ⟨transmits, vented, room, claim⟩ := h
      exact (dropDrive_queues s p cause ⟨transmits, vented, room⟩ claim).1 down
    · obtain ⟨out, timer⟩ := (dropDrive_falls s p cause raised).2.1 unhoused
      refine ⟨out, timer, fun h => ?_⟩
      obtain ⟨transmits, vented, room, claim⟩ := h
      exact (dropDrive_queues s p cause ⟨transmits, vented, room⟩ claim).2 raised unhoused
    · exact (dropDrive_falls s p cause raised).2.2 housed

end Sys2Proof.Proofs
end

section
/-! SUPPORT. RAISE, LOWER, BLOCK and UNBLOCK (R56, R57, R72 to R74). -/

namespace Sys2Proof.Proofs

open Sys2Proof Sys2Proof.Machine Sys2Proof.Laws

/-! ## Responses -/

@[simp] theorem drive_respond (s : State) (c : Byte) (x : ResultCode) (d : ResponseData) (p : Pan) :
    (s.respond c x d).drive p = s.drive p := rfl

/-- A response changes the base in the transaction alone. -/
theorem base_respond (s : State) (c : Byte) (x : ResultCode) (d : ResponseData) :
    (s.respond c x d).base = { s.base with transaction := some ⟨c, x, d⟩ } := rfl

/-! ## RAISE and LOWER (R72) -/

theorem exec_raise (s : State) (t : Moment) (r : Request) {p : Pan} (check : r.check = requestCheck 0x10 r.args)
    (arg : s.panArg r.args = some p) :
    exec (.raise t r) s = .next (match (s.drive p).state with
      | .lowering => (s.advance t).fails 0x10 .busy
      | .dropped | .blocked => (s.advance t).fails 0x10 .refused
      | _ => if (s.drive p).enable then ((s.advance t).mapPd p fun d => { d with raiseRequest := true }).taken 0x10 .empty
        else (s.advance t).fails 0x10 .refused) :=
  congrArg Host.Outcome.next (hosted_ok s t 0x10 r State.panArg _ p check arg)

/-- RAISE of a drive that it can act on (R72). -/
theorem exec_raise_of_ready (s : State) (t : Moment) (r : Request) {p : Pan} (check : r.check = requestCheck 0x10 r.args)
    (arg : s.panArg r.args = some p) (state : (s.drive p).state = .down ∨ (s.drive p).state = .raising ∨ (s.drive p).state = .up) :
    exec (.raise t r) s = .next (if (s.drive p).enable
      then ((s.advance t).mapPd p fun d => { d with raiseRequest := true }).taken 0x10 .empty
      else (s.advance t).fails 0x10 .refused) := by
  rw [exec_raise s t r check arg]
  obtain h | h | h := state
  all_goals rw [h]

/-- RAISE of a drive that is on its way down or out of service (R72). -/
theorem exec_raise_of_unready (s : State) (t : Moment) (r : Request) {p : Pan} (check : r.check = requestCheck 0x10 r.args)
    (arg : s.panArg r.args = some p) :
    ((s.drive p).state = .lowering → exec (.raise t r) s = .next ((s.advance t).fails 0x10 .busy)) ∧
      ((s.drive p).state = .dropped ∨ (s.drive p).state = .blocked →
        exec (.raise t r) s = .next ((s.advance t).fails 0x10 .refused)) := by
  rw [exec_raise s t r check arg]
  refine ⟨fun h => by rw [h], fun state => ?_⟩
  obtain h | h := state
  all_goals rw [h]

theorem exec_lower (s : State) (t : Moment) (r : Request) {p : Pan} (check : r.check = requestCheck 0x11 r.args)
    (arg : s.panArg r.args = some p) :
    exec (.lower t r) s = .next (((s.advance t).orderDown p .host).taken 0x11 .empty) :=
  congrArg Host.Outcome.next (hosted_ok s t 0x11 r State.panArg _ p check arg)

theorem exec_block (s : State) (t : Moment) (r : Request) {p : Pan} (check : r.check = requestCheck 0x12 r.args)
    (arg : s.panArg r.args = some p) :
    exec (.block t r) s = .next (((s.advance t).block p).taken 0x12 .empty) :=
  congrArg Host.Outcome.next (hosted_ok s t 0x12 r State.panArg _ p check arg)

theorem exec_unblock (s : State) (t : Moment) (r : Request) {p : Pan} (check : r.check = requestCheck 0x13 r.args)
    (arg : s.panArg r.args = some p) :
    exec (.unblock t r) s = .next (if (s.advance t).mayUnblock p then ((s.advance t).unblock p).taken 0x13 .empty
      else (s.advance t).fails 0x13 .refused) :=
  congrArg Host.Outcome.next (hosted_ok s t 0x13 r State.panArg _ p check arg)

/-! ## The collector claim (R57) -/

/-- A claim queued into a queue with room (R57, R58). -/
theorem queueClaim_of_admits (s : State) (p : Pan) (r : Role) (admits : Admits s) :
    s.queueClaim p r = (s.mapPd p fun d => { d with role := some r, claimStage := .queued, cancelPending := false }).enqueue
      (.claim (panCode p) (roleCode r)) false :=
  sendOr_of_admits _ _ _ admits

theorem ownDown_iff (s : State) (p : Pan) : s.ownDown p = true ↔ ∃ e, s.ownEntry p = some e ∧ e.state = .down := by
  simp [State.ownDown, Option.any_eq_true]

/-- Settles O51: RAISE answers by the drive's state, LOWER orders down, and the claim's test is R57's. -/
theorem raiseAndLowerMoveTheRequest : Obligations.RaiseAndLowerMoveTheRequest := by
  refine ⟨?_, ?_⟩
  · intro t r s p arg d answer
    refine ⟨fun check => ⟨fun state enable => ?_, fun state enable => ?_, fun state => ?_, fun state => ?_⟩, fun check => ?_⟩
    · rw [exec_raise_of_ready s t r check arg state, if_pos enable]
      rfl
    · rw [exec_raise_of_ready s t r check arg state, if_neg (ne_true_of_eq_false enable)]
      rfl
    · exact (exec_raise_of_unready s t r check arg).1 state
    · exact (exec_raise_of_unready s t r check arg).2 state
    · refine ⟨((s.advance t).orderDown p .host).respond 0x11 .ok .empty, exec_lower s t r check arg, ?_, ?_, ?_, ?_⟩
      · rw [base_respond, base_orderDown]
        rfl
      · rw [drive_respond, orderDown_raiseRequest]
        simp [requestAfter, DownCause.clears]
      · intro rest
        refine orderDown_state_of_rest (s.advance t) p .host ?_ ?_
        all_goals
          change d.state ≠ _
          obtain state | state | state := rest
          all_goals
            rw [state]
            decide
      · intro raised unhoused
        have lowered := orderDown_of_raised (s.advance t) p .host raised
        obtain ⟨state, timer⟩ := lowered.unhoused unhoused
        exact ⟨state, lowered.target, timer⟩
  · intro s p d u may
    have test : s.collectorMay p = true ↔ may := by
      simp only [State.collectorMay, Bool.and_eq_true, decide_eq_true_eq, Bool.not_eq_true', ownDown_iff, bne_iff_ne, and_assoc,
        may, d]
    refine ⟨fun h => if_neg (mt test.mp h), fun h vented room => ?_⟩
    have claims : u = s.queueClaim p .collector := if_pos (test.mpr h)
    obtain ⟨-, -, down, -, -, -, online, -⟩ := h
    have admits : Admits s := ⟨by simp [State.transmits, online], vented, room⟩
    refine ⟨?_, ?_, ?_, ?_, ?_⟩
    all_goals rw [claims]
    · rw [queueClaim_of_admits s p _ admits]
      rfl
    · rw [queueClaim_of_admits s p _ admits, drive_enqueue, drive_mapPd]
    · rw [queueClaim_of_admits s p _ admits, drive_enqueue, drive_mapPd]
    · rw [queueClaim_of_admits s p _ admits, drive_enqueue, drive_mapPd]
      exact down
    · exact base_queueClaim s p .collector

/-! ## BLOCK and UNBLOCK (R73, R74) -/

/-- A DOWN drive blocked at once: its state and cause, and its raise request as it was. -/
theorem drive_blockNow (s : State) (p : Pan) (cause : BlockCause) :
    ((s.blockNow p cause).drive p).state = .blocked ∧ ((s.blockNow p cause).drive p).blockCause = some cause ∧
      ((s.blockNow p cause).drive p).raiseRequest = (s.drive p).raiseRequest := by
  obtain ⟨x, hx⟩ := drive_sendDrive (((s.endClaimByBlock p).driveTo p .blocked (some cause)).mapPd p fun d => { d with role := none })
    p (.drop (panCode p) 1) .dropBlocked
  rw [State.blockNow, State.sendBlocked, hx, drive_mapPd, drive_driveTo]
  obtain claim | claim := drive_endClaimByBlock s p
  all_goals
    rw [claim]
    exact ⟨rfl, rfl, rfl⟩

theorem base_block (s : State) (p : Pan) : (s.block p).base = s.base := by
  unfold State.block
  dsimp only
  split <;> simp

/-- BLOCK clears the raise request in every state of the drive (R73). -/
theorem block_raiseRequest (s : State) (p : Pan) : ((s.block p).drive p).raiseRequest = false := by
  unfold State.block
  dsimp only
  split
  · rw [(drive_blockNow _ p .host).2.2, drive_mapPd]
  · rw [orderDown_raiseRequest, drive_mapPd, drive_mapPd]
    simp [requestAfter]
  · rw [orderDown_raiseRequest, drive_mapPd, drive_mapPd]
    simp [requestAfter]
  · rw [drive_mapPd, drive_mapPd]
  · rw [drive_mapPd]

theorem mayUnblock_iff (s : State) (p : Pan) (t : Moment) :
    (s.advance t).mayUnblock p = (!s.dropLine.get p && !s.sc.supplyLow &&
      !((s.drive p).housed && decide (200 < (s.mu.pos.get p).count)) &&
        (decide ((s.drive p).state = .down) || decide ((s.drive p).state = .blocked))) := rfl

theorem base_unblock (s : State) (p : Pan) :
    (s.unblock p).base = { s.base with enables := (⟨s.pd.p0.enable, s.pd.p1.enable⟩ : Pair Bool).set p true } := by
  unfold State.unblock
  dsimp only
  split <;> simp only [base_sendYield, base_driveTo, base_mapPd_enable]

/-- UNBLOCK leaves a drive that it may act on DOWN (R74). -/
theorem unblock_down (s : State) (p : Pan) (state : (s.drive p).state = .down ∨ (s.drive p).state = .blocked) :
    ((s.unblock p).drive p).state = .down := by
  unfold State.unblock
  dsimp only
  split
  next blocked =>
    obtain ⟨x, hx⟩ := drive_sendDrive ((s.mapPd p fun d => { d with enable := true }).driveTo p .down none) p
      (.yield (panCode p)) .yield
    rw [State.sendYield, hx, drive_driveTo]
  next notBlocked =>
    rw [drive_mapPd]
    exact state.resolve_right notBlocked

/-- Settles O52: BLOCK and UNBLOCK by the drive's state. -/
theorem blockAndUnblockChangeTheService : Obligations.BlockAndUnblockChangeTheService := by
  intro t r s p arg d answer
  refine ⟨fun check => ?_, ?_⟩
  · refine ⟨((s.advance t).block p).respond 0x12 .ok .empty, exec_block s t r check arg, ?_, block_raiseRequest _ p, ?_, ?_⟩
    · rw [base_respond, base_block]
      rfl
    · intro down
      have blocks : (s.advance t).block p = ((s.advance t).mapPd p fun d => { d with raiseRequest := false }).blockNow p .host := by
        unfold State.block
        rw [show ((s.advance t).drive p).state = .down from down]
      obtain ⟨state, cause, -⟩ := drive_blockNow ((s.advance t).mapPd p fun d => { d with raiseRequest := false }) p .host
      rw [drive_respond, blocks]
      exact ⟨state, cause⟩
    · intro lowering free
      have blocks : (s.advance t).block p = ((s.advance t).mapPd p fun d => { d with raiseRequest := false }).mapPd p fun d =>
          { d with pendingBlock := some (d.pendingBlock.getD .host) } := by
        unfold State.block
        rw [show ((s.advance t).drive p).state = .lowering from lowering]
      rw [drive_respond, blocks, drive_mapPd, drive_mapPd]
      exact ⟨lowering, congrArg (fun x => some (x.getD PendingBlock.host)) free⟩
  · intro check sound
    refine ⟨fun may => ?_, fun may => ?_⟩
    · refine ⟨((s.advance t).unblock p).respond 0x13 .ok .empty, ?_, ?_, ?_⟩
      · rw [exec_unblock s t r check arg, mayUnblock_iff, if_pos may]
        rfl
      · rw [base_respond, base_unblock]
        rfl
      · have state : d.state = .down ∨ d.state = .blocked := by simp_all [sound]
        exact unblock_down (s.advance t) p state
    · rw [exec_unblock s t r check arg, mayUnblock_iff, if_neg (by simpa [sound] using may)]
      rfl

end Sys2Proof.Proofs
end

section
/-! SUPPORT. The entry to LISTEN_ONLY (R19): the port falls silent, each fitted drive loses its claim and is ordered down. Collisions
(R6, R7) and frames that carry the own number (R9) lead there. -/

namespace Sys2Proof.Proofs

open Sys2Proof Sys2Proof.Machine Sys2Proof.Laws

/-! ## What ordering down leaves of the port and of the ice unit -/

theorem transmits_of_rlp {s t : State} (h : t.rlp = s.rlp) : t.transmits = s.transmits := by
  simp only [State.transmits, h]

@[simp] theorem transmits_mapPd (s : State) (p : Pan) (f : Drive → Drive) : (s.mapPd p f).transmits = s.transmits := rfl

@[simp] theorem transmits_driveTo (s : State) (p : Pan) (st : DriveState) (c : Option BlockCause) :
    (s.driveTo p st c).transmits = s.transmits := transmits_of_rlp (rlp_driveTo s p st c)

theorem rlp_takeHousing_of_silent (s : State) (p : Pan) (silent : s.transmits = false) : (s.takeHousing p).rlp = s.rlp := by
  unfold State.takeHousing State.sendYield State.sendBlocked
  dsimp only
  repeat' split
  all_goals simp [sendDrive_of_silent, silent, rlp_driveTo]

theorem rlp_enterLowering_of_silent (s : State) (p : Pan) (silent : s.transmits = false) : (s.enterLowering p).rlp = s.rlp := by
  have before : (((s.driveTo p .lowering none).mapPd p fun d => { d.quiet with lowerTimer := s.timerFor s.lowerLimit }).aim p
      .vent).rlp = s.rlp := rlp_driveTo s p .lowering none
  unfold State.enterLowering State.housedAlready
  dsimp only
  split
  · rw [rlp_takeHousing_of_silent _ p (by rw [transmits_of_rlp before, silent]), before]
  · exact before

theorem orderDown_enters (s : State) (p : Pan) (c : DownCause) (raised : (s.drive p).state = .raising ∨ (s.drive p).state = .up) :
    s.orderDown p c = (s.mapPd p fun d => requestAfter d c).enterLowering p := by
  unfold State.orderDown
  obtain h | h := raised
  all_goals
    simp only [h]
    rfl

/-- A silent port is left alone where no claim is cancelled. -/
theorem rlp_orderDown_of_silent (s : State) (p : Pan) (c : DownCause) (silent : s.transmits = false)
    (claim : c = .listenOnly ∨ (s.drive p).claimStage = .idle) : (s.orderDown p c).rlp = s.rlp := by
  by_cases raised : (s.drive p).state = .raising ∨ (s.drive p).state = .up
  · have enters := orderDown_enters s p c raised
    exact enters ▸ rlp_enterLowering_of_silent (s.mapPd p fun d => requestAfter d c) p silent
  · obtain ⟨h1, h2⟩ := not_or.mp raised
    rw [orderDown_of_rest s p c h1 h2 fun _ => claim]
    rfl

/-- The records of the ice unit beside those the drives and the scraper run change. -/
def iuBeside (i : Iu) : Iu :=
  { i with history := ⟨[], []⟩, tally := ⟨0, 0⟩, scraper := ⟨.none, none, none, ⟨false, false⟩⟩ }

@[simp] theorem iu_queueInternal (s : State) (n : Notice) : (s.queueInternal n).1.iu = s.iu := by
  unfold State.queueInternal State.fillPresent
  repeat' split
  all_goals rfl

@[simp] theorem iu_sendDrive (s : State) (p : Pan) (n : Notice) (o : Outstanding) : (s.sendDrive p n o).iu = s.iu := by
  obtain h | h := sendOr_cases s n fun t => t.mapPd p fun d => { d with outstanding := some o }
  · rw [State.sendDrive, h, iu_queueInternal]
  · rw [State.sendDrive, h, mapPd_iu, iu_queueInternal]

@[simp] theorem iuBeside_driveTo (s : State) (p : Pan) (st : DriveState) (c : Option BlockCause) :
    iuBeside (s.driveTo p st c).iu = iuBeside s.iu := by
  unfold State.driveTo
  dsimp only
  split <;> rfl

@[simp] theorem iuBeside_scraperLosesClaim (s : State) (p : Pan) : iuBeside (s.scraperLosesClaim p).iu = iuBeside s.iu := by
  unfold State.scraperLosesClaim
  split <;> rfl

@[simp] theorem iuBeside_takeHousing (s : State) (p : Pan) : iuBeside (s.takeHousing p).iu = iuBeside s.iu := by
  unfold State.takeHousing State.sendYield State.sendBlocked
  dsimp only
  repeat' split
  all_goals simp

@[simp] theorem iuBeside_enterLowering (s : State) (p : Pan) : iuBeside (s.enterLowering p).iu = iuBeside s.iu := by
  unfold State.enterLowering State.housedAlready State.aim
  dsimp only
  split <;> simp

theorem iu_withdrawClaim (s : State) (p : Pan) : (s.withdrawClaim p).iu = s.iu := by
  unfold State.withdrawClaim
  split <;> rfl

@[simp] theorem iuBeside_cancelClaim (s : State) (p : Pan) : iuBeside (s.cancelClaim p).iu = iuBeside s.iu := by
  unfold State.cancelClaim State.yieldClaim State.sendYield
  dsimp only
  split <;> simp [iu_withdrawClaim]

@[simp] theorem iuBeside_orderDown (s : State) (p : Pan) (c : DownCause) : iuBeside (s.orderDown p c).iu = iuBeside s.iu := by
  unfold State.orderDown
  dsimp only
  split
  · simp
  · simp
  · split <;> simp
  · simp

/-! ## What a lowering leaves of a claim -/

theorem takeHousing_outstanding_of_silent (s : State) (p : Pan) (silent : s.transmits = false) :
    ((s.takeHousing p).drive p).outstanding = (s.drive p).outstanding := by
  unfold State.takeHousing State.sendYield State.sendBlocked
  dsimp only
  repeat' split
  all_goals simp [sendDrive_of_silent, silent]

theorem enterLowering_outstanding_of_silent (s : State) (p : Pan) (silent : s.transmits = false) :
    ((s.enterLowering p).drive p).outstanding = (s.drive p).outstanding := by
  have before : (((s.driveTo p .lowering none).mapPd p fun d => { d.quiet with lowerTimer := s.timerFor s.lowerLimit }).aim p
      .vent).rlp = s.rlp := rlp_driveTo s p .lowering none
  have record : ((((s.driveTo p .lowering none).mapPd p fun d => { d.quiet with lowerTimer := s.timerFor s.lowerLimit }).aim p
      .vent).drive p).outstanding = (s.drive p).outstanding := by
    rw [drive_aim]
    obtain ⟨v, k, x, h⟩ := aim_eq _ .vent _ _
    rw [h, drive_mapPd, drive_driveTo]
    rfl
  unfold State.enterLowering State.housedAlready
  dsimp only
  split
  · rw [takeHousing_outstanding_of_silent _ p (by rw [transmits_of_rlp before, silent]), record]
  · exact record

theorem orderDown_outstanding_of_silent (s : State) (p : Pan) (c : DownCause) (silent : s.transmits = false)
    (claim : c = .listenOnly ∨ (s.drive p).claimStage = .idle) :
    ((s.orderDown p c).drive p).outstanding = (s.drive p).outstanding := by
  by_cases raised : (s.drive p).state = .raising ∨ (s.drive p).state = .up
  · have enters := orderDown_enters s p c raised
    have kept := enterLowering_outstanding_of_silent (s.mapPd p fun d => requestAfter d c) p silent
    rw [drive_mapPd] at kept
    exact enters ▸ kept
  · obtain ⟨h1, h2⟩ := not_or.mp raised
    rw [orderDown_of_rest s p c h1 h2 fun _ => claim, drive_mapPd]
    rfl

/-! ## Entry to LISTEN_ONLY (R19) -/

theorem fitted_of_config {s t : State} (h : t.sc.config = s.sc.config) (p : Pan) : t.fitted p = s.fitted p := by
  unfold State.fitted State.panCount
  rw [h]

/-- The port and the records of lost notices in LISTEN_ONLY (R19, R76, R147, R166, R184), at a moment and with a lower timeout. -/
def Listening (now limit : Nat) (v : State) : Prop :=
  (v.rlp.port = .listenOnly ∧ v.rlp.queue = [] ∧ v.rlp.slot = none ∧ v.rlp.attempt = none ∧ v.sc.leaving = none ∧
    v.cu.lost = none ∧ v.iu.giveLost = none) ∧ v.now = now ∧ v.lowerLimit = limit

theorem transmits_of_listening {now limit : Nat} {v : State} (h : Listening now limit v) : v.transmits = false := by
  obtain ⟨⟨port, -⟩, -⟩ := h
  simp [State.transmits, port]

/-- What the order down of an entry to LISTEN_ONLY makes of a drive without a claim (R19, R68). -/
def SilencedFrom (due : Nat) (d x : Drive) : Prop :=
  x.claimStage = d.claimStage ∧ x.outstanding = d.outstanding ∧ x.raiseRequest = d.raiseRequest ∧
    (d.state = .raising ∨ d.state = .up →
      x.target = .vent ∧ x.valve ≠ .fill ∧ (d.housed = false → x.state = .lowering ∧ x.lowerTimer = some due) ∧
      (d.housed = true → x.state = .down ∨ x.state = .blocked)) ∧
    (d.state ≠ .raising → d.state ≠ .up → x.state = d.state)

theorem requestAfter_listenOnly (d : Drive) : requestAfter d .listenOnly = d := by
  simp [requestAfter, DownCause.clears]

theorem orderDown_listening {now limit : Nat} (p : Pan) (v : State) (h : Listening now limit v) :
    Listening now limit (v.orderDown p .listenOnly) := by
  have port := rlp_orderDown_of_silent v p .listenOnly (transmits_of_listening h) (.inl rfl)
  have kept := aside_orderDown v p .listenOnly
  have give : (v.orderDown p .listenOnly).iu.giveLost = v.iu.giveLost :=
    congrArg (fun i => i.giveLost) (iuBeside_orderDown v p .listenOnly)
  unfold Listening State.lowerLimit at *
  rwa [port, aside_sc kept, aside_cu kept, aside_now kept, give]

theorem orderDown_silencedFrom {now limit : Nat} (p : Pan) (v : State) (h : Listening now limit v) :
    SilencedFrom (now + limit) (v.drive p) ((v.orderDown p .listenOnly).drive p) := by
  have outstanding := orderDown_outstanding_of_silent v p .listenOnly (transmits_of_listening h) (.inl rfl)
  have request := orderDown_raiseRequest v p .listenOnly
  rw [requestAfter_listenOnly] at request
  obtain ⟨-, rfl, rfl⟩ := h
  by_cases raised : (v.drive p).state = .raising ∨ (v.drive p).state = .up
  · have lowered := orderDown_of_raised v p .listenOnly raised
    rw [requestAfter_listenOnly] at lowered
    refine ⟨lowered.claimStage, outstanding, request, fun _ => ⟨lowered.target, lowered.valve, lowered.unhoused, fun housed =>
      (lowered.housed housed).1⟩, fun h1 h2 => absurd raised (not_or.mpr ⟨h1, h2⟩)⟩
  · obtain ⟨h1, h2⟩ := not_or.mp raised
    have rest := orderDown_of_rest v p .listenOnly h1 h2 fun _ => .inl rfl
    refine ⟨?_, outstanding, request, fun h => absurd h raised, fun _ _ => orderDown_state_of_rest v p .listenOnly h1 h2⟩
    rw [rest, drive_mapPd]
    rfl

/-- The state of an entry to LISTEN_ONLY before its drives are ordered down. -/
def fallsSilent (s : State) : State :=
  let a := s.unpropose.emptyQueue.mapRlp fun r => { r with port := .listenOnly, attempt := none, presenceTimer := none, settleTimer := none }
  let lost := (s.iu.scraper.pan.filter fun p => s.iu.scraper.phase = .claiming && (s.drive p).claimStage != .idle)
  let b := a.eachFitted fun p t => t.mapPd p Drive.silenced
  let c := match lost with
    | some p => b.scraperLosesClaim p
    | none => b
  ((c.mapCu fun u => { u with lost := none }).mapIu fun i => { i with giveLost := none }).mapSc fun x => { x with leaving := none }

theorem enterListenOnly_eq (s : State) : s.enterListenOnly = (fallsSilent s).orderAllDown .listenOnly := rfl

/-- Queue and slot are emptied, and nothing of the base with them. -/
theorem emptyQueue_spec (s : State) :
    s.emptyQueue.rlp = { s.rlp with queue := [], slot := none } ∧ s.emptyQueue.base = s.base ∧ s.emptyQueue.pd = s.pd ∧
      s.emptyQueue.sc = s.sc ∧ s.emptyQueue.now = s.now := by
  unfold State.emptyQueue
  dsimp only
  split <;> exact ⟨rfl, rfl, rfl, rfl, rfl⟩

theorem rlp_scraperLosesClaim (s : State) (p : Pan) : (s.scraperLosesClaim p).rlp = s.rlp := by
  unfold State.scraperLosesClaim
  split <;> rfl

theorem eachFitted_mapPd_rest (s : State) (f : Drive → Drive) :
    (s.eachFitted fun p t => t.mapPd p f).rlp = s.rlp ∧ aside (s.eachFitted fun p t => t.mapPd p f) = aside s := by
  unfold State.eachFitted
  dsimp only
  split <;> split <;> exact ⟨rfl, rfl⟩

theorem drive_eachFitted_mapPd (s : State) (f : Drive → Drive) {p : Pan} (fitted : s.fitted p = true) :
    (s.eachFitted fun p t => t.mapPd p f).drive p = f (s.drive p) :=
  (eachFitted_drive (I := fun _ => True) (R := fun d x => x = f d) (fun p t => t.mapPd p f) (fun _ _ _ => trivial)
    (fun _ _ _ => rfl) (fun _ _ _ => drive_mapPd _ _ _) (fun _ _ _ h => drive_mapPd_ne _ _ h) s trivial).2 p fitted

/-- The drives silenced, with the port in LISTEN_ONLY. -/
def silencedDrives (s : State) : State :=
  (s.unpropose.emptyQueue.mapRlp fun r =>
    { r with port := .listenOnly, attempt := none, presenceTimer := none, settleTimer := none }).eachFitted fun p t =>
      t.mapPd p Drive.silenced

theorem silencedDrives_spec (s : State) :
    (silencedDrives s).rlp = { s.rlp with
      queue := [], slot := none, port := .listenOnly, attempt := none, presenceTimer := none, settleTimer := none } ∧
    (silencedDrives s).sc = s.sc ∧ (silencedDrives s).now = s.now ∧
    ∀ p, s.fitted p = true → (silencedDrives s).drive p = (s.drive p).silenced := by
  obtain ⟨port, -, drives, config, moment⟩ := emptyQueue_spec s.unpropose
  obtain ⟨rlp, kept⟩ := eachFitted_mapPd_rest (s.unpropose.emptyQueue.mapRlp fun r =>
    { r with port := .listenOnly, attempt := none, presenceTimer := none, settleTimer := none }) Drive.silenced
  refine ⟨?_, (aside_sc kept).trans config, (aside_now kept).trans moment, fun p fitted => ?_⟩
  · rw [silencedDrives, rlp, mapRlp_rlp, port]
    rfl
  · rw [silencedDrives, drive_eachFitted_mapPd _ _ ((fitted_of_config (by rw [mapRlp_sc, config]; rfl) p).trans fitted),
      drive_mapRlp, drive_of_pd drives]
    rfl

/-- What is left of a state with its drives silenced once the lost notices and a pending LEAVE are forgotten. -/
theorem forgotten_listening (s c : State) (port : c.rlp = (silencedDrives s).rlp) (kept : aside c = aside (silencedDrives s))
    (drives : ∀ p, c.drive p = (silencedDrives s).drive p) :
    let v := ((c.mapCu fun u => { u with lost := none }).mapIu fun i => { i with giveLost := none }).mapSc fun x =>
      { x with leaving := none }
    Listening s.now s.lowerLimit v ∧ v.sc.config = s.sc.config ∧
      ∀ p, s.fitted p = true → v.drive p = (s.drive p).silenced := by
  obtain ⟨rlp, sc, now, drive⟩ := silencedDrives_spec s
  have config : c.sc = s.sc := (aside_sc kept).trans sc
  have rlp := port.trans rlp
  intro v
  refine ⟨⟨⟨?_, ?_, ?_, ?_, rfl, rfl, rfl⟩, (aside_now kept).trans now, ?_⟩, ?_, fun p fitted => (drives p).trans (drive p fitted)⟩
  · exact congrArg (fun r => r.port) rlp
  · exact congrArg (fun r => r.queue) rlp
  · exact congrArg (fun r => r.slot) rlp
  · exact congrArg (fun r => r.attempt) rlp
  · exact congrArg (fun x => x.config.item1 39 * 1000000) config
  · exact congrArg (fun x => x.config) config

theorem fallsSilent_listening (s : State) :
    Listening s.now s.lowerLimit (fallsSilent s) ∧ (fallsSilent s).sc.config = s.sc.config ∧
      ∀ p, s.fitted p = true → (fallsSilent s).drive p = (s.drive p).silenced := by
  unfold fallsSilent
  dsimp only
  split
  · exact forgotten_listening s _ (rlp_scraperLosesClaim _ _) (aside_scraperLosesClaim _ _) (drive_scraperLosesClaim _ _)
  · exact forgotten_listening s _ rfl rfl fun _ => rfl

/-- The entry to LISTEN_ONLY (R19). -/
theorem enterListenOnly_silencedAs (s : State) : s.silencedAs s.enterListenOnly ∧ s.enterListenOnly.now = s.now := by
  obtain ⟨listening, config, drive⟩ := fallsSilent_listening s
  obtain ⟨stays, each⟩ := eachFitted_drive (I := Listening s.now s.lowerLimit) (R := SilencedFrom (s.now + s.lowerLimit))
    (fun p t => t.orderDown p .listenOnly) orderDown_listening (fun p t q => aside_fitted (aside_orderDown t p .listenOnly) q)
    orderDown_silencedFrom (fun _ _ _ h => drive_orderDown_ne _ _ h) (fallsSilent s) listening
  rw [enterListenOnly_eq, State.orderAllDown]
  obtain ⟨port, now, -⟩ := stays
  refine ⟨⟨port, fun p fitted => ?_⟩, now⟩
  have silenced := each p ((fitted_of_config config p).trans fitted)
  rw [drive p fitted] at silenced
  obtain ⟨stage, outstanding, request, raised, rest⟩ := silenced
  refine ⟨stage, outstanding, request, fun h => ?_, rest⟩
  rw [now]
  exact raised h

/-- The base at an entry to LISTEN_ONLY. -/
theorem base_enterListenOnly (s : State) : s.enterListenOnly.base =
    { s.base with port := .listenOnly, presenceTimer := none, settleTimer := none } := by
  obtain ⟨-, base, -⟩ := emptyQueue_spec s.unpropose
  have unproposed : s.unpropose.base = s.base := base_mapSq _ _ fun _ => ⟨by simp, rfl⟩
  rw [unproposed] at base
  have silent (t : State) : (t.mapRlp fun r =>
      { r with port := .listenOnly, attempt := none, presenceTimer := none, settleTimer := none }).base =
      { t.base with port := .listenOnly, presenceTimer := none, settleTimer := none } := rfl
  have silenced (t : State) (p : Pan) : (t.mapPd p Drive.silenced).base = t.base := base_mapPd t p _ fun _ => ⟨rfl, rfl⟩
  rw [enterListenOnly_eq, base_orderAllDown, fallsSilent]
  dsimp only
  split <;> simp [base_eachFitted, silenced, silent, base]

end Sys2Proof.Proofs
end

section
/-! SUPPORT. Collisions (R6, R7) and the frames that are not delivered (R4, R8, R9). -/

namespace Sys2Proof.Proofs

open Sys2Proof Sys2Proof.Machine Sys2Proof.Laws

/-! ## The entry to LISTEN_ONLY from a state with the same drives -/

theorem silencedAs_of_same {s w v : State} (h : w.silencedAs v) (fitted : ∀ p, w.fitted p = s.fitted p)
    (limit : w.lowerLimit = s.lowerLimit)
    (drives : ∀ p, (w.drive p).state = (s.drive p).state ∧ (w.drive p).housed = (s.drive p).housed ∧
      (w.drive p).raiseRequest = (s.drive p).raiseRequest) : s.silencedAs v := by
  obtain ⟨port, each⟩ := h
  refine ⟨port, fun p hp => ?_⟩
  obtain ⟨state, housed, request⟩ := drives p
  have := each p ((fitted p).trans hp)
  rwa [state, housed, request, limit] at this

theorem faultSet_enterListenOnly (s : State) (k : FaultKind) (h : s.faultSet k = true) : s.enterListenOnly.faultSet k = true :=
  (keeps_enterListenOnly s (closed_grown s) (grown_refl s)).2.2 k h

/-- A claim that is over leaves the drive's state, indication and request. -/
theorem claimOver_same (s : State) (q p : Pan) :
    ((s.mapPd q Drive.claimOver).drive p).state = (s.drive p).state ∧
      ((s.mapPd q Drive.claimOver).drive p).housed = (s.drive p).housed ∧
      ((s.mapPd q Drive.claimOver).drive p).raiseRequest = (s.drive p).raiseRequest := by
  by_cases same : p = q
  · subst same
    rw [drive_mapPd]
    exact ⟨rfl, rfl, rfl⟩
  · rw [drive_mapPd_ne s _ same]
    exact ⟨rfl, rfl, rfl⟩

/-! ## Collisions (R6, R7) -/

/-- The line jammed, the notice kept unless withdrawn, the count raised (R6, R15). -/
def jammed (s : State) : State := s.mapRlp fun r => r.collide s.now

/-- A collision jams the line; only a CLAIM withdrawn in its attempt changes a drive; at the eighth the port falls silent. -/
theorem collide_cases (s : State) (a : Attempt) :
    ∃ u, (u = jammed s ∨ s.attemptWithdrawn = true ∧ ∃ p, u = (jammed s).mapPd p Drive.claimOver) ∧
      s.collide a = if 8 ≤ u.rlp.collisions then u.tooManyCollisions else u := by
  refine ⟨_, ?_, rfl⟩
  split
  · split
    · split
      next p _ withdrawn => exact .inr ⟨by simp_all, p, rfl⟩
      next => exact .inl rfl
    · exact .inl rfl
  · exact .inl rfl

theorem base_claimOver_jammed {s u : State} (h : u = jammed s ∨ s.attemptWithdrawn = true ∧ ∃ p, u = (jammed s).mapPd p Drive.claimOver) :
    u.base = (jammed s).base ∧ u.rlp = (jammed s).rlp ∧ u.sc = s.sc ∧ u.now = s.now ∧
      ∀ p, (u.drive p).state = (s.drive p).state ∧ (u.drive p).housed = (s.drive p).housed ∧
        (u.drive p).raiseRequest = (s.drive p).raiseRequest := by
  obtain rfl | ⟨-, q, rfl⟩ := h
  · exact ⟨rfl, rfl, rfl, rfl, fun p => ⟨rfl, rfl, rfl⟩⟩
  · exact ⟨base_claimOver _ _, rfl, rfl, rfl, fun p => claimOver_same (jammed s) q p⟩

theorem base_tooManyCollisions (s : State) : s.tooManyCollisions.base =
    { s.base with port := .listenOnly, presenceTimer := none, settleTimer := none } := by
  rw [State.tooManyCollisions, base_enterListenOnly, base_raiseLocalFault]

theorem tooManyCollisions_silencedAs (s : State) : s.silencedAs s.tooManyCollisions ∧ s.tooManyCollisions.now = s.now :=
  enterListenOnly_silencedAs (s.raiseLocalFault .busCollisions .bare)

theorem exec_collision (t : Moment) {s : State} {a : Attempt} (attempt : s.rlp.attempt = some a) :
    exec (.collision t) s = .next ((s.advance t).collide a).settle := by
  refine congrArg Host.Outcome.next ?_
  rw [attempt]

/-- Settles O16: the seven collisions that leave the port as it is, and the eighth. -/
theorem collisionsAreCountedUpToTheEighth : Obligations.CollisionsAreCountedUpToTheEighth := by
  refine ⟨?_, ?_, ?_⟩
  · intro t s a attempt few now v
    obtain ⟨u, cases, collides⟩ := collide_cases (s.advance t) a
    obtain ⟨base, port, -⟩ := base_claimOver_jammed cases
    have below : ¬ 8 ≤ u.rlp.collisions := by rw [port]; exact Nat.not_le.mpr few
    rw [if_neg below] at collides
    refine ⟨fun kept => ?_, _, exec_collision t attempt, ?_⟩
    · obtain rfl | ⟨withdrawn, -⟩ := cases
      · rw [exec_collision t attempt, collides]
        rfl
      · exact absurd (show s.attemptWithdrawn = true from withdrawn) (by simp [kept])
    · rw [settle_base, collides, base]
      rfl
  · intro t s a attempt many
    obtain ⟨u, cases, collides⟩ := collide_cases (s.advance t) a
    obtain ⟨base, port, -⟩ := base_claimOver_jammed cases
    rw [if_pos (by rw [port]; exact many)] at collides
    refine ⟨_, exec_collision t attempt, ?_, ?_⟩
    · rw [collides]
      exact settle_faultSet _ _ (faultSet_enterListenOnly _ _ (faultSet_raiseLocalFault _ _ _))
    · rw [settle_base, collides, base_tooManyCollisions, base]
      rfl
  · intro t s a attempt many
    obtain ⟨u, cases, collides⟩ := collide_cases (s.advance t) a
    obtain ⟨-, port, config, now, drives⟩ := base_claimOver_jammed cases
    rw [if_pos (by rw [port]; exact many)] at collides
    obtain ⟨silenced, moment⟩ := tooManyCollisions_silencedAs u
    refine ⟨u.tooManyCollisions, by rw [exec_collision t attempt, collides], moment.trans now, ?_⟩
    exact silencedAs_of_same silenced (fitted_of_config (by rw [config]; rfl))
      (congrArg (fun x : Sc => x.config.item1 39 * 1000000) config) drives

/-! ## Frames that are not delivered (R4, R8, R9) -/

theorem exec_frameReceived (t : Moment) (bytes : List Byte) {s : State} {f : Frame} (free : s.rlp.attempt = none)
    (valid : readFrame bytes = some f) :
    exec (.frameReceived t bytes true) s = .next ((s.advance t).frameEnds.takeFrame f).settle := by
  have read : validFrame bytes true = some f := valid
  refine congrArg Host.Outcome.next ?_
  rw [if_neg (by simp [free]), read]

theorem takeFrame_own (s : State) {f : Frame} (own : f.origin = s.own) (port : s.rlp.port ≠ .offline) :
    s.takeFrame f = s.duplicateStation := by
  simp [State.takeFrame, own, port]

theorem takeFrame_offline (s : State) (f : Frame) (port : s.rlp.port = .offline) :
    s.takeFrame f = if f.origin = s.own then s else s.mapRlp fun r => { r with recentSender := false } := by
  simp [State.takeFrame, port]

theorem faultSet_duplicateStation (s : State) : s.duplicateStation.faultSet .duplicateStation = true := by
  have set := faultSet_raiseLocalFault s .duplicateStation .bare
  unfold State.duplicateStation
  dsimp only
  split
  · exact faultSet_enterListenOnly _ _ set
  · exact set

/-- A second station with the own number puts a port that transmits in LISTEN_ONLY, and leaves one that listens (R9, R19). -/
theorem base_duplicateStation (s : State) (port : s.rlp.port ≠ .offline) : s.duplicateStation.base =
    { s.base with
      port := .listenOnly
      presenceTimer := if s.rlp.port = .listenOnly then s.rlp.presenceTimer else none
      settleTimer := if s.rlp.port = .listenOnly then s.rlp.settleTimer else none } := by
  unfold State.duplicateStation
  dsimp only
  cases h : s.rlp.port with
  | offline => exact absurd h port
  | joining | online =>
    rw [if_pos (by simp [State.transmits, h]), base_enterListenOnly, base_raiseLocalFault, if_neg (by simp), if_neg (by simp)]
  | listenOnly =>
    rw [if_neg (by simp [State.transmits, h]), base_raiseLocalFault, if_pos rfl, if_pos rfl]
    simp only [State.base, h]

/-- Settles O18: what a frame that is not delivered leaves. -/
theorem otherFramesAreNotDelivered : Obligations.OtherFramesAreNotDelivered := by
  refine ⟨?_, ?_, ?_⟩
  · intro t bytes valid s line lastEnd
    refine ⟨fun busy => ?_, fun free discarded => ?_, fun f free valid frame port => ?_⟩
    · refine congrArg Host.Outcome.next ?_
      rw [if_pos (Option.isSome_iff_ne_none.mpr busy)]
      rfl
    · have read : validFrame bytes valid = none := by
        obtain rfl | unread := discarded
        · rfl
        · simp [validFrame, unread]
      have runs : exec (.frameReceived t bytes valid) s = .next (s.advance t).frameEnds.refreshDeference := by
        refine congrArg Host.Outcome.next ?_
        rw [if_neg (by simp [free]), read]
      exact ⟨_, runs, rfl⟩
    · subst valid
      refine ⟨_, exec_frameReceived t bytes free frame, ?_⟩
      rw [settle_base, takeFrame_offline (s.advance t).frameEnds f port]
      change (ite (f.origin = s.own) _ _ : State).base = _
      by_cases own : f.origin = s.own
      · rw [if_pos own, if_pos own]
        rfl
      · rw [if_neg own, if_neg own]
        rfl
  · intro t bytes s f free frame own port line lastEnd
    have duplicate : (s.advance t).frameEnds.takeFrame f = (s.advance t).frameEnds.duplicateStation := takeFrame_own _ own port
    refine ⟨_, exec_frameReceived t bytes free frame, ?_, ?_⟩
    · rw [duplicate]
      exact settle_faultSet _ _ (faultSet_duplicateStation _)
    · rw [settle_base, duplicate, base_duplicateStation (s.advance t).frameEnds port]
      rfl
  · intro t bytes s f free frame own port
    have transmits : (s.advance t).frameEnds.transmits = true := by
      change s.transmits = true
      simpa [State.transmits] using port
    have offline : s.rlp.port ≠ .offline := by
      obtain h | h := port <;> simp [h]
    have duplicate : (s.advance t).frameEnds.takeFrame f =
        ((s.advance t).frameEnds.raiseLocalFault .duplicateStation .bare).enterListenOnly :=
      (takeFrame_own (s.advance t).frameEnds own offline).trans (if_pos transmits)
    refine ⟨_, exec_frameReceived t bytes free frame, ?_⟩
    rw [duplicate]
    obtain ⟨silenced, moment⟩ := enterListenOnly_silencedAs ((s.advance t).frameEnds.raiseLocalFault .duplicateStation .bare)
    exact ⟨moment, silenced⟩

end Sys2Proof.Proofs
end

section
/-! SUPPORT. Commands without an occasion: a stopped timer, an attempt that is not there, an unfitted pantograph, a level a
pin already shows. Each lets time pass to its moment and does nothing else. -/

namespace Sys2Proof.Proofs

open Sys2Proof Sys2Proof.Machine Sys2Proof.Laws

variable (s : State) (t : Moment) (p : Pan) (tm : Timer) (k : Moment → State → State)

/-- A stopped timer does not expire. -/
theorem expire_of_stopped (h : tm = none) : s.expire tm t k = s.advance t := by
  subst h; rfl

/-- A timer of a drive that is unfitted, or that is stopped, does not expire. -/
theorem driveExpiry_of_idle (tm : Drive → Timer) (h : s.fitted p = false ∨ tm (s.drive p) = none) :
    s.driveExpiry p tm t k = s.advance t := by
  unfold State.driveExpiry
  split
  case isTrue hf =>
    have hn : tm (s.drive p) = none := h.resolve_left (by simp [hf])
    exact expire_of_stopped s t _ k hn
  case isFalse => rfl

/-- A pulse that is not running has no end. -/
theorem pulseEnd_of_not_running (d : Drive) (h : ∀ due, d.pulse ≠ .running due) : d.pulseEnd = none := by
  unfold Drive.pulseEnd
  split
  case h_1 due hd => exact absurd hd (h due)
  case h_2 => rfl

/-- A command that answers with the advance of time alone. -/
theorem next_advance {u : State} (h : u = s.advance t) :
    (.next u : Result) = .next { s with now := max s.now t } := congrArg Host.Outcome.next h

/-- The expiry of a stopped timer. -/
theorem next_expire_of_stopped (h : tm = none) :
    (.next (s.expire tm t k) : Result) = .next { s with now := max s.now t } :=
  next_advance s t (expire_of_stopped s t tm k h)

/-- The expiry of a timer of a drive that is unfitted, or that is stopped. -/
theorem next_driveExpiry_of_idle (tm : Drive → Timer) (h : s.fitted p = false ∨ tm (s.drive p) = none) :
    (.next (s.driveExpiry p tm t k) : Result) = .next { s with now := max s.now t } :=
  next_advance s t (driveExpiry_of_idle s t p k tm h)

/-- What an unfitted pantograph's command does. -/
theorem next_of_unfitted {c : Bool} {u : State} (h : c = false) :
    (.next (if c then u else s.advance t) : Result) = .next { s with now := max s.now t } := by
  subst h; rfl

/-- No transmission is attempted without a deference point, without a notice, in an attempt or on a busy line. -/
theorem attempt_of_idle
    (h : s.rlp.deference = none ∨ s.offeredNotice = none ∨ s.rlp.attempt ≠ none ∨ s.rlp.line = .busy) :
    s.attempt t = s.advance t := by
  unfold State.attempt
  split
  case h_2 => rfl
  case h_1 d fromSlot n hd hn =>
    have hb : (s.rlp.attempt.isSome || s.rlp.line = .busy) = true := by
      rcases h with h | h | h | h
      · simp [hd] at h
      · simp [hn] at h
      · simp [Option.isSome_iff_ne_none, h]
      · simp [h]
    rw [if_pos hb]

/-- The housed input of an unfitted pantograph, or of a housed one that shows it. -/
theorem exec_housing_of_idle (since : Moment)
    (h : s.fitted p = false ∨ (s.pins.get (.housed p)).level = true ∧ (s.drive p).housed = true) :
    exec (.housing ⟨since, t⟩ p) s = .next { s with now := max s.now t } := by
  refine next_advance s t ?_
  split
  case isFalse => rfl
  case isTrue hf =>
    obtain ⟨hl, hh⟩ := h.resolve_left (by simp [hf])
    have hfl : s.filtered (.housed p) = true := hh
    simpa only [hfl] using filter_same s (.housed p) since t (fun _ u => (u.housing p).settle) (by rw [hl, hfl])

/-- A pulse input that is high already. -/
theorem exec_axlePulse_of_high (since : Moment) (hl : (s.pins.get .odo).level = true) (hh : s.mu.odo.level = true) :
    exec (.axlePulse ⟨since, t⟩ true) s = .next { s with now := max s.now t } := by
  have hfl : s.filtered .odo = true := hh
  refine next_advance s t ?_
  simpa only [hfl] using filter_same s .odo since t (fun d u => u.odoEdge (u.levelAt d .odo)) (by rw [hl, hfl])

/-- Settles O2. -/
theorem emptyQueueAndIdleCommandsPassTime : Obligations.EmptyQueueAndIdleCommandsPassTime := by
  refine ⟨fun s h => by simp [step, h, State.tick], fun t s p => ⟨⟨?_, ?_, fun n => ?_, fun n => ?_, ?_, ?_⟩,
    ⟨?_, ?_, ?_, ?_, ?_, fun h since => ?_, ?_, ?_⟩, ⟨fun ch => ?_, fun hl hh since => ?_, ?_, ?_, ?_, ?_, ?_⟩,
    ⟨?_, ?_, ?_, ?_, ?_, ?_, fun thermal h => ?_, fun h => ⟨?_, ?_⟩⟩⟩⟩
  -- the roof line and the roster
  · exact next_expire_of_stopped s t _ _
  · exact next_expire_of_stopped s t _ _
  · exact next_expire_of_stopped s t _ _
  · exact next_expire_of_stopped s t _ _
  · refine fun h => ⟨next_advance s t ?_, next_advance s t ?_⟩ <;> simp only [h]
  · exact fun h => next_advance s t (attempt_of_idle s t h)
  -- the drives
  · exact next_driveExpiry_of_idle s t p _ _
  · exact fun h => next_driveExpiry_of_idle s t p _ _ (h.imp_right (pulseEnd_of_not_running _))
  · exact next_driveExpiry_of_idle s t p _ _
  · exact next_driveExpiry_of_idle s t p _ _
  · exact next_driveExpiry_of_idle s t p _ _
  · exact exec_housing_of_idle s t p since h
  · exact next_of_unfitted s t
  · exact fun h => next_advance s t (if_pos h)
  -- the measurement and the switchgear
  · exact next_expire_of_stopped s t _ _
  · exact exec_axlePulse_of_high s t since hl hh
  · exact next_expire_of_stopped s t _ _
  · exact next_expire_of_stopped s t _ _
  · exact next_expire_of_stopped s t _ _
  · exact next_expire_of_stopped s t _ _
  · exact next_expire_of_stopped s t _ _
  -- the changeover and the ice unit
  · exact next_expire_of_stopped s t _ _
  · exact next_expire_of_stopped s t _ _
  · exact next_expire_of_stopped s t _ _
  · exact next_expire_of_stopped s t _ _
  · exact next_expire_of_stopped s t _ _
  · exact next_expire_of_stopped s t _ _
  · rcases h with h | h
    · exact next_of_unfitted s t h
    · refine next_advance s t ?_
      rw [expire_of_stopped s t _ _ h, ite_self]
  · exact next_of_unfitted s t h
  · exact next_of_unfitted s t (by simp [h])

end Sys2Proof.Proofs
end

section
/-! SUPPORT. The capturing channels (R77 to R83): edges, overflows, silence and takes. -/

namespace Sys2Proof.Proofs

open Sys2Proof Sys2Proof.Machine Sys2Proof.Laws

/-! ## One pin whose acceptance is one change of the state -/

variable (s : State) (x : InputPin) (b : Bool) (since t : Moment) (edge : Moment → State → State)

/-- A level the pin's unit holds already: only time passes. -/
theorem next_filter_same (pin : (s.pins.get x).level = s.filtered x) (level : s.filtered x = b) :
    (.next (s.filter [(x, b)] since t edge) : Result) = .next { s with now := max s.now t } := by
  subst level
  exact next_advance s t (filter_same s x since t edge pin)

/-- A change not yet held for its filter time stands at the pin alone. -/
theorem next_filter_waits (pin : (s.pins.get x).level = s.filtered x) (level : s.filtered x ≠ b)
    (early : t < since + filterTime x) :
    (.next (s.filter [(x, b)] since t edge) : Result) =
      .next { s with now := max s.now t, pins := s.pins.set x ⟨b, since⟩ } :=
  congrArg Host.Outcome.next (filter_waits s x b since t edge pin level.symm early)

/-- The state in which a held change is accepted. -/
def accepting (s : State) (x : InputPin) (b : Bool) (since : Moment) : State :=
  { s with now := max s.now (since + filterTime x), pins := s.pins.set x ⟨b, since⟩ }

theorem accepting_levelAt (level : s.filtered x ≠ b) : (accepting s x b since).levelAt (since + filterTime x) x = b :=
  levelAt_taken s x b since (since + filterTime x) level.symm

/-- A change held for its filter time is accepted then. -/
theorem filter_accepting (pin : (s.pins.get x).level = s.filtered x) (level : s.filtered x ≠ b)
    (held : since + filterTime x ≤ t) :
    s.filter [(x, b)] since t edge = (edge (since + filterTime x) (accepting s x b since)).advance t :=
  filter_accepts s x b since t edge pin level.symm held

/-- What the acceptance leaves when it changes the measurement unit alone. -/
theorem advance_accepting_mu (m : Mu) (held : since + filterTime x ≤ t) :
    ({ accepting s x b since with mu := m } : State).advance t =
      { s with now := max s.now t, pins := s.pins.set x ⟨b, since⟩, mu := m } := by
  have later : max (max s.now (since + filterTime x)) t = max s.now t := max_due held
  simp only [State.advance, accepting, later]

/-! ## The pulse-interval channels -/

theorem filtered_pulsePin (ch : PulseChan) : s.filtered (pulsePin ch) = (s.mu.pulse ch).cap.level := by
  cases ch <;> rfl

theorem filterTime_pulsePin (ch : PulseChan) : filterTime (pulsePin ch) = 2 := by cases ch <;> rfl

theorem setPulse_pulse (m : Mu) (ch : PulseChan) : m.setPulse ch (m.pulse ch) = m := by
  cases ch <;> rfl

/-- A falling edge: the level, the signal and the no-signal timer. -/
theorem pulseEdge_low (ch : PulseChan) (c : PulseChannel) (other : c.cap.level ≠ false) :
    s.pulseEdge ch false c = ⟨c.cap.edge false s.now, c.measurement⟩ := by
  simp [State.pulseEdge, other]

/-- A rising edge is then the measurement's. -/
theorem pulseEdge_high (ch : PulseChan) (c : PulseChannel) (other : c.cap.level ≠ true) :
    s.pulseEdge ch true c = s.pulseRise ch ⟨c.cap.edge true s.now, c.measurement⟩ := by
  simp [State.pulseEdge, other]

theorem pulseRise_opens (ch : PulseChan) (c : CaptureRecord) :
    s.pulseRise ch ⟨c, none⟩ = ⟨c.restart s.now, some ⟨s.now, 0⟩⟩ := rfl

theorem pulseRise_counts (ch : PulseChan) (c : CaptureRecord) (m : Measurement) (other : m.periods ≠ 7) :
    s.pulseRise ch ⟨c, some m⟩ = ⟨c, some ⟨m.opened, m.periods + 1⟩⟩ := if_neg other

theorem pulseRise_closes (ch : PulseChan) (c : CaptureRecord) (m : Measurement) (seven : m.periods = 7) :
    s.pulseRise ch ⟨c, some m⟩ =
      ⟨(c.offer (s.pulseCapture ch (s.now - m.opened))).restart s.now, some ⟨s.now, 0⟩⟩ := if_pos seven

/-- The acceptance of an edge of a pulse-interval channel. -/
theorem exec_pulseIntervalEdge (ch : PulseChan) (pin : (s.pins.get (pulsePin ch)).level = (s.mu.pulse ch).cap.level)
    (level : (s.mu.pulse ch).cap.level ≠ b) (held : since + 2 ≤ t) :
    exec (.pulseIntervalEdge ⟨since, t⟩ ch b) s = .next { s with
      now := max s.now t, pins := s.pins.set (pulsePin ch) ⟨b, since⟩
      mu := s.mu.setPulse ch (State.pulseEdge { s with now := max s.now (since + 2) } ch b (s.mu.pulse ch)) } := by
  rw [← filtered_pulsePin] at pin level
  rw [← filterTime_pulsePin ch] at held
  refine congrArg Host.Outcome.next ((filter_accepting s _ b since t _ pin level held).trans ?_)
  rw [accepting_levelAt s _ b since level]
  refine (advance_accepting_mu s _ b since t _ held).trans ?_
  simp only [accepting, filterTime_pulsePin]
  rfl

theorem frequencyOf_pos (interval : Nat) (h : 0 < interval) : frequencyOf interval = 8000000 / interval :=
  if_neg (Nat.ne_of_gt h)

/-- Settles O33. -/
theorem pulseEdgeMeasuresThePeriods : Obligations.PulseEdgeMeasuresThePeriods := by
  refine ⟨frequencyOf_pos, fun t since ch level s => ?_⟩
  intro c pin edge e out
  have pin' : (s.pins.get (pulsePin ch)).level = s.filtered (pulsePin ch) := pin.trans (filtered_pulsePin s ch).symm
  refine ⟨fun same => ?_, fun other early => ?_, fun other held low => ?_, fun other held high => ⟨fun none => ?_, ?_, ?_⟩⟩
  · exact next_filter_same s _ level since t _ pin' ((filtered_pulsePin s ch).trans same)
  · refine (next_filter_waits s _ level since t _ pin' ?_ ?_).trans ?_
    · rwa [filtered_pulsePin]
    · rwa [filterTime_pulsePin]
    · simp only [out, c, setPulse_pulse]
  · subst low
    refine (exec_pulseIntervalEdge s false since t ch pin other held).trans ?_
    rw [pulseEdge_low _ _ _ other]
    rfl
  · subst high
    refine (exec_pulseIntervalEdge s true since t ch pin other held).trans ?_
    rw [pulseEdge_high _ _ _ other, none, pulseRise_opens]
    rfl
  · intro m running uncounted
    subst high
    refine (exec_pulseIntervalEdge s true since t ch pin other held).trans ?_
    rw [pulseEdge_high _ _ _ other, running, pulseRise_counts _ _ _ _ uncounted]
    rfl
  · intro m running seven
    subst high
    refine (exec_pulseIntervalEdge s true since t ch pin other held).trans ?_
    rw [pulseEdge_high _ _ _ other, running, pulseRise_closes _ _ _ _ seven]
    rfl

/-! ## The zero crossings -/

theorem zxEdge_first (c : ZxChannel) (now : Moment) (other : c.cap.level ≠ b) (first : c.previous = none) :
    c.edge b now = ⟨(c.cap.edge b now).restart now, some now⟩ := by
  simp [ZxChannel.edge, other, first]

theorem zxEdge_later (c : ZxChannel) (now m : Moment) (other : c.cap.level ≠ b) (later : c.previous = some m) :
    c.edge b now = ⟨((c.cap.edge b now).offer (zxCapture (now - m) b)).restart now, some now⟩ := by
  simp [ZxChannel.edge, other, later]

/-- The acceptance of an edge of ZX. -/
theorem exec_zeroCrossingEdge (pin : (s.pins.get .zx).level = s.mu.zx.cap.level) (level : s.mu.zx.cap.level ≠ b)
    (held : since + 20 ≤ t) :
    exec (.zeroCrossingEdge ⟨since, t⟩ b) s = .next { s with
      now := max s.now t, pins := s.pins.set .zx ⟨b, since⟩
      mu := { s.mu with zx := s.mu.zx.edge b (max s.now (since + 20)) } } := by
  refine congrArg Host.Outcome.next ((filter_accepting s .zx b since t _ pin level held).trans ?_)
  rw [accepting_levelAt s .zx b since level]
  exact advance_accepting_mu s .zx b since t _ held

/-- Settles O34. -/
theorem zeroCrossingEdgeCapturesTheHalf : Obligations.ZeroCrossingEdgeCapturesTheHalf := by
  intro t since level s c pin edge e out
  refine ⟨next_filter_same s .zx level since t _ pin, next_filter_waits s .zx level since t _ pin, fun other held first => ?_,
    fun m other held later => ?_⟩
  · refine (exec_zeroCrossingEdge s level since t pin other held).trans ?_
    rw [zxEdge_first level _ _ other first]
    rfl
  · refine (exec_zeroCrossingEdge s level since t pin other held).trans ?_
    rw [zxEdge_later level _ _ m other later]
    rfl

/-! ## Overflow and silence (R79, R81) -/

theorem captureOverflow_of_passing (ch : CaptureChan) (m : Moment) (running : (s.mu.cap ch).counterFrom = some m)
    (passes : (s.mu.cap ch).overflow < 2) :
    s.captureOverflow ch t = (s.advance (max t (m + 65536 * ((s.mu.cap ch).overflow + 1)))).mapMu fun x =>
      x.mapCap ch fun c => { c with overflow := (s.mu.cap ch).overflow + 1 } := by
  simp only [State.captureOverflow, running, if_neg (Nat.not_le.mpr passes)]

theorem captureOverflow_of_idle (ch : CaptureChan)
    (idle : (s.mu.cap ch).counterFrom = none ∨ 2 ≤ (s.mu.cap ch).overflow) : s.captureOverflow ch t = s.advance t := by
  unfold State.captureOverflow
  split
  case h_1 => rfl
  case h_2 m running => exact if_pos (idle.resolve_left (by simp [running]))

/-- A channel in silence: its record, and what is abandoned with it. -/
theorem silence_cap (m : Mu) (ch : CaptureChan) (now : Moment) : (m.silence ch now).cap ch = ((m.cap ch).stand now).quiet := by
  cases ch <;> rfl

theorem silence_cap_ne (m : Mu) (ch x : CaptureChan) (now : Moment) (other : x ≠ ch) :
    (m.silence ch now).cap x = m.cap x := by
  cases ch <;> cases x <;> trivial

theorem silence_beside (m : Mu) (ch : CaptureChan) (now : Moment) :
    (m.silence ch now).pos = m.pos ∧ (m.silence ch now).arc = m.arc ∧ (m.silence ch now).odo = m.odo := by
  cases ch <;> exact ⟨rfl, rfl, rfl⟩

/-- Settles O35. -/
theorem counterOverflowAndSilenceOfAChannel : Obligations.CounterOverflowAndSilenceOfAChannel := by
  intro t ch s c
  refine ⟨fun m running passes => ?_, fun idle => ?_, fun due running => ?_⟩
  · refine congrArg Host.Outcome.next ((captureOverflow_of_passing s t ch m running passes).trans ?_)
    cases ch <;> rfl
  · exact next_advance s t (captureOverflow_of_idle s t ch idle)
  · obtain ⟨pos, arc, odo⟩ := silence_beside s.mu ch (max s.now (max t due))
    refine ⟨(s.advance (max t due)).mapMu fun m => m.silence ch (max s.now (max t due)), ?_, rfl,
      silence_cap _ _ _, ?_, ?_, ?_, ?_, fun x => silence_cap_ne _ _ x _, pos, arc, odo⟩
    · refine congrArg Host.Outcome.next ?_
      rw [running]
      rfl
    all_goals
      rintro rfl
      rfl

end Sys2Proof.Proofs
end

section
/-! SUPPORT. CAPTURE_TAKE (R83, R93) and what a force reading makes of its drive (R63, R66, R67). -/

namespace Sys2Proof.Proofs

open Sys2Proof Sys2Proof.Machine Sys2Proof.Laws

/-! ## A regulation period and contact -/

/-- A regulation decision moves the valves alone (R52, R66). -/
theorem decide_eq (d : Drive) (v : Option Valve) (now dead : Nat) :
    ∃ x h w k y, d.decide v now dead = { d with target := x, heldDecision := h, valve := w, deadTimer := k, pulse := y } := by
  unfold Drive.decide
  split
  case h_1 => exact ⟨_, _, _, _, _, rfl⟩
  case h_2 =>
    obtain ⟨w, k, y, h⟩ := aim_eq d .closed now dead
    exact ⟨_, _, w, k, y, h⟩
  case h_3 v _ =>
    obtain ⟨w, k, y, h⟩ := serve_eq { d with target := v, pulse := .waiting, heldDecision := none } now dead
    exact ⟨_, _, w, k, y, h⟩

theorem shadowSetpoint_of_base {s t : State} (h : t.base = s.base) (r : Option Role) : t.shadowSetpoint r = s.shadowSetpoint r := by
  have config : t.sc.config = s.sc.config := congrArg Base.config h
  have band : t.ru.regime.band = s.ru.regime.band := congrArg Base.band h
  unfold State.shadowSetpoint State.scraperSetpoint State.probeSetpoint State.collectorSetpoint
  rw [config, band]

/-- A regulation period begun leaves the drive as it is but for the setpoint, the timer, the reading and the valves (R65). -/
theorem drive_beginPeriod (s : State) (p : Pan) (start : Moment) :
    ∃ x h w k y, (s.beginPeriod p start).drive p = { s.drive p with
      active := s.shadowSetpoint (s.drive p).role, shadow := s.shadowSetpoint (s.drive p).role
      regulationTimer := some (start + 50000), reading := none
      target := x, heldDecision := h, valve := w, deadTimer := k, pulse := y } := by
  rw [State.beginPeriod, drive_mapPd]
  exact decide_eq _ _ _ _

/-- The drive at contact, before its regulation period and its notice (R63). -/
def contacted (s : State) (p : Pan) (force : Nat) : State :=
  ((s.driveTo p .up none).mapPd p fun d =>
    { d.quiet with reading := some force, lowSince := if force < 20 then some s.now else none }).aim p .closed

theorem contact_eq (s : State) (p : Pan) (force : Nat) :
    s.contact p force = ((contacted s p force).beginPeriod p s.now).sendDrive p
      (.raised (panCode p) (((s.drive p).role.map roleCode).getD 0)) .raised := rfl

theorem rlp_contacted (s : State) (p : Pan) (force : Nat) : (contacted s p force).rlp = s.rlp := rlp_driveTo s p .up none

theorem base_contacted (s : State) (p : Pan) (force : Nat) : (contacted s p force).base = s.base := by
  simp [contacted, Drive.quiet]

/-- What contact leaves of a drive but for its valves and an outstanding notice (R63, R65). -/
structure UpFrom (s : State) (d e : Drive) : Prop where
  state : e.state = .up
  role : e.role = d.role
  raiseTimer : e.raiseTimer = none
  regulationTimer : e.regulationTimer = some (s.now + 50000)
  active : e.active = s.shadowSetpoint d.role
  contactSince : e.contactSince = none
  episode : e.episode = false

theorem contact_up (s : State) (p : Pan) (force : Nat) : UpFrom s (s.drive p) ((s.contact p force).drive p) := by
  rw [contact_eq]
  generalize hn : Notice.raised _ _ = n
  obtain ⟨o, sent⟩ := drive_sendDrive ((contacted s p force).beginPeriod p s.now) p n .raised
  obtain ⟨x, h, w, k, y, begun⟩ := drive_beginPeriod (contacted s p force) p s.now
  rw [sent, begun, shadowSetpoint_of_base (base_contacted s p force)]
  have drive : ∃ v k y, (contacted s p force).drive p = { (s.drive p).quiet with
      state := .up, blockCause := none, reading := some force, lowSince := if force < 20 then some s.now else none
      target := .closed, heldDecision := none, valve := v, deadTimer := k, pulse := y } := by
    rw [contacted, drive_aim, drive_mapPd, drive_driveTo]
    exact aim_eq _ _ _ _
  obtain ⟨v, k', y', drive⟩ := drive
  rw [drive]
  exact ⟨rfl, rfl, rfl, rfl, rfl, rfl, rfl⟩

/-- The RAISED at contact stands at the tail of a queue with room (R63). -/
theorem contact_queues (s : State) (p : Pan) (force : Nat) (r : Role) (admits : Admits s) (role : (s.drive p).role = some r) :
    (s.contact p force).rlp.queue = s.rlp.queue ++ [⟨.raised (panCode p) (roleCode r), false, false, false⟩] := by
  have rlp : ((contacted s p force).beginPeriod p s.now).rlp = s.rlp := rlp_contacted s p force
  rw [contact_eq, queue_sendDrive_of_admits _ p _ _ (admits_of_rlp rlp admits), rlp, role]
  rfl

/-! ## A valid reading, by the state of the drive -/

section
variable (s : State) (p : Pan) (force : Nat)

theorem validReading_raising (raising : (s.drive p).state = .raising) :
    s.validReading p force =
      if s.contactThreshold ≤ force then
        if (s.drive p).contactSince.getD s.now + 60000 ≤ s.now then s.contact p force
        else s.mapPd p fun d => { d with contactSince := some ((s.drive p).contactSince.getD s.now) }
      else s.mapPd p fun d => { d with contactSince := none } := by
  simp only [State.validReading, raising]

theorem validReading_up (up : (s.drive p).state = .up) :
    s.validReading p force =
      if force < 20 then
        if (s.drive p).lowSince.getD s.now + 100000 < s.now && !(s.drive p).episode then
          (((s.mapPd p fun d => { d with reading := some force, lowSince := some ((s.drive p).lowSince.getD s.now) }).mapPd p
            fun d => { d with episode := true }).raiseEvent (.contactLoss p)).mapIu fun i =>
              { i with tally := i.tally.set p (min 255 (i.tally.get p + 1)) }
        else s.mapPd p fun d => { d with reading := some force, lowSince := some ((s.drive p).lowSince.getD s.now) }
      else s.mapPd p fun d => { d with reading := some force, lowSince := none, episode := false } := by
  simp only [State.validReading, up]

theorem validReading_of_rest (raising : (s.drive p).state ≠ .raising) (up : (s.drive p).state ≠ .up) :
    s.validReading p force = s := by
  unfold State.validReading
  dsimp only
  split <;> simp_all

theorem mapPd_mapPd (f g : Drive → Drive) : (s.mapPd p f).mapPd p g = s.mapPd p fun d => g (f d) := by
  cases p <;> rfl

/-- A change of a drive that changes nothing. -/
theorem mapPd_of_same (f : Drive → Drive) (h : f (s.drive p) = s.drive p) : s.mapPd p f = s := by
  have : f (s.pd.get p) = s.pd.get p := h
  cases p <;> simp_all [State.mapPd, Pair.set, Pair.get]

end

/-! ## Takes -/

theorem exec_captureTake (t : Moment) (ch : CaptureChan) (s : State) (x : Capture) (fresh : (s.mu.cap ch).fresh = true)
    (capture : (s.mu.cap ch).capture = some x) :
    exec (.captureTake t ch) s = .next ((s.advance t).take ch x (s.mu.cap ch).overrun).settle := by
  change Host.Outcome.next _ = _
  rw [fresh, capture]

theorem exec_captureTake_of_stale (t : Moment) (ch : CaptureChan) (s : State) (stale : (s.mu.cap ch).fresh = false) :
    exec (.captureTake t ch) s = .next { s with now := max s.now t } := by
  change Host.Outcome.next _ = _
  rw [stale]
  rfl

/-- The base after a take that ends in the hand-offs. -/
theorem base_taken {c : Instr} {s v : State} {b : Base} (runs : exec c s = .next v.settle) (base : v.base = b) :
    ∃ u, exec c s = .next u ∧ u.base = b := ⟨_, runs, (settle_base v).trans base⟩

/-- An unfitted drive takes nothing. -/
theorem captureTake_of_unfitted (t : Moment) (ch : CaptureChan) (s : State)
    (unfitted : ∀ x o, (s.advance t).take ch x o = s.advance t) :
    ∃ u, exec (.captureTake t ch) s = .next u ∧ u.base = { s.base with now := max s.now t } := by
  change ∃ u, Host.Outcome.next _ = Host.Outcome.next u ∧ _
  split
  case h_1 x _ _ => exact ⟨_, rfl, by rw [settle_base, unfitted]; rfl⟩
  case h_2 => exact ⟨_, rfl, rfl⟩

/-- The overrun flag enters the accumulators with the capture (R93). -/
theorem takeZx_overrun (a : Accumulators) (o : Bool) :
    (if o then { a with zxOverrun := true } else a) = { a with zxOverrun := a.zxOverrun || o } := by
  cases o <;> simp

theorem takeZx_noSignal (a : Accumulators) (x : Capture) (o : Bool) (h : x.validity = .noSignal) :
    a.takeZx x o = { a with zxOverrun := a.zxOverrun || o } := by
  unfold Accumulators.takeZx
  rw [takeZx_overrun, h]

theorem takeZx_high (a : Accumulators) (n : Nat) (o : Bool) :
    a.takeZx (zxCapture n false) o =
      { a with zxOverrun := a.zxOverrun || o, highSum := a.highSum + n, highCount := a.highCount + 1 } := by
  simp only [Accumulators.takeZx, takeZx_overrun, zxCapture]

theorem takeZx_low (a : Accumulators) (n : Nat) (o : Bool) :
    a.takeZx (zxCapture n true) o =
      { a with zxOverrun := a.zxOverrun || o, lowSum := a.lowSum + n, lowCount := a.lowCount + 1 } := by
  simp only [Accumulators.takeZx, takeZx_overrun, zxCapture]

/-- A fitted drive takes its force capture. -/
theorem take_force (s : State) (p : Pan) (ch : CaptureChan) (x : Capture) (o : Bool)
    (of : ch = .frc0 ∧ p = .p0 ∨ ch = .frc1 ∧ p = .p1) (fitted : s.fitted p = true) :
    s.take ch x o = (s.clearTake ch).takeForce p x := by
  obtain ⟨rfl, rfl⟩ | ⟨rfl, rfl⟩ := of <;> exact if_pos fitted

theorem exec_captureTake_force (t : Moment) (s : State) (p : Pan) (ch : CaptureChan) (x : Capture)
    (of : ch = .frc0 ∧ p = .p0 ∨ ch = .frc1 ∧ p = .p1) (fitted : s.fitted p = true)
    (fresh : (s.mu.cap ch).fresh = true) (capture : (s.mu.cap ch).capture = some x) :
    exec (.captureTake t ch) s = .next (((s.advance t).clearTake ch).takeForce p x).settle := by
  rw [exec_captureTake t ch s x fresh capture, take_force (s.advance t) p ch x _ of fitted]

/-- Settles O36. -/
theorem takesClearTheFlagsAndFeedTheConsumer : Obligations.TakesClearTheFlagsAndFeedTheConsumer := by
  refine ⟨fun t s => ?_, fun s p x => ⟨fun force hv hq => takeForce_of_valid s p x hv hq, takeForce_of_not_valid s p x⟩,
    fun s p force => ?_⟩
  · refine ⟨fun x fresh capture => ?_, fun x fresh capture => ?_, fun x fitted fresh capture => ⟨?_, ?_⟩,
      fun x fitted fresh capture => ⟨?_, ?_⟩, fun ch => exec_captureTake_of_stale t ch s, fun unfitted => ?_, fun unfitted => ?_⟩
    · exact exec_captureTake t .lv s x fresh capture
    · refine ⟨_, exec_captureTake t .zx s x fresh capture, ?_, fun validity => ?_, ?_, ?_⟩
      · rw [settle_base]; rfl
      · rw [settle_acc]; exact takeZx_noSignal _ x _ validity
      · rintro n rfl
        rw [settle_acc]; exact takeZx_high _ n _
      · rintro n rfl
        rw [settle_acc]; exact takeZx_low _ n _
    · exact exec_captureTake_force t s .p0 .frc0 x (.inl ⟨rfl, rfl⟩) fitted fresh capture
    · exact base_taken (exec_captureTake_force t s .p0 .frc0 x (.inl ⟨rfl, rfl⟩) fitted fresh capture) (base_takeForce _ _ _)
    · exact exec_captureTake_force t s .p1 .frc1 x (.inr ⟨rfl, rfl⟩) fitted fresh capture
    · exact base_taken (exec_captureTake_force t s .p1 .frc1 x (.inr ⟨rfl, rfl⟩) fitted fresh capture) (base_takeForce _ _ _)
    · exact captureTake_of_unfitted t .frc0 s fun x o => if_neg (ne_true_of_eq_false unfitted)
    · exact captureTake_of_unfitted t .frc1 s fun x o => if_neg (ne_true_of_eq_false unfitted)
  · intro d u becomes
    refine ⟨rfl, fun raising below => ?_, fun raising above first => ?_, fun m raising above since early => ?_,
      fun m raising above since held => ?_, fun up high => ?_, fun up low held => ?_, fun m up low since late quiet => ?_,
      validReading_of_rest s p force⟩
    · refine (validReading_raising s p force raising).trans ?_
      rw [if_neg (Nat.not_le.mpr below)]
      rfl
    · refine (validReading_raising s p force raising).trans ?_
      rw [if_pos above, first]
      exact if_neg (by simp)
    · refine (validReading_raising s p force raising).trans ?_
      rw [if_pos above, since]
      refine (if_neg (Nat.not_le.mpr early)).trans (mapPd_of_same s p _ ?_)
      rw [Option.getD_some, ← since]
    · have contact : u = s.contact p force := by
        refine (validReading_raising s p force raising).trans ?_
        rw [if_pos above, since]
        exact if_pos held
      rw [contact]
      obtain ⟨state, role, raiseTimer, regulationTimer, active, contactSince, episode⟩ := contact_up s p force
      exact ⟨state, role, raiseTimer, regulationTimer, active, contactSince, episode, base_contact s p force,
        fun transmits vented room r role => contact_queues s p force r ⟨transmits, vented, room⟩ role⟩
    · refine (validReading_up s p force up).trans ?_
      rw [if_neg (Nat.not_lt.mpr high)]
      rfl
    · have quiet : ¬ ((d.lowSince.getD s.now + 100000 < s.now && !d.episode) = true) := by
        rcases held with held | held
        · cases h : d.lowSince with
          | none => simp [Nat.not_lt.mpr (Nat.le_add_right s.now 100000)]
          | some m => simp [Nat.not_lt.mpr (held m h)]
        · simp [held]
      refine (validReading_up s p force up).trans ?_
      rw [if_pos low]
      exact if_neg quiet
    · have loses : (d.lowSince.getD s.now + 100000 < s.now && !d.episode) = true := by simp [since, late, quiet]
      refine (validReading_up s p force up).trans ?_
      rw [if_pos low, if_pos loses]
      rw [mapPd_mapPd, ← show d.lowSince = some (d.lowSince.getD s.now) by rw [since]; rfl]
      rfl

end Sys2Proof.Proofs
end

section
/-! SUPPORT. The input filters over several pins that change together (R77), the encoder phases (R87) and the arc inputs (R91). -/

namespace Sys2Proof.Proofs

open Sys2Proof Sys2Proof.Machine Sys2Proof.Laws

/-! ## Pins that take levels together -/

theorem take_same (x : Pins) (since : Moment) (levels : List (InputPin × Bool)) (h : ∀ l ∈ levels, (x.get l.1).level = l.2) :
    x.take since levels = x := by
  induction levels with
  | nil => rfl
  | cons l rest ih =>
    rw [Pins.take, if_pos (h l (by simp))]
    exact ih fun m hm => h m (by simp [hm])

/-- A pin that takes no level stays as it is. -/
theorem take_get_of_notMem (x : Pins) (since : Moment) (levels : List (InputPin × Bool)) (i : InputPin)
    (h : i ∉ levels.map Prod.fst) : (x.take since levels).get i = x.get i := by
  induction levels generalizing x with
  | nil => rfl
  | cons l rest ih =>
    obtain ⟨head, tail⟩ : i ≠ l.1 ∧ i ∉ rest.map Prod.fst := by simpa using h
    rw [Pins.take, ih _ tail]
    split
    · rfl
    · exact pins_get_set_ne x l.1 i _ head

/-- A pin that takes a level stands there: since its own moment where it stood there before, else since the change. -/
theorem take_get (x : Pins) (since : Moment) (levels : List (InputPin × Bool)) (nodup : (levels.map Prod.fst).Nodup)
    (l : InputPin × Bool) (h : l ∈ levels) :
    (x.take since levels).get l.1 = if (x.get l.1).level = l.2 then x.get l.1 else ⟨l.2, since⟩ := by
  induction levels generalizing x with
  | nil => simp at h
  | cons m rest ih =>
    obtain ⟨head, tail⟩ : m.1 ∉ rest.map Prod.fst ∧ (rest.map Prod.fst).Nodup := by simpa using nodup
    rw [Pins.take]
    by_cases same : l = m
    · subst same
      rw [take_get_of_notMem _ since rest _ head]
      split
      · rfl
      · exact pins_get_set x l.1 _
    · have there : l ∈ rest := (List.mem_cons.mp h).resolve_left same
      have other : l.1 ≠ m.1 := fun e => head (e ▸ List.mem_map_of_mem there)
      rw [ih _ tail there]
      split
      · rfl
      · rw [pins_get_set_ne x m.1 l.1 _ other]

/-! ## Acceptance of several pins -/

variable (s : State) (since t d : Moment) (edge : Moment → State → State)

theorem nextEdge_none (xs : List InputPin) (h : ∀ x ∈ xs, s.acceptedAt x = none) : s.nextEdge xs = none := by
  induction xs with
  | nil => rfl
  | cons x rest ih => simp [State.nextEdge, h x, ih fun y hy => h y (by simp [hy])]

/-- Pins whose pending changes are all accepted at one moment. -/
theorem nextEdge_together (xs : List InputPin) (each : ∀ x ∈ xs, s.acceptedAt x = none ∨ s.acceptedAt x = some d)
    (some' : ∃ x ∈ xs, s.acceptedAt x = some d) : s.nextEdge xs = some d := by
  induction xs with
  | nil => simp at some'
  | cons x rest ih =>
    have each' : ∀ y ∈ rest, s.acceptedAt y = none ∨ s.acceptedAt y = some d := fun y hy => each y (by simp [hy])
    by_cases later : ∃ y ∈ rest, s.acceptedAt y = some d
    · rcases each x (by simp) with h | h <;> simp [State.nextEdge, h, ih each' later]
    · have none' : s.nextEdge rest = none := nextEdge_none s rest fun y hy =>
        (each' y hy).resolve_right fun h => later ⟨y, hy, h⟩
      have head : s.acceptedAt x = some d := by
        obtain ⟨y, hy, h⟩ := some'
        obtain rfl | hy := List.mem_cons.mp hy
        · exact h
        · exact absurd ⟨y, hy, h⟩ later
      simp [State.nextEdge, head, none']

theorem acceptUpTo_none (n : Nat) (xs : List InputPin) (h : ∀ x ∈ xs, s.acceptedAt x = none) :
    s.acceptUpTo n xs edge t = s := by
  cases n <;> simp [State.acceptUpTo, nextEdge_none s xs h]

/-- Levels the filtered ones already: only time passes. -/
theorem filter_levels_same (levels : List (InputPin × Bool)) (pin : ∀ l ∈ levels, (s.pins.get l.1).level = s.filtered l.1)
    (same : ∀ l ∈ levels, s.filtered l.1 = l.2) : s.filter levels since t edge = s.advance t := by
  have idle : ∀ x ∈ levels.map Prod.fst, s.acceptedAt x = none := by
    intro x hx
    obtain ⟨l, hl, rfl⟩ := List.mem_map.mp hx
    exact acceptedAt_of_eq s l.1 (pin l hl)
  have taken : (s.mapPins fun p => p.take since levels) = s := by
    rw [State.mapPins, take_same s.pins since levels fun l hl => (pin l hl).trans (same l hl)]
  simp only [State.filter]
  rw [acceptUpTo_none s since edge _ _ idle, taken, acceptUpTo_none s t edge _ _ idle]

/-- The state in which the held changes of several pins are accepted. -/
def acceptingAll (s : State) (levels : List (InputPin × Bool)) (since time : Nat) : State :=
  { s with now := max s.now (since + time), pins := s.pins.take since levels }

section
variable (levels : List (InputPin × Bool)) (time : Nat) (nodup : (levels.map Prod.fst).Nodup)
  (pin : ∀ l ∈ levels, (s.pins.get l.1).level = s.filtered l.1)
include nodup pin

omit pin in
theorem taken_level (l : InputPin × Bool) (h : l ∈ levels) : ((s.pins.take since levels).get l.1).level = l.2 := by
  rw [take_get _ _ _ nodup l h]
  split
  case isTrue same => exact same
  case isFalse => rfl

/-- When the changes that several pins take are accepted. -/
theorem taken_acceptedAt (times : ∀ l ∈ levels, filterTime l.1 = time) (l : InputPin × Bool) (h : l ∈ levels) :
    (s.mapPins fun p => p.take since levels).acceptedAt l.1 = if s.filtered l.1 = l.2 then none else some (since + time) := by
  have level : (((s.mapPins fun p => p.take since levels).pins).get l.1).level = l.2 := taken_level s since levels nodup l h
  by_cases same : s.filtered l.1 = l.2
  · rw [if_pos same]
    exact acceptedAt_of_eq _ _ (by rw [level, mapPins_filtered, same])
  · rw [if_neg same, acceptedAt_of_ne _ _ (by rw [level, mapPins_filtered]; exact fun e => same e.symm), times l h]
    have pins : (s.mapPins fun p => p.take since levels).pins.get l.1 = ⟨l.2, since⟩ := by
      change (s.pins.take since levels).get l.1 = _
      rw [take_get _ _ _ nodup l h, if_neg (by rw [pin l h]; exact same)]
    rw [pins]

/-- The levels that the filter hands on at the acceptance are those the pins took. -/
theorem acceptingAll_levelAt (times : ∀ l ∈ levels, filterTime l.1 = time) (l : InputPin × Bool) (h : l ∈ levels) :
    (acceptingAll s levels since time).levelAt (since + time) l.1 = l.2 := by
  have accepted : (acceptingAll s levels since time).acceptedAt l.1 = _ := taken_acceptedAt s since levels time nodup pin times l h
  have filtered : (acceptingAll s levels since time).filtered l.1 = s.filtered l.1 :=
    (advance_filtered (s.mapPins fun p => p.take since levels) l.1 (since + time)).trans (mapPins_filtered s l.1 _)
  unfold State.levelAt
  rw [accepted, filtered]
  by_cases same : s.filtered l.1 = l.2
  · simp [same]
  · rw [if_neg same, if_pos rfl]
    exact taken_level s since levels nodup l h

/-- Pins with one filter time that leave their filtered levels together and hold the new ones for it: one edge at the moment of
acceptance, and time up to the command's moment (R77). -/
theorem filter_levels (times : ∀ l ∈ levels, filterTime l.1 = time) (other : ∃ l ∈ levels, s.filtered l.1 ≠ l.2)
    (held : since + time ≤ t)
    (settled : ∀ l ∈ levels, let w := edge (since + time) (acceptingAll s levels since time)
      (w.pins.get l.1).level = w.filtered l.1) :
    s.filter levels since t edge = (edge (since + time) (acceptingAll s levels since time)).advance t := by
  have idle : ∀ x ∈ levels.map Prod.fst, s.acceptedAt x = none := by
    intro x hx
    obtain ⟨l, hl, rfl⟩ := List.mem_map.mp hx
    exact acceptedAt_of_eq s l.1 (pin l hl)
  have stop : ∀ x ∈ levels.map Prod.fst, (edge (since + time) (acceptingAll s levels since time)).acceptedAt x = none := by
    intro x hx
    obtain ⟨l, hl, rfl⟩ := List.mem_map.mp hx
    exact acceptedAt_of_eq _ l.1 (settled l hl)
  have accepted := taken_acceptedAt s since levels time nodup pin times
  have next : (s.mapPins fun p => p.take since levels).nextEdge (levels.map Prod.fst) = some (since + time) := by
    refine nextEdge_together _ _ _ (fun x hx => ?_) ?_
    · obtain ⟨l, hl, rfl⟩ := List.mem_map.mp hx
      rw [accepted l hl]
      split <;> simp
    · obtain ⟨l, hl, ne⟩ := other
      exact ⟨l.1, List.mem_map_of_mem hl, by rw [accepted l hl, if_neg ne]⟩
  obtain ⟨n, length⟩ : ∃ n, (levels.map Prod.fst).length = n + 1 := by
    obtain ⟨l, hl, -⟩ := other
    cases levels with
    | nil => simp at hl
    | cons m rest => exact ⟨(rest.map Prod.fst).length, rfl⟩
  simp only [State.filter]
  rw [acceptUpTo_none s since edge _ _ idle, length, State.acceptUpTo, next]
  simp only [if_pos held]
  exact congrArg (State.advance · t) (acceptUpTo_none _ t edge _ _ stop)

end

@[simp] theorem pair_set_get {α : Type} (x : Pair α) (p : Pan) : x.set p (x.get p) = x := by cases p <;> rfl

/-! ## The encoder phases (R87) -/

/-- The channel after its phases have become a pair, by the step they make (R87). -/
theorem posEdge_eq (c : PosChannel) (a b : Bool) :
    c.edge a b =
      if (a, b) = (c.a, c.b) then c
      else if (a, b) = (!c.b, c.a) then { c with a := a, b := b, count := max (-32768) (min 32767 (c.count + 1)) }
      else if (a, b) = (c.b, !c.a) then { c with a := a, b := b, count := max (-32768) (min 32767 (c.count - 1)) }
      else { c with a := a, b := b, skips := min 255 (c.skips + 1) } := by
  obtain ⟨ca, cb, count, housing, skips⟩ := c
  cases a <;> cases b <;> cases ca <;> cases cb <;> simp [PosChannel.edge, phaseState, limitCount]

/-- An edge leaves the channel at the phases accepted. -/
theorem posEdge_phases (c : PosChannel) (a b : Bool) : (c.edge a b).a = a ∧ (c.edge a b).b = b := by
  obtain ⟨ca, cb, count, housing, skips⟩ := c
  cases a <;> cases b <;> cases ca <;> cases cb <;> simp [PosChannel.edge, phaseState]

theorem posEdge_same (c : PosChannel) : c.edge c.a c.b = c := by
  rw [posEdge_eq, if_pos rfl]

theorem base_phases (s : State) (p : Pan) (a b : Bool) :
    (s.phases p a b).base = { s.base with mu := { s.mu with pos := s.mu.pos.set p ((s.mu.pos.get p).edge a b) } } := by
  rw [State.phases, settle_base, base_watchCount]
  rfl

theorem pins_phases (s : State) (p : Pan) (a b : Bool) : (s.phases p a b).pins = s.pins := by
  have h := congrArg Base.pins (base_phases s p a b)
  simpa only [State.base] using h

theorem mu_phases (s : State) (p : Pan) (a b : Bool) :
    (s.phases p a b).mu = { s.mu with pos := s.mu.pos.set p ((s.mu.pos.get p).edge a b) } := by
  have h := congrArg Base.mu (base_phases s p a b)
  simpa only [State.base] using h

theorem now_phases (s : State) (p : Pan) (a b : Bool) : (s.phases p a b).now = s.now := by
  have h := congrArg Base.now (base_phases s p a b)
  simpa only [State.base] using h

/-- The two phase inputs of a pantograph at a pair of levels. -/
def phaseLevels (p : Pan) (a b : Bool) : List (InputPin × Bool) := [(.posA p, a), (.posB p, b)]

/-- The edge of the phases as the filter hands it on. -/
def phaseEdge (p : Pan) (d : Moment) (u : State) : State := u.phases p (u.levelAt d (.posA p)) (u.levelAt d (.posB p))

/-- ENCODER_EDGE of phases that have held their levels for 2 µs (R77, R87). -/
theorem encoderEdge_base (s : State) (t since : Moment) (p : Pan) (a b : Bool)
    (pinA : (s.pins.get (.posA p)).level = (s.mu.pos.get p).a) (pinB : (s.pins.get (.posB p)).level = (s.mu.pos.get p).b)
    (held : since + 2 ≤ t) :
    ∃ u, exec (.encoderEdge ⟨since, t⟩ p a b) s = .next u ∧ u.base = { s.base with
      now := max s.now t, pins := s.pins.take since [(.posA p, a), (.posB p, b)]
      mu := { s.mu with pos := s.mu.pos.set p ((s.mu.pos.get p).edge a b) } } := by
  refine ⟨_, rfl, ?_⟩
  have pin : ∀ l ∈ phaseLevels p a b, (s.pins.get l.1).level = s.filtered l.1 := by
    simp [phaseLevels, pinA, pinB, State.filtered]
  by_cases same : (s.mu.pos.get p).a = a ∧ (s.mu.pos.get p).b = b
  · obtain ⟨rfl, rfl⟩ := same
    have idle : ∀ l ∈ phaseLevels p (s.mu.pos.get p).a (s.mu.pos.get p).b, s.filtered l.1 = l.2 := by
      simp [phaseLevels, State.filtered]
    have taken := take_same s.pins since _ fun l hl => (pin l hl).trans (idle l hl)
    rw [phaseLevels] at pin idle taken
    rw [filter_levels_same s since t _ _ pin idle, taken, posEdge_same, pair_set_get]
    rfl
  · have nodup : ((phaseLevels p a b).map Prod.fst).Nodup := by simp [phaseLevels]
    have times : ∀ l ∈ phaseLevels p a b, filterTime l.1 = 2 := by simp [phaseLevels, filterTime]
    have other : ∃ l ∈ phaseLevels p a b, s.filtered l.1 ≠ l.2 := by
      by_cases ha : (s.mu.pos.get p).a = a
      · exact ⟨(.posB p, b), by simp [phaseLevels], fun hb => same ⟨ha, hb⟩⟩
      · exact ⟨(.posA p, a), by simp [phaseLevels], ha⟩
    have levelA := acceptingAll_levelAt s since _ 2 nodup pin times (.posA p, a) (by simp [phaseLevels])
    have levelB := acceptingAll_levelAt s since _ 2 nodup pin times (.posB p, b) (by simp [phaseLevels])
    have after := base_phases (acceptingAll s (phaseLevels p a b) since 2) p a b
    have after := base_phases (acceptingAll s (phaseLevels p a b) since 2) p a b
    have pins : ((acceptingAll s (phaseLevels p a b) since 2).phases p a b).pins = s.pins.take since (phaseLevels p a b) :=
      pins_phases _ p a b
    have mu : ((acceptingAll s (phaseLevels p a b) since 2).phases p a b).mu =
        { s.mu with pos := s.mu.pos.set p ((s.mu.pos.get p).edge a b) } := mu_phases _ p a b
    obtain ⟨phaseA, phaseB⟩ := posEdge_phases (s.mu.pos.get p) a b
    have edge : phaseEdge p (since + 2) (acceptingAll s (phaseLevels p a b) since 2) =
        (acceptingAll s (phaseLevels p a b) since 2).phases p a b := by
      rw [phaseEdge, levelA, levelB]
    have filters : s.filter (phaseLevels p a b) since t (phaseEdge p) =
        ((acceptingAll s (phaseLevels p a b) since 2).phases p a b).advance t := by
      rw [← edge]
      refine filter_levels s since t (phaseEdge p) _ 2 nodup pin times other held fun l hl => ?_
      simp only [edge, pins, taken_level s since _ nodup l hl]
      simp only [phaseLevels, List.mem_cons, List.not_mem_nil, or_false] at hl
      rcases hl with rfl | rfl <;> simp only [State.filtered, mu, pair_get_set, phaseA, phaseB]
    have time : max (max s.now (since + 2)) t = max s.now t := max_due held
    refine (congrArg State.base filters).trans ?_
    rw [base_advance, after, now_phases, ← time]
    rfl

/-! ## The arc inputs (R91) -/

section
variable (c : ArcChannel)

theorem arcEdge_rising (level : c.level = false) :
    c.edge true = { c with level := true, count := c.count + 1
                           overflow := if c.count = 65535 then min 2 (c.overflow + 1) else c.overflow } := by
  simp [ArcChannel.edge, level]

theorem arcEdge_falling : c.edge false = { c with level := false } := by simp [ArcChannel.edge]

end

/-- The acceptance of an edge of an arc input. -/
theorem exec_arcPulse (s : State) (t since : Moment) (p : Pan) (b : Bool)
    (pin : (s.pins.get (.arc p)).level = (s.mu.arc.get p).level) (level : (s.mu.arc.get p).level ≠ b) (held : since + 5 ≤ t) :
    exec (.arcPulse ⟨since, t⟩ p b) s = .next { s with
      now := max s.now t, pins := s.pins.set (.arc p) ⟨b, since⟩
      mu := { s.mu with arc := s.mu.arc.set p ((s.mu.arc.get p).edge b) } } := by
  refine congrArg Host.Outcome.next ((filter_accepting s (.arc p) b since t _ pin level held).trans ?_)
  rw [accepting_levelAt s (.arc p) b since level]
  exact advance_accepting_mu s (.arc p) b since t _ held

/-- Settles O37. -/
theorem encoderAndArcInputsCount : Obligations.EncoderAndArcInputsCount := by
  refine ⟨fun s x b since t edge => ?_, ⟨rfl, rfl, rfl, rfl, fun p => ⟨rfl, rfl, rfl, rfl, rfl, rfl, rfl⟩, rfl, rfl, rfl⟩,
    fun t since p a b s => ?_, fun t since p level s => ?_⟩
  · intro due held
    refine ⟨filter_accepts s x b since t edge, filter_waits s x b since t edge, ?_, ?_⟩
    · rintro pin rfl
      exact filter_same s x since t edge pin
    · rintro pin rfl early
      exact filter_reverts s x since t edge pin early
  · intro c forward backward c' pinA pinB held
    have h := encoderEdge_base s t since p a b pinA pinB held
    rw [posEdge_eq] at h
    simpa only [c', forward, backward, decide_eq_true_eq] using h
  · intro c out pin
    refine ⟨fun other early => ?_, fun high low held => ?_, fun same => ?_, fun low high held => ?_⟩
    · refine (next_filter_waits s (.arc p) level since t _ pin (Ne.symm other) early).trans ?_
      simp only [out, c, pair_set_get]
    · subst high
      refine (exec_arcPulse s t since p true pin (by rw [low]; decide) held).trans ?_
      rw [arcEdge_rising _ low]
    · exact next_filter_same s (.arc p) level since t _ pin same.symm
    · subst low
      refine (exec_arcPulse s t since p false pin (by rw [high]; decide) held).trans ?_
      rw [arcEdge_falling]

end Sys2Proof.Proofs
end

section
/-! SUPPORT. The ice unit (chapter 8): the observation and the arc window end, the unit's timers, the heaters, and SET-ICE, HEAT
and UNBLOCK-HEATER. -/

namespace Sys2Proof.Proofs

open Sys2Proof Sys2Proof.Machine Sys2Proof.Laws

/-! ## The observation (R152, R154) -/

theorem iu_refreshIce (s : State) : s.refreshIce.iu = s.iu := by
  unfold State.refreshIce
  split <;> rfl

@[simp] theorem drive_refreshIce (s : State) (p : Pan) : s.refreshIce.drive p = s.drive p := by
  unfold State.refreshIce
  split <;> simp

/-- A change of the observation leaves the rest of the ice unit alone. -/
theorem iu_observe (s : State) (o : Ice) : (s.observe o).iu = { s.iu with observation := o } := by
  unfold State.observe
  split
  case isTrue same => rw [same]
  case isFalse =>
    refine (iu_queueInternal _ _).trans ?_
    change (State.refreshIce _).iu = _
    rw [iu_refreshIce]
    rfl

@[simp] theorem drive_observe (s : State) (o : Ice) (p : Pan) : (s.observe o).drive p = s.drive p := by
  unfold State.observe
  split
  · rfl
  · simp

/-- Nothing of the base changes but the observation. -/
theorem base_observe (s : State) (o : Ice) : (s.observe o).base = { s.base with observation := o } := by
  unfold State.observe
  split
  case isTrue same => rw [same]; rfl
  case isFalse =>
    simp only [base_send, base_withdraw, base_refreshIce, base_raiseEvent]
    rfl

/-! ## The arc window end (R150 to R152) -/

/-- The observation after an arc window (R152). -/
def windowObservation (s : State) : Ice :=
  if s.iu.forced then s.iu.observation
  else if s.anyCollector then observationTest s.score s.watchThreshold s.scrapeThreshold s.hysteresis s.iu.observation
  else if s.iu.noCollector = 7 then .clear else s.iu.observation

/-- The window count without a collector after an arc window (R152). -/
def windowNoCollector (s : State) : Nat := if s.anyCollector then 0 else min 8 (s.iu.noCollector + 1)

theorem iu_observeWindow (s : State) :
    s.observeWindow.iu = { s.iu with noCollector := windowNoCollector s, observation := windowObservation s } := by
  unfold State.observeWindow windowObservation windowNoCollector
  cases up : s.anyCollector <;> cases forced : s.iu.forced
  · by_cases seven : s.iu.noCollector = 7 <;> simp [seven, iu_observe]
  · simp
  · simp [iu_observe]
  · simp

theorem drive_observeWindow (s : State) (p : Pan) : s.observeWindow.drive p = s.drive p := by
  unfold State.observeWindow
  dsimp only
  repeat' split
  all_goals simp

theorem base_observeWindow (s : State) :
    s.observeWindow.base = { s.base with noCollector := windowNoCollector s, observation := windowObservation s } := by
  unfold State.observeWindow windowObservation windowNoCollector
  cases up : s.anyCollector <;> cases forced : s.iu.forced
  · by_cases seven : s.iu.noCollector = 7
    · simp only [if_pos seven, decide_eq_true seven, if_true, if_false, Bool.false_eq_true, Bool.not_false, Bool.and_self,
        base_observe]
      rfl
    · simp only [seven, if_false, Bool.false_eq_true, Bool.not_false, decide_false, Bool.and_false]
      rfl
  · rfl
  · simp only [if_true, if_false, Bool.false_eq_true, base_observe]
    rfl
  · rfl

/-- What the scores are made of. -/
theorem score_congr {s t : State} (fitted : ∀ p, t.fitted p = s.fitted p) (drive : ∀ p, t.drive p = s.drive p)
    (history : t.iu.history = s.iu.history) : t.score = s.score := by
  have up : ∀ p, t.upCollector p = s.upCollector p := fun p => by rw [State.upCollector, State.upCollector, fitted, drive]
  simp only [State.score, up, history]

theorem score_observeWindow (s : State) : s.observeWindow.score = s.score := by
  have config : s.observeWindow.sc.config = s.sc.config := by
    have h := congrArg Base.config (base_observeWindow s)
    simpa only [State.base] using h
  refine score_congr (fun p => ?_) (drive_observeWindow s) (by rw [iu_observeWindow])
  unfold State.fitted State.panCount
  rw [config]

/-- The window count of a pantograph, with an overflown one at its limit (R150). -/
theorem windowCount_eq (r : ArcResult) (tally : Nat) :
    windowCount r tally = min 65535 ((match r with | .count n => n | .over => 65535) + tally) := by
  rcases r with n | _
  · rfl
  · simp only [windowCount]
    omega

/-- The last eight counts of a history and one more (R150). -/
theorem pushCount_eq (h : List Nat) (n : Nat) : pushCount h n = (h ++ [n]).drop ((h ++ [n]).length - 8) := by
  rw [pushCount, List.length_append]
  rfl

/-- The tests of R152 over the integers. -/
theorem observationTest_eq (score tw ts h : Nat) (o : Ice) :
    observationTest score tw ts h o =
      if ts ≤ score ∧ o ≠ .scrape then .scrape
      else if tw ≤ score ∧ o = .clear then .watch
      else if o = .scrape ∧ (score : Int) < ts - h then .watch
      else if o = .watch ∧ (score : Int) < tw - h then .clear
      else o := by
  have below (a : Nat) : (score : Int) < a - h ↔ score + h < a := by omega
  simp [observationTest, below]

theorem arcWindowEnd_iu (s : State) (r : Pair ArcResult) :
    (s.arcWindowEnd r).iu = { (s.pushWindows r).iu with
      noCollector := windowNoCollector (s.pushWindows r), observation := windowObservation (s.pushWindows r) } :=
  iu_observeWindow _

theorem history_pushWindows (s : State) (r : Pair ArcResult) (p : Pan) :
    (s.pushWindows r).iu.history.get p =
      if s.upCollector p then pushCount (s.iu.history.get p) (windowCount (r.get p) (s.iu.tally.get p))
      else s.iu.history.get p := by
  cases p <;> rfl

end Sys2Proof.Proofs
end

section
/-! SUPPORT. The odometer (R89 to R92): the axle pulse, the metre step and the arc window. -/

namespace Sys2Proof.Proofs

open Sys2Proof Sys2Proof.Machine Sys2Proof.Laws

/-! ## The metre step's tests and the arc window -/

/-- What the metre step's tests leave alone, the window's configuration among it (R90). -/
theorem metreTests_beside (s : State) :
    s.metreTests.mu = s.mu ∧ s.metreTests.pins = s.pins ∧ s.metreTests.now = s.now ∧ s.metreTests.sc.config = s.sc.config := by
  have ground := ground_metreTests s
  have mu := congrArg Base.mu ground
  have pins := congrArg Base.pins ground
  have now := congrArg Base.now ground
  have config := congrArg Base.config ground
  simp only [Base.ground, State.base] at mu pins now config
  exact ⟨mu, pins, now, config⟩

theorem arcWindowEnd_beside (s : State) (r : Pair ArcResult) :
    (s.arcWindowEnd r).mu = s.mu ∧ (s.arcWindowEnd r).pins = s.pins ∧ (s.arcWindowEnd r).now = s.now := by
  have base := base_observeWindow (s.pushWindows r)
  have mu := congrArg Base.mu base
  have pins := congrArg Base.pins base
  have now := congrArg Base.now base
  simp only [State.base] at mu pins now
  exact ⟨mu, pins, now⟩

/-- The arc channels as the window's end leaves them (R91). -/
def closedArcs (m : Mu) : Pair ArcChannel := ⟨m.arc.p0.close, m.arc.p1.close⟩

theorem advanceWindow_of_open (s : State) (h : s.mu.odo.windowMetres + 1 < s.arcWindow) :
    s.advanceWindow = s.mapMu fun m => { m with odo := { m.odo with windowMetres := m.odo.windowMetres + 1 } } :=
  if_neg (by simpa [State.windowCloses] using h)

theorem advanceWindow_of_closes (s : State) (h : s.arcWindow ≤ s.mu.odo.windowMetres + 1) :
    s.advanceWindow = ((s.mapMu fun m => { m with odo := { m.odo with windowMetres := 0 }, arc := closedArcs m }).arcWindowEnd
      ⟨s.mu.arc.p0.result, s.mu.arc.p1.result⟩).settle :=
  if_pos (by simpa [State.windowCloses] using h)

theorem advanceWindow_of_closes_beside (s : State) (h : s.arcWindow ≤ s.mu.odo.windowMetres + 1) :
    s.advanceWindow.mu = { s.mu with odo := { s.mu.odo with windowMetres := 0 }, arc := closedArcs s.mu } ∧
      s.advanceWindow.pins = s.pins ∧ s.advanceWindow.now = s.now := by
  rw [advanceWindow_of_closes s h, settle_mu, settle_pins, settle_now]
  exact arcWindowEnd_beside _ _

/-! ## The axle pulse (R89) -/

/-- The odometer after a rising edge, before its metre step (R89). -/
def pulsedOdo (o : Odo) (mm : Nat) : Odo :=
  { o with level := true, pulses := o.pulses + 1, millimetres := o.millimetres + BitVec.ofNat 32 mm }

theorem axlePulse_of_short (s : State) (h : s.mu.odo.fraction + s.millimetresPerPulse < 1000) :
    s.axlePulse = s.mapMu fun m => { m with odo :=
      { pulsedOdo m.odo s.millimetresPerPulse with fraction := s.mu.odo.fraction + s.millimetresPerPulse } } := by
  simp only [State.axlePulse, Odo.pulse, if_neg (Nat.not_le.mpr h), Bool.false_eq_true, if_false]
  rfl

/-- The state at a metre step, before its tests (R89, R90). -/
def stepping (s : State) : State :=
  s.mapMu fun m => { m with odo := { pulsedOdo m.odo s.millimetresPerPulse with
    fraction := s.mu.odo.fraction + s.millimetresPerPulse - 1000, metres := m.odo.metres + 1 } }

theorem axlePulse_of_metre (s : State) (h : 1000 ≤ s.mu.odo.fraction + s.millimetresPerPulse) :
    s.axlePulse = (stepping s).metreTests.advanceWindow := by
  simp only [State.axlePulse, Odo.pulse, if_pos h, if_true]
  rfl

section
variable (s : State) (t since : Moment) (pin : (s.pins.get .odo).level = s.mu.odo.level) (held : since + 50 ≤ t)
include pin held

theorem exec_axlePulse_rising (low : s.mu.odo.level = false) :
    exec (.axlePulse ⟨since, t⟩ true) s = .next ((accepting s .odo true since).axlePulse.advance t) := by
  have level : s.filtered .odo ≠ true := by rw [show s.filtered .odo = false from low]; decide
  refine congrArg Host.Outcome.next ((filter_accepting s .odo true since t _ pin level held).trans ?_)
  rw [accepting_levelAt s .odo true since level]
  rfl

theorem exec_axlePulse_falling (high : s.mu.odo.level = true) :
    exec (.axlePulse ⟨since, t⟩ false) s = .next { s with
      now := max s.now t, pins := s.pins.set .odo ⟨false, since⟩
      mu := { s.mu with odo := { s.mu.odo with level := false } } } := by
  have level : s.filtered .odo ≠ false := by rw [show s.filtered .odo = true from high]; decide
  refine congrArg Host.Outcome.next ((filter_accepting s .odo false since t _ pin level held).trans ?_)
  rw [accepting_levelAt s .odo false since level]
  exact advance_accepting_mu s .odo false since t _ held

end

/-- The metre step that an axle pulse makes, between its tests and the arc window. -/
def tested (s : State) (since : Moment) : State := (stepping (accepting s .odo true since)).metreTests

/-- The odometer of that moment. -/
def steppedOdo (o : Odo) (mm : Nat) : Odo :=
  { pulsedOdo o mm with fraction := o.fraction + mm - 1000, metres := o.metres + 1 }

theorem tested_beside (s : State) (since : Moment) :
    (tested s since).mu = { s.mu with odo := steppedOdo s.mu.odo s.millimetresPerPulse } ∧
      (tested s since).pins = s.pins.set .odo ⟨true, since⟩ ∧ (tested s since).now = max s.now (since + 50) ∧
      (tested s since).arcWindow = s.arcWindow := by
  obtain ⟨mu, pins, now, config⟩ := metreTests_beside (stepping (accepting s .odo true since))
  refine ⟨mu, pins, now, ?_⟩
  unfold State.arcWindow
  exact congrArg (Memory.item2 · 21) config

theorem exec_axlePulse_metre (s : State) (t since : Moment) (pin : (s.pins.get .odo).level = s.mu.odo.level)
    (low : s.mu.odo.level = false) (held : since + 50 ≤ t) (metre : 1000 ≤ s.mu.odo.fraction + s.millimetresPerPulse) :
    exec (.axlePulse ⟨since, t⟩ true) s = .next ((tested s since).advanceWindow.advance t) := by
  rw [exec_axlePulse_rising s t since pin held low, axlePulse_of_metre (accepting s .odo true since) metre]
  rfl

/-- Settles O46. -/
theorem arcWindowEndFeedsTheObservation : Obligations.ArcWindowEndFeedsTheObservation := by
  refine ⟨fun s r => ?_, fun t since s => ?_⟩
  · intro u o
    have iu := arcWindowEnd_iu s r
    have score : u.score = (s.pushWindows r).score := score_observeWindow _
    have observation : u.iu.observation = windowObservation (s.pushWindows r) := by rw [show u.iu = _ from iu]
    have noCollector : u.iu.noCollector = windowNoCollector (s.pushWindows r) := by rw [show u.iu = _ from iu]
    have tally : u.iu.tally = ⟨0, 0⟩ := by rw [show u.iu = _ from iu]; rfl
    refine ⟨fun p => ?_, tally, fun forced => ?_, fun up => ⟨?_, fun auto => ?_⟩,
      fun down => ⟨?_, fun auto => ?_⟩⟩
    · have history : u.iu.history = (s.pushWindows r).iu.history := by rw [show u.iu = _ from iu]
      rw [history, history_pushWindows, windowCount_eq, pushCount_eq] <;> rfl
    · rw [observation]
      exact if_pos forced
    · rw [noCollector]
      exact if_pos up
    · rw [observation, score, ← observationTest_eq]
      exact (if_neg (ne_true_of_eq_false auto)).trans (if_pos up)
    · rw [noCollector]
      exact if_neg (ne_true_of_eq_false down)
    · rw [observation]
      exact (if_neg (ne_true_of_eq_false auto)).trans (if_neg (ne_true_of_eq_false down))
  · intro o mm pin low held metre closes
    obtain ⟨mu, pins, now, window⟩ := tested_beside s since
    refine ⟨tested s since, mu, ?_⟩
    rw [exec_axlePulse_metre s t since (pin.trans low.symm) low held metre,
      advanceWindow_of_closes (tested s since) (by rw [window, mu]; exact closes)]
    simp only [mu]
    rw [State.mapMu, mu]
    rfl

/-! ## The section queue's tests at a metre step (R117, R118, R120) -/

theorem addReason_holds (s : State) (x : Reason) : (s.addReason x).sg.reasons.holds x = true := by
  unfold State.addReason
  split
  case isTrue held => exact held
  case isFalse => cases x <;> rfl

theorem removeReason_holds (s : State) (x : Reason) : (s.removeReason x).sg.reasons.holds x = false := by
  unfold State.removeReason
  split
  case isTrue => cases x <;> rfl
  case isFalse free => exact eq_false_of_ne_true free

theorem upCollector_iff (s : State) (p : Pan) :
    s.upCollector p = true ↔ s.fitted p = true ∧ (s.drive p).state = .up ∧ (s.drive p).role = some .collector := by
  simp [State.upCollector, and_assoc]

theorem neutralHeld_iff (s : State) :
    s.neutralHeld = true ↔ ∃ p, s.upCollector p = true ∧ ∃ e ∈ s.sq.entries, e.kind = .neutral ∧ s.inSpan e (s.panDistance p) = true := by
  simp only [State.neutralHeld, List.any_cons, List.any_nil, Bool.or_false, Bool.or_eq_true, Bool.and_eq_true, List.any_eq_true,
    decide_eq_true_eq]
  constructor
  · rintro (h | h)
    · exact ⟨.p0, h⟩
    · exact ⟨.p1, h⟩
  · rintro ⟨p, h⟩
    cases p
    · exact .inl h
    · exact .inr h

/-- What the reasons hold of NEUTRAL after its test (R117). -/
theorem holdNeutral_neutral (s : State) : s.holdNeutral.sg.reasons.neutral = s.neutralHeld := by
  unfold State.holdNeutral
  cases h : s.neutralHeld
  · exact removeReason_holds s .neutral
  · exact addReason_holds s .neutral

theorem neutralTest_of_idle (s : State) (p : Pan)
    (h : s.upCollector p = false ∨ s.sg.breakerOpen = true ∨
      (s.sq.entries.find? fun e => e.kind = .neutral && s.inside e (s.panDistance p)) = none) :
    s.neutralTest p = s := by
  unfold State.neutralTest
  split
  case isFalse => rfl
  case isTrue on =>
    simp only [Bool.and_eq_true, Bool.not_eq_true'] at on
    have none' := (h.resolve_left (by simp [on])).resolve_left (by simp [on])
    rw [none']

/-- A collector inside a NEUTRAL entry with the breaker closed (R118). -/
theorem neutralTest_of_inside (s : State) (p : Pan) (e : SectionEntry) (up : s.upCollector p = true)
    (closed : s.sg.breakerOpen = false)
    (inside : (s.sq.entries.find? fun e => e.kind = .neutral && s.inside e (s.panDistance p)) = some e) :
    s.neutralTest p =
      if e.late.get p then s.orderDown p .lateBreaker
      else ((s.orderDown p .lateBreaker).mapSq fun q => { q with entries := q.entries.map fun x =>
        if x.key = e.key then { x with late := x.late.set p true } else x }).raiseFault .breakerLate
        (.breakerSection p e.key) (some p) e.key.localId := by
  simp only [State.neutralTest, up, closed, inside, Bool.not_false, Bool.and_self, if_true]

/-- The drive of a collector ordered down inside a NEUTRAL entry keeps its raise request (R118). -/
theorem orderDown_lateBreaker (s : State) (p : Pan) (up : (s.drive p).state = .up) :
    ((s.orderDown p .lateBreaker).drive p).raiseRequest = (s.drive p).raiseRequest ∧
      ((s.orderDown p .lateBreaker).drive p).valve ≠ .fill ∧
      ((s.drive p).housed = false → ((s.orderDown p .lateBreaker).drive p).state = .lowering) ∧
      ((s.orderDown p .lateBreaker).drive p).state ≠ .up := by
  have lowered := orderDown_of_raised s p .lateBreaker (.inr up)
  refine ⟨lowered.raiseRequest.trans (by simp [requestAfter, DownCause.clears]), lowered.valve, fun h => (lowered.unhoused h).1, ?_⟩
  cases h : (s.drive p).housed
  · simp [(lowered.unhoused h).1]
  · rcases (lowered.housed h).1 with h | h <;> simp [h]

/-- Settles O38. -/
theorem axlePulseDrivesTheOdometer : Obligations.AxlePulseDrivesTheOdometer := by
  refine ⟨fun t since s => ?_, fun s p => ?_⟩
  · intro o mm q pins pin
    refine ⟨fun high held => exec_axlePulse_falling s t since pin held high, fun low early => ?_, fun low held short => ?_,
      fun low held metre within => ?_, fun low held metre closes => ?_, fun low held metre => ?_⟩
    · refine next_filter_waits s .odo true since t _ pin ?_ early
      rw [show s.filtered .odo = false from low]
      decide
    · rw [exec_axlePulse_rising s t since pin held low, axlePulse_of_short (accepting s .odo true since) short]
      exact congrArg Host.Outcome.next (advance_accepting_mu s .odo true since t _ held)
    · obtain ⟨mu, pins', now, window⟩ := tested_beside s since
      have time : max (max s.now (since + 50)) t = max s.now t := max_due held
      refine ⟨_, exec_axlePulse_metre s t since pin low held metre, ?_⟩
      rw [advanceWindow_of_open (tested s since) (by rw [window, mu]; exact within)]
      refine ⟨by rw [advance_now, mapMu_now, now, time], by rw [advance_pins, mapMu_pins, pins'], ?_⟩
      rw [advance_mu, mapMu_mu, mu]
      rfl
    · obtain ⟨mu, pins', now, window⟩ := tested_beside s since
      have time : max (max s.now (since + 50)) t = max s.now t := max_due held
      obtain ⟨mu', pins'', now'⟩ := advanceWindow_of_closes_beside (tested s since) (by rw [window, mu]; exact closes)
      refine ⟨_, exec_axlePulse_metre s t since pin low held metre, by rw [advance_now, now', now, time],
        by rw [advance_pins, pins'', pins'], ?_⟩
      rw [advance_mu, mu', mu]
      rfl
    · exact exec_axlePulse_metre s t since pin low held metre
  · intro collector between h inside inSpan holds
    have holds_iff : s.neutralHeld = true ↔ holds := by
      rw [neutralHeld_iff]
      simp only [upCollector_iff]
      rfl
    have notUp : ¬ collector p → s.upCollector p = false := fun n => eq_false_of_ne_true fun u => n ((upCollector_iff s p).mp u)
    have inside_eq : inside = fun e => e.kind = .neutral && s.inside e (s.panDistance p) := rfl
    refine ⟨rfl, ⟨fun on => if_pos (holds_iff.mpr on), fun off => if_neg fun on => off (holds_iff.mp on), ?_⟩,
      ⟨fun idle => neutralTest_of_idle s p (idle.imp_left notUp), fun e up closed found => ?_⟩, ?_⟩
    · rw [holdNeutral_neutral]
      exact holds_iff
    · have test := neutralTest_of_inside s p e ((upCollector_iff s p).mpr up) closed found
      refine ⟨fun late => test.trans (if_pos late), fun early => test.trans ((if_neg (ne_true_of_eq_false early)).trans ?_),
        orderDown_lateBreaker s p up.2.1⟩
      have sq : (s.orderDown p .lateBreaker).sq = s.sq := congrArg Aside.sq (aside_orderDown s p .lateBreaker)
      rw [State.mapSq, sq]
    · refine ⟨_, rfl, ?_⟩
      have flag : (⟨s.fitted .p0 && s.held (s.panDistance .p0), s.fitted .p1 && s.held (s.panDistance .p1)⟩ : Pair Bool).get p =
          (s.fitted p && s.held (s.panDistance p)) := by cases p <;> rfl
      rw [flag]
      simp only [State.held, State.inHold, Bool.and_eq_true, List.any_eq_true, bne_iff_ne, ne_eq]
      rfl

end Sys2Proof.Proofs
end

section
/-! SUPPORT. The ice unit's timers, the heaters and the heat grants (R159, R163 to R169), and SET-ICE, HEAT and UNBLOCK-HEATER. -/

namespace Sys2Proof.Proofs

open Sys2Proof Sys2Proof.Machine Sys2Proof.Laws

/-! ## Timers -/

theorem scraperRetryOver_of_phase (s : State) (h : s.iu.scraper.phase ≠ .claiming) :
    s.scraperRetryOver = s.mapIu fun i => { i with scraper := { i.scraper with retry := none } } := by
  unfold State.scraperRetryOver
  dsimp only
  split
  case h_1 p claiming _ => exact absurd claiming h
  case h_2 => rfl

theorem scraperRetryOver_of_claiming (s : State) (p : Pan) (phase : s.iu.scraper.phase = .claiming)
    (pan : s.iu.scraper.pan = some p) :
    s.scraperRetryOver =
      let t := s.mapIu fun i => { i with scraper := { i.scraper with retry := none } }
      if t.scraperMay p then t else t.closeScraper p := by
  simp only [State.scraperRetryOver, phase, pan]

@[simp] theorem base_scraperRetryOver (s : State) : s.scraperRetryOver.base = s.base := by
  unfold State.scraperRetryOver
  dsimp only
  repeat' split
  all_goals simp

/-- A timer that expires does its command's part at the moment it is due. -/
theorem next_expire_of_running (s : State) (t due : Moment) (tm : Timer) (k : Moment → State → State) (h : tm = some due) :
    (.next (s.expire tm t k) : Result) = .next (k due (s.advance (max t due))) := by
  subst h
  rfl

/-- Settles O47. -/
theorem iceUnitTimersEndTheirWait : Obligations.IceUnitTimersEndTheirWait := by
  intro t due s now
  refine ⟨fun running => ?_, fun running => ?_, fun running => ?_⟩
  · have runs := next_expire_of_running s t due _ (fun _ u => u.scraperRetryOver.settle) running
    refine ⟨⟨_, runs, ?_⟩, fun phase => runs.trans ?_, fun p phase pan => ?_⟩
    · rw [settle_base, base_scraperRetryOver]
      rfl
    · rw [scraperRetryOver_of_phase (s.advance (max t due)) phase]
      rfl
    · intro w
      have claiming := scraperRetryOver_of_claiming (s.advance (max t due)) p phase pan
      refine ⟨fun may => runs.trans ?_, fun may => runs.trans ?_⟩
      · rw [claiming]
        exact congrArg (fun u : State => Host.Outcome.next u.settle) (if_pos may)
      · rw [claiming]
        exact congrArg (fun u : State => Host.Outcome.next u.settle) (if_neg (ne_true_of_eq_false may))
  · exact next_expire_of_running s t due _ _ running
  · exact next_expire_of_running s t due _ _ running

/-! ## The grants (R164) -/

/-- The units of a list of grants. -/
def grantUnits (gs : List Grant) : Nat := (gs.map fun g => g.units).sum

theorem activePrefix_eq_take (budget : Nat) (gs : List Grant) :
    activePrefix budget gs = gs.take (activePrefix budget gs).length := by
  induction gs generalizing budget with
  | nil => rfl
  | cons g rest ih =>
    unfold activePrefix
    split
    · simpa using ih _
    · rfl

theorem grantUnits_activePrefix_le (budget : Nat) (gs : List Grant) : grantUnits (activePrefix budget gs) ≤ budget := by
  induction gs generalizing budget with
  | nil => exact Nat.zero_le _
  | cons g rest ih =>
    unfold activePrefix
    split
    next within =>
      have := ih (budget - g.units)
      simp only [grantUnits, List.map_cons, List.sum_cons] at this ⊢
      omega
    · exact Nat.zero_le _

/-- No longer initial run keeps within the budget. -/
theorem length_le_activePrefix (budget : Nat) (gs : List Grant) (k : Nat) (hk : k ≤ gs.length)
    (within : grantUnits (gs.take k) ≤ budget) : k ≤ (activePrefix budget gs).length := by
  induction gs generalizing budget k with
  | nil => exact hk
  | cons g rest ih =>
    cases k with
    | zero => exact Nat.zero_le _
    | succ k =>
      simp only [grantUnits, List.take_succ_cons, List.map_cons, List.sum_cons] at within
      have tail := ih (budget - g.units) k (Nat.le_of_succ_le_succ hk) (by unfold grantUnits; omega)
      rw [activePrefix, if_pos (by omega)]
      exact Nat.succ_le_succ tail

theorem effectiveBudget_eq (s : State) :
    s.effectiveBudget =
      if s.cu.isOpen = true ∨ s.upEntries = 0 then 0 else if s.upEntries = 1 then s.heatBudget / 2 else s.heatBudget := by
  unfold State.effectiveBudget
  cases s.cu.isOpen
  · rcases s.upEntries with _ | _ | n <;> simp
  · simp

/-! ## The outputs of the heaters (R164, R167) -/

theorem heatOutput_of_cut (s : State) (p : Pan) (cut : (s.iu.heaters.get p).cut = true) : s.heatOutput p = false := by
  simp [State.heatOutput, cut]

theorem heatOutput_of_dutyOver (s : State) (p : Pan) (h : (s.iu.heaters.get p).periodStart + (s.iu.heaters.get p).dutyTime ≤ s.now) :
    s.heatOutput p = false := by
  have : ¬ s.now - (s.iu.heaters.get p).periodStart < (s.iu.heaters.get p).dutyTime :=
    Nat.not_lt.mpr (Nat.le_sub_of_add_le' h)
  simp [State.heatOutput, this]

theorem followUsable_cut (s : State) (p : Pan) (h : (s.iu.heaters.get p).cut = true ∨ s.iu.usable = true ∧ s.grantUsable = false) :
    (s.followUsable.iu.heaters.get p).cut = true := by
  unfold State.followUsable
  split
  case isTrue same =>
    refine h.resolve_right fun ⟨usable, unusable⟩ => ?_
    rw [same, usable] at unusable
    exact absurd unusable (by decide)
  case isFalse other =>
    change (Pair.get (if s.grantUsable then s.iu.heaters else _) p).cut = true
    split
    case isTrue usable => exact h.resolve_right fun ⟨_, unusable⟩ => by simp [usable] at unusable
    case isFalse => cases p <;> rfl

/-- The duty copied at the start of a period (R167). -/
theorem shadowDuty_eq (s : State) (h : Heater) :
    s.shadowDuty h =
      if h.inService = false ∨ s.demands = false ∨ s.grantUsable = false then 0
      else if s.iu.hostHeat then 16
      else match s.ru.regime.ice with
        | .scrape => s.scrapeDuty
        | .watch => s.watchDuty
        | .clear => 0 := by
  unfold State.shadowDuty
  simp only [Bool.or_eq_true, Bool.not_eq_true', or_assoc]
  cases s.ru.regime.ice <;> rfl

/-- Settles O48. -/
theorem heaterPeriodCopiesTheDuty : Obligations.HeaterPeriodCopiesTheDuty := by
  refine ⟨fun t p thermal s fitted => ?_, fun s usable unusable p => ?_, fun s p cut => ?_, fun s => ?_⟩
  · intro h duty
    refine ⟨fun due running => ?_, s.advance (max t (h.periodStart + h.dutyTime)), congrArg Host.Outcome.next (if_pos fitted), rfl, rfl, ?_⟩
    · have duty_eq : duty = (s.advance (max t due)).shadowDuty h := (shadowDuty_eq (s.advance (max t due)) h).symm
      refine (congrArg Host.Outcome.next (if_pos fitted)).trans ((next_expire_of_running s t due _ _ running).trans ?_)
      rw [duty_eq]
      rfl
    · exact heatOutput_of_dutyOver _ p (Nat.le_trans (Nat.le_max_right _ _) (Nat.le_max_right _ _))
  · have cut := followUsable_cut s p (.inr ⟨usable, unusable⟩)
    exact ⟨cut, heatOutput_of_cut _ p cut⟩
  · exact heatOutput_of_cut _ p (followUsable_cut s p (.inl cut))
  · intro up units active
    have prefix_eq : s.activeGrants = active := activePrefix_eq_take _ _
    refine ⟨effectiveBudget_eq s, ⟨prefix_eq, ?_, fun k hk within => ?_⟩, ?_⟩
    · rw [← prefix_eq]
      exact grantUnits_activePrefix_le _ _
    · rw [← prefix_eq]
      exact length_le_activePrefix _ _ k hk within
    · rw [← prefix_eq]
      simp only [State.grantUsable, Bool.and_eq_true, List.any_eq_true, List.all_eq_true, decide_eq_true_eq, Bool.not_eq_true',
        Bool.and_eq_false_imp, decide_eq_false_iff_not]

/-! ## Thermal trips (R168) -/

/-- The trip times that a trip now leaves (R168). -/
def tripTimes (s : State) (p : Pan) : List Moment := (s.iu.heaters.get p).trips.filter (fun x => s.now ≤ x + 60000000) ++ [s.now]

theorem tripHeater_of_few (s : State) (p : Pan) (few : (tripTimes s p).length < 3) :
    s.tripHeater p = s.mapHeater p fun h => { h with enable := false, trips := tripTimes s p } := if_pos few

/-- The third trip within 60 s, before the grant is looked at. -/
def tripped (s : State) (p : Pan) : State :=
  (s.mapHeater p fun h => { h with enable := false, trips := [], inService := false }).raiseFault .heaterTrip (.heater p) (some p) 3

theorem tripHeater_of_third (s : State) (p : Pan) (third : 3 ≤ (tripTimes s p).length) :
    s.tripHeater p = if (tripped s p).need < (tripped s p).ownGrant then (tripped s p).giveHeat (tripped s p).need else tripped s p :=
  if_neg (Nat.not_lt.mpr third)

theorem heaters_giveHeat (s : State) (n : Nat) : (s.giveHeat n).iu.heaters = s.iu.heaters := by
  obtain h | h := sendOr_cases s (.heatGive (BitVec.ofNat 8 n)) fun t => t.mapIu fun i => { i with giveLost := some n }
  · rw [State.giveHeat, h, iu_queueInternal]
  · rw [State.giveHeat, h, mapIu_iu, iu_queueInternal]

theorem faultSet_giveHeat (s : State) (n : Nat) (k : FaultKind) (h : s.faultSet k = true) : (s.giveHeat n).faultSet k = true :=
  (keeps_giveHeat s n (closed_grown s) (grown_refl s)).2.2 k h

theorem tripHeater_third (s : State) (p : Pan) (third : 3 ≤ (tripTimes s p).length) :
    (s.tripHeater p).faultSet .heaterTrip = true ∧
      (s.tripHeater p).iu.heaters = (s.mapHeater p fun h => { h with enable := false, trips := [], inService := false }).iu.heaters := by
  have fault : (tripped s p).faultSet .heaterTrip = true := faultSet_raiseFault _ _ _ _ _
  have heaters : (tripped s p).iu.heaters = (s.mapHeater p fun h => { h with enable := false, trips := [], inService := false }).iu.heaters :=
    congrArg Iu.heaters (iu_queueInternal _ _)
  rw [tripHeater_of_third s p third]
  split
  · exact ⟨faultSet_giveHeat _ _ _ fault, (heaters_giveHeat _ _).trans heaters⟩
  · exact ⟨fault, heaters⟩

end Sys2Proof.Proofs
end

section
/-! SUPPORT. Of the heaters, the hand-offs of a step change the shadow duties and the cut alone: service, enable and trip times
stay (R167, R168). -/

namespace Sys2Proof.Proofs

open Sys2Proof Sys2Proof.Machine Sys2Proof.Laws

/-- Service, enable and trip times of a heater. -/
structure HeaterParts where
  inService : Bool
  enable : Bool
  trips : List Moment
deriving DecidableEq

def partsOf (h : Heater) : HeaterParts := ⟨h.inService, h.enable, h.trips⟩

/-- Service, enable and trip times of both heaters. -/
def heaterParts (s : State) : Pair HeaterParts := ⟨partsOf s.iu.heaters.p0, partsOf s.iu.heaters.p1⟩

theorem heaterParts_get (s : State) (p : Pan) : (heaterParts s).get p = partsOf (s.iu.heaters.get p) := by cases p <;> rfl

variable (s : State)

/-! ## Updates of one unit -/

@[simp] theorem heaterParts_mapRlp (f : Rlp → Rlp) : heaterParts (s.mapRlp f) = heaterParts s := rfl
@[simp] theorem heaterParts_mapRu (f : Ru → Ru) : heaterParts (s.mapRu f) = heaterParts s := rfl
@[simp] theorem heaterParts_mapPd (p : Pan) (f : Drive → Drive) : heaterParts (s.mapPd p f) = heaterParts s := rfl
@[simp] theorem heaterParts_mapSg (f : Sg → Sg) : heaterParts (s.mapSg f) = heaterParts s := rfl
@[simp] theorem heaterParts_mapSq (f : Sq → Sq) : heaterParts (s.mapSq f) = heaterParts s := rfl
@[simp] theorem heaterParts_mapCu (f : Cu → Cu) : heaterParts (s.mapCu f) = heaterParts s := rfl
@[simp] theorem heaterParts_mapSc (f : Sc → Sc) : heaterParts (s.mapSc f) = heaterParts s := rfl
@[simp] theorem heaterParts_mapIso (p : Pan) (f : Isolator → Isolator) : heaterParts (s.mapIso p f) = heaterParts s := rfl
@[simp] theorem heaterParts_raiseEvent (e : Event) : heaterParts (s.raiseEvent e) = heaterParts s := rfl
@[simp] theorem heaterParts_withdraw (f : QueuedNotice → Bool) : heaterParts (s.withdraw f) = heaterParts s := rfl

@[simp] theorem heaterParts_mapIu (f : Iu → Iu)
    (h : ∀ i, partsOf (f i).heaters.p0 = partsOf i.heaters.p0 ∧ partsOf (f i).heaters.p1 = partsOf i.heaters.p1) :
    heaterParts (s.mapIu f) = heaterParts s := by
  simp [heaterParts, h]

@[simp] theorem heaterParts_mapHeater (p : Pan) (f : Heater → Heater) (h : ∀ x, partsOf (f x) = partsOf x) :
    heaterParts (s.mapHeater p f) = heaterParts s := by
  cases p <;> simp [heaterParts, State.mapHeater, Pair.set, Pair.get, h]

theorem heaterParts_of_iu {s t : State} (h : t.iu = s.iu) : heaterParts t = heaterParts s := by
  unfold heaterParts
  rw [h]

theorem heaterParts_of_beside {s t : State} (h : iuBeside t.iu = iuBeside s.iu) : heaterParts t = heaterParts s := by
  have heaters : t.iu.heaters = s.iu.heaters := by
    change (iuBeside t.iu).heaters = (iuBeside s.iu).heaters
    rw [h]
  unfold heaterParts
  rw [heaters]

theorem heaterParts_eachFitted (f : Pan → State → State) (h : ∀ p t, heaterParts (f p t) = heaterParts t) :
    heaterParts (s.eachFitted f) = heaterParts s := by
  unfold State.eachFitted
  dsimp only
  split <;> split <;> simp [h]

@[simp] theorem heaterParts_send (n : Notice) : heaterParts (s.send n) = heaterParts s := heaterParts_of_iu (iu_queueInternal s n)

theorem heaterParts_sendOr (n : Notice) (f : State → State) (h : ∀ t, heaterParts (f t) = heaterParts t) :
    heaterParts (s.sendOr n f) = heaterParts s := by
  have queued : heaterParts (s.queueInternal n).1 = heaterParts s := heaterParts_of_iu (iu_queueInternal s n)
  obtain e | e := sendOr_cases s n f
  · rw [e, queued]
  · rw [e, h, queued]

@[simp] theorem heaterParts_addReason (x : Reason) : heaterParts (s.addReason x) = heaterParts s := by
  unfold State.addReason
  split <;> simp

@[simp] theorem heaterParts_removeReason (x : Reason) : heaterParts (s.removeReason x) = heaterParts s := by
  unfold State.removeReason
  split <;> simp

@[simp] theorem heaterParts_raiseFault (k : FaultKind) (d : FaultDetail) (p : Option Pan) (x : Byte) :
    heaterParts (s.raiseFault k d p x) = heaterParts s := by
  rw [State.raiseFault, heaterParts_send]
  rfl

/-! ## The drives -/

@[simp] theorem heaterParts_orderDown (p : Pan) (c : DownCause) : heaterParts (s.orderDown p c) = heaterParts s :=
  heaterParts_of_beside (iuBeside_orderDown s p c)

@[simp] theorem heaterParts_scraperTo (ph : ScraperPhase) : heaterParts (s.scraperTo ph) = heaterParts s := rfl

@[simp] theorem heaterParts_scraperLosesClaim (p : Pan) : heaterParts (s.scraperLosesClaim p) = heaterParts s :=
  heaterParts_of_beside (iuBeside_scraperLosesClaim s p)

@[simp] theorem heaterParts_claimFollows (p : Pan) : heaterParts (s.claimFollows p) = heaterParts s := by
  unfold State.claimFollows
  split <;> simp

@[simp] theorem heaterParts_queueClaim (p : Pan) (r : Role) : heaterParts (s.queueClaim p r) = heaterParts s := by
  unfold State.queueClaim
  rw [heaterParts_sendOr _ _ _ fun t => by simp]
  simp

@[simp] theorem heaterParts_askClaim (p : Pan) (r : Role) : heaterParts (s.askClaim p r).1 = heaterParts s := by
  unfold State.askClaim
  dsimp only
  split <;> simp

@[simp] theorem heaterParts_orderAllDown (c : DownCause) : heaterParts (s.orderAllDown c) = heaterParts s :=
  heaterParts_eachFitted s _ fun p t => heaterParts_orderDown t p c

@[simp] theorem heaterParts_followDrives : heaterParts s.followDrives = heaterParts s := by
  unfold State.followDrives State.refreshShadows
  rw [heaterParts_eachFitted _ _ fun p t => heaterParts_mapPd t p _, heaterParts_eachFitted _ _ fun p t => heaterParts_claimFollows t p]

/-! ## The switchgear and the sections -/

@[simp] theorem heaterParts_answerCu (b : Bool) : heaterParts (s.answerCu b) = heaterParts s := rfl

@[simp] theorem heaterParts_startLeg (x : SelPos) : heaterParts (s.startLeg x) = heaterParts s := rfl

@[simp] theorem heaterParts_requestSelector (x : SelPos) : heaterParts (s.requestSelector x) = heaterParts s := by
  unfold State.requestSelector
  dsimp only
  repeat' split
  all_goals simp

@[simp] theorem heaterParts_selectorArrival : heaterParts s.selectorArrival = heaterParts s := by
  unfold State.selectorArrival
  dsimp only
  repeat' split
  all_goals simp

@[simp] theorem heaterParts_serveIso (p : Pan) : heaterParts (s.serveIso p) = heaterParts s := by
  unfold State.serveIso
  dsimp only
  repeat' split
  all_goals simp

@[simp] theorem heaterParts_requestIso (p : Pan) (x : IsoPos) (b : Bool) : heaterParts (s.requestIso p x b) = heaterParts s := by
  simp [State.requestIso]

@[simp] theorem heaterParts_isoArrival (p : Pan) : heaterParts (s.isoArrival p) = heaterParts s := by
  unfold State.isoArrival
  dsimp only
  repeat' split
  all_goals simp

@[simp] theorem heaterParts_followGear : heaterParts s.followGear = heaterParts s := by
  unfold State.followGear
  rw [heaterParts_selectorArrival, heaterParts_eachFitted _ _ fun p t => by simp]

@[simp] theorem heaterParts_supervise : heaterParts s.supervise = heaterParts s := by
  unfold State.supervise State.gearFault
  dsimp only
  split <;> simp

@[simp] theorem heaterParts_watchDeadLine : heaterParts s.watchDeadLine = heaterParts s := by simp [State.watchDeadLine]

@[simp] theorem heaterParts_neutralTest (p : Pan) : heaterParts (s.neutralTest p) = heaterParts s := by
  unfold State.neutralTest
  dsimp only
  repeat' split
  all_goals simp

@[simp] theorem heaterParts_followSections : heaterParts s.followSections = heaterParts s := by
  unfold State.followSections State.holdRaises State.holdNeutral
  split <;> simp

@[simp] theorem heaterParts_markProposed (k : SectionKey) (b : Bool) : heaterParts (s.markProposed k b) = heaterParts s := rfl

@[simp] theorem heaterParts_autoPropose : heaterParts s.autoPropose = heaterParts s := by
  unfold State.autoPropose
  repeat' split
  case isTrue => rw [heaterParts_sendOr _ _ _ fun t => heaterParts_markProposed t _ _, heaterParts_markProposed]
  all_goals rfl

@[simp] theorem heaterParts_testProposal : heaterParts s.testProposal = heaterParts s := by
  unfold State.testProposal
  split <;> simp

/-! ## The rounds -/

@[simp] theorem heaterParts_roundMoves : heaterParts s.roundMoves = heaterParts s := by simp [State.roundMoves]

@[simp] theorem heaterParts_followUsable : heaterParts s.followUsable = heaterParts s := by
  unfold State.followUsable
  split
  · rfl
  · rw [heaterParts_raiseEvent, heaterParts_mapIu]
    intro i
    split <;> exact ⟨rfl, rfl⟩

@[simp] theorem heaterParts_phaseTo (ph : RoundPhase) : heaterParts (s.phaseTo ph) = heaterParts s := by simp [State.phaseTo]

@[simp] theorem heaterParts_closeLocal : heaterParts s.closeLocal = heaterParts s := by
  simp [State.closeLocal, State.closeRecord, State.announceClose]

@[simp] theorem heaterParts_enterSwitch : heaterParts s.enterSwitch = heaterParts s := by
  unfold State.enterSwitch
  dsimp only
  split <;> simp

@[simp] theorem heaterParts_enterReady : heaterParts s.enterReady = heaterParts s := by simp [State.enterReady]

@[simp] theorem heaterParts_takeAnswer : heaterParts s.takeAnswer = heaterParts s := by
  unfold State.takeAnswer
  dsimp only
  repeat' split
  all_goals simp

@[simp] theorem heaterParts_followPhase : heaterParts s.followPhase = heaterParts s := by
  unfold State.followPhase
  repeat' split
  all_goals simp

@[simp] theorem heaterParts_followProbeEntry : heaterParts s.followProbeEntry = heaterParts s := by
  unfold State.followProbeEntry
  repeat' split
  all_goals simp

@[simp] theorem heaterParts_followProbeWait : heaterParts s.followProbeWait = heaterParts s := by
  unfold State.followProbeWait
  repeat' split
  all_goals simp

@[simp] theorem heaterParts_testProbe : heaterParts s.testProbe = heaterParts s := by
  unfold State.testProbe State.askProbe
  repeat' split
  all_goals simp

/-! ## The ice unit -/

@[simp] theorem heaterParts_refreshIce : heaterParts s.refreshIce = heaterParts s := heaterParts_of_iu (iu_refreshIce s)

@[simp] theorem heaterParts_closeScraper (p : Pan) : heaterParts (s.closeScraper p) = heaterParts s := by simp [State.closeScraper]

@[simp] theorem heaterParts_endScraper : heaterParts s.endScraper = heaterParts s := by
  unfold State.endScraper
  split <;> simp

@[simp] theorem heaterParts_followScraper : heaterParts s.followScraper = heaterParts s := by
  unfold State.followScraper
  dsimp only
  repeat' split
  all_goals simp

@[simp] theorem heaterParts_testScraper : heaterParts s.testScraper = heaterParts s := by
  unfold State.testScraper State.askScraper State.startScraper
  repeat' split
  all_goals simp

@[simp] theorem heaterParts_followDemand : heaterParts s.followDemand = heaterParts s := by
  unfold State.followDemand
  split <;> simp

@[simp] theorem heaterParts_refreshDuties : heaterParts s.refreshDuties = heaterParts s :=
  heaterParts_eachFitted s _ fun p t => heaterParts_mapHeater t p _ fun _ => rfl

@[simp] theorem heaterParts_askHeat : heaterParts s.askHeat = heaterParts s := by
  unfold State.askHeat State.takeFails
  split
  · rw [heaterParts_sendOr _ _ _ fun t => by simp]
    simp
  · rfl

@[simp] theorem heaterParts_testHeat : heaterParts s.testHeat = heaterParts s := by
  unfold State.testHeat
  split <;> simp

@[simp] theorem heaterParts_followIce : heaterParts s.followIce = heaterParts s := by simp [State.followIce]

/-! ## The hand-offs -/

@[simp] theorem heaterParts_followLeave : heaterParts s.followLeave = heaterParts s := by
  unfold State.followLeave State.sendLeave
  split
  · rfl
  · dsimp only
    split
    · rw [heaterParts_sendOr _ _ _ fun t => by simp, heaterParts_mapSc, heaterParts_eachFitted _ _ fun p t => by split <;> simp]
    · rw [heaterParts_eachFitted _ _ fun p t => by split <;> simp]

@[simp] theorem heaterParts_followRound : heaterParts s.followRound = heaterParts s := by simp [State.followRound]

@[simp] theorem heaterParts_react : heaterParts s.react = heaterParts s := by simp [State.react]

@[simp] theorem heaterParts_claimCollector (p : Pan) : heaterParts (s.claimCollector p) = heaterParts s := by
  unfold State.claimCollector
  split <;> simp

@[simp] theorem heaterParts_offers : heaterParts s.offers = heaterParts s := by simp [State.offers]

/-- The hand-offs of a step leave service, enable and trip times of the heaters alone. -/
theorem heaterParts_settle : heaterParts s.settle = heaterParts s := by
  simp [State.settle, State.refreshDeference]

end Sys2Proof.Proofs
end

section
/-! SUPPORT. Thermal trips (R168), and SET-ICE, HEAT and UNBLOCK-HEATER (R153, R169). -/

namespace Sys2Proof.Proofs

open Sys2Proof Sys2Proof.Machine Sys2Proof.Laws

/-! ## Thermal trips -/

theorem exec_thermalTrip (t : Moment) (p : Pan) (s : State) (fitted : s.fitted p = true)
    (enable : (s.iu.heaters.get p).enable = true) :
    exec (.thermalTrip t p) s = .next ((s.advance t).tripHeater p).settle :=
  congrArg Host.Outcome.next (if_pos (by rw [fitted, enable]; rfl))

theorem partsOf_settle (s : State) (p : Pan) : partsOf (s.settle.iu.heaters.get p) = partsOf (s.iu.heaters.get p) := by
  rw [← heaterParts_get, heaterParts_settle, heaterParts_get]

/-- Settles O49. -/
theorem thirdTripTakesTheHeaterOut : Obligations.ThirdTripTakesTheHeaterOut := by
  intro t p s fitted now h recent
  have trips : tripTimes (s.advance t) p = recent ++ [now] := rfl
  have length : (tripTimes (s.advance t) p).length = recent.length + 1 := by rw [trips, List.length_append]; rfl
  refine ⟨fun enable few => ?_, fun enable many => ?_, fun disabled => ?_⟩
  · rw [exec_thermalTrip t p s fitted enable, tripHeater_of_few (s.advance t) p (by omega), trips]
    rfl
  · obtain ⟨fault, heaters⟩ := tripHeater_third (s.advance t) p (by omega)
    have parts : partsOf (((s.advance t).tripHeater p).settle.iu.heaters.get p) = ⟨false, false, []⟩ := by
      rw [partsOf_settle, heaters]
      simp [State.mapHeater, partsOf]
    refine ⟨_, exec_thermalTrip t p s fitted enable, settle_faultSet _ _ fault, ?_, congrArg HeaterParts.inService parts,
      congrArg HeaterParts.enable parts, congrArg HeaterParts.trips parts⟩
    rw [settle_base, base_tripHeater]
    rfl
  · exact congrArg Host.Outcome.next (if_neg (by rw [show (s.iu.heaters.get p).enable = false from disabled]; simp))

/-! ## The ice and heat commands -/

section
variable (t : Moment) (r : Request) (s : State)

theorem exec_setIce (o : Option Ice) (check : r.check = requestCheck 0x28 r.args) (arg : iceArg r.args = some o) :
    exec (.setIce t r) s = .next (((s.advance t).setIce o).taken 0x28 .empty) :=
  congrArg Host.Outcome.next (hosted_ok s t 0x28 r (fun _ => iceArg) _ o check arg)

theorem exec_heat (b : Bool) (check : r.check = requestCheck 0x29 r.args) (arg : onOffArg r.args = some b) :
    exec (.heat t r) s = .next (((s.advance t).mapIu fun i => { i with hostHeat := b }).taken 0x29 .empty) :=
  congrArg Host.Outcome.next (hosted_ok s t 0x29 r (fun _ => onOffArg) _ b check arg)

theorem exec_unblockHeater (p : Pan) (check : r.check = requestCheck 0x2A r.args) (arg : s.panArg r.args = some p) :
    exec (.unblockHeater t r) s = .next (if s.sc.supplyLow then (s.advance t).fails 0x2A .refused
      else ((s.advance t).unblockHeater p).taken 0x2A .empty) :=
  congrArg Host.Outcome.next (hosted_ok s t 0x2A r State.panArg _ p check arg)

end

/-- What the base is after a request that is taken (R171). -/
theorem base_taken_command (s : State) (code : Byte) (d : ResponseData) :
    (s.taken code d).base = { s.base with transaction := some ⟨code, .ok, d⟩ } := by
  rw [State.taken, settle_base]
  rfl

theorem base_setIce_level (s : State) (level : Ice) :
    (s.setIce (some level)).base = { s.base with forced := true, observation := level } := by
  rw [State.setIce, base_observe]
  rfl

theorem iceArg_byte (b : Byte) :
    iceArg [b] = if b = 0 then some (some .clear) else if b = 1 then some (some .watch)
      else if b = 2 then some (some .scrape) else if b = 3 then some none else none := by
  change (if b = 3 then some none else (iceOf b).map some) = _
  by_cases three : b = 3
  · subst three
    rfl
  · rw [if_neg three, if_neg three]
    unfold iceOf
    repeat' split
    all_goals rfl

theorem unblockHeater_of_inService (s : State) (p : Pan) (h : (s.iu.heaters.get p).inService = true) : s.unblockHeater p = s :=
  if_pos h

theorem unblockHeater_of_out (s : State) (p : Pan) (h : (s.iu.heaters.get p).inService = false) :
    s.unblockHeater p = (s.mapHeater p fun h => { h with inService := true, trips := [] }).raiseEvent (.heaterState p) :=
  if_neg (ne_true_of_eq_false h)

/-- A response is given beside the events. -/
theorem respond_raiseEvent (s : State) (e : Event) (code : Byte) (x : ResultCode) (d : ResponseData) :
    (s.raiseEvent e).respond code x d = (s.respond code x d).raiseEvent e := by
  unfold State.raiseEvent State.respond State.mapLcp
  dsimp only
  split <;> rfl

/-- Settles O55. -/
theorem iceAndHeatCommandsSetTheirFlags : Obligations.IceAndHeatCommandsSetTheirFlags := by
  refine ⟨fun t r s check => ?_, fun t r s => ?_⟩
  · refine ⟨fun level arg => ⟨_, exec_setIce t r s _ check arg, ?_⟩, fun arg => ⟨_, exec_setIce t r s _ check arg, ?_⟩, iceArg_byte⟩
    · rw [base_taken_command, base_setIce_level]
      rfl
    · rw [base_taken_command]
      rfl
  · intro answer
    refine ⟨fun b check arg => exec_heat t r s b check arg, fun p check arg => ?_⟩
    intro h
    have runs := exec_unblockHeater t r s p check arg
    refine ⟨fun low => ?_, fun sound inService => ?_, fun sound out => ?_⟩
    · rw [runs, if_pos low]
      rfl
    · rw [runs, if_neg (ne_true_of_eq_false sound), unblockHeater_of_inService (s.advance t) p inService]
      rfl
    · rw [runs, if_neg (ne_true_of_eq_false sound), unblockHeater_of_out (s.advance t) p out, State.taken, respond_raiseEvent]
      rfl

end Sys2Proof.Proofs
end

section
/-! SUPPORT. The command port: requests turned away (R170 to R172), the reads and the bytes of a response (R170, R174 to R177). -/

namespace Sys2Proof.Proofs

open Sys2Proof Sys2Proof.Machine Sys2Proof.Laws

/-! ## Requests turned away -/

/-- What a request of a code does with a parser of arguments: turned away, it answers BAD_CHECK or BAD_ARG alone. -/
theorem hosted_turnedAway {α : Type} (s : State) (t : Moment) (code : Byte) (r : Request) (parse : State → List Byte → Option α)
    (act : α → State → State) :
    (r.check ≠ requestCheck code r.args →
      (.next (s.hosted t code r parse act) : Result) =
        .next { s with now := max s.now t, lcp := { s.lcp with transaction := some ⟨code, .badCheck, .empty⟩ } }) ∧
    (r.check = requestCheck code r.args → (parse s r.args).isSome = false →
      (.next (s.hosted t code r parse act) : Result) =
        .next { s with now := max s.now t, lcp := { s.lcp with transaction := some ⟨code, .badArg, .empty⟩ } }) :=
  ⟨fun check => congrArg Host.Outcome.next (hosted_badCheck s t code r parse act check),
    fun check bad => congrArg Host.Outcome.next
      (hosted_badArg s t code r parse act check (Option.isNone_iff_eq_none.mp (Option.isSome_eq_false_iff.mp bad)))⟩

/-- A command without arguments takes none. -/
theorem noArgs_isSome (args : List Byte) : (noArgs args).isSome = args.isEmpty := by
  cases args <;> rfl

theorem hosted_turnedAway_noArgs (s : State) (t : Moment) (code : Byte) (r : Request) (act : Unit → State → State) :
    (r.check ≠ requestCheck code r.args →
      (.next (s.hosted t code r (fun _ => noArgs) act) : Result) =
        .next { s with now := max s.now t, lcp := { s.lcp with transaction := some ⟨code, .badCheck, .empty⟩ } }) ∧
    (r.check = requestCheck code r.args → r.args.isEmpty = false →
      (.next (s.hosted t code r (fun _ => noArgs) act) : Result) =
        .next { s with now := max s.now t, lcp := { s.lcp with transaction := some ⟨code, .badArg, .empty⟩ } }) := by
  rw [← noArgs_isSome]
  exact hosted_turnedAway s t code r (fun _ => noArgs) act

/-- Settles O50. -/
theorem turnedAwayRequestsHaveNoEffect : Obligations.TurnedAwayRequestsHaveNoEffect := by
  refine ⟨fun t r housed s => ?_, fun t code r received s => ⟨?_, rfl⟩⟩
  · intro out pan none' commands
    simp only [commands, List.cons_append, List.nil_append, List.forall_mem_cons, List.not_mem_nil, false_imp_iff, implies_true, and_true]
    exact ⟨hosted_turnedAway s t _ r _ _, hosted_turnedAway s t _ r _ _, hosted_turnedAway_noArgs s t _ r _,
      hosted_turnedAway_noArgs s t _ r _, hosted_turnedAway s t _ r _ _, hosted_turnedAway s t _ r _ _,
      hosted_turnedAway s t _ r _ _, hosted_turnedAway s t _ r _ _, hosted_turnedAway s t _ r _ _,
      hosted_turnedAway s t _ r _ _, hosted_turnedAway s t _ r _ _, hosted_turnedAway_noArgs s t _ r _,
      hosted_turnedAway s t _ r _ _, hosted_turnedAway s t _ r _ _, hosted_turnedAway s t _ r _ _,
      hosted_turnedAway s t _ r _ _, hosted_turnedAway s t _ r _ _, hosted_turnedAway_noArgs s t _ r _,
      hosted_turnedAway s t _ r _ _, hosted_turnedAway s t _ r _ _, hosted_turnedAway s t _ r _ _,
      hosted_turnedAway_noArgs s t _ r _, hosted_turnedAway s t _ r _ _, hosted_turnedAway_noArgs s t _ r _,
      hosted_turnedAway s t _ r _ _, hosted_turnedAway_noArgs s t _ r _, hosted_turnedAway s t _ r _ _⟩
  · by_cases check : r.check = requestCheck code r.args
    · rw [if_pos check]
      exact (hosted_turnedAway s t code r (fun _ _ => (none : Option Unit)) _).2 check rfl
    · rw [if_neg check]
      exact (hosted_turnedAway s t code r (fun _ _ => (none : Option Unit)) _).1 check

/-! ## The reads -/

theorem next_hosted_ok {α : Type} (s : State) (t : Moment) (code : Byte) (r : Request) (parse : State → List Byte → Option α)
    (act : α → State → State) (a : α) (check : r.check = requestCheck code r.args) (arg : parse s r.args = some a) :
    (.next (s.hosted t code r parse act) : Result) = .next (act a (s.advance t)) :=
  congrArg Host.Outcome.next (hosted_ok s t code r parse act a check arg)

theorem next_hosted_noArgs (s : State) (t : Moment) (code : Byte) (r : Request) (act : Unit → State → State)
    (check : r.check = requestCheck code r.args) (none' : r.args = []) :
    (.next (s.hosted t code r (fun _ => noArgs) act) : Result) = .next (act () (s.advance t)) :=
  next_hosted_ok s t code r (fun _ => noArgs) act () check (by rw [none']; rfl)

/-! ## The bytes of a response (R170, R176) -/

theorem roundKey_length (e : Event) (k : RoundKey) : (k.bytes e).length = 2 := by
  cases k <;> rfl

/-- The values of an event fill four bytes at most (R176). -/
theorem details_length_le (e : Event) : e.details.length ≤ 4 := by
  unfold Event.details
  dsimp only
  split <;> simp [SectionKey.bytes, roundKey_length]

theorem putAt_length (b : Byte) (n : Nat) (l : List Byte) : (putAt b n l).length = l.length + 1 := by
  induction l generalizing n with
  | nil => cases n <;> rfl
  | cons x rest ih =>
    cases n with
    | zero => rfl
    | succ n => simp [putAt, ih]

theorem arrange_length (order : Nat) (l : List Byte) : (arrange order l).length = l.length := by
  unfold arrange
  split
  · simp [putAt_length]
  · rfl

theorem detailBytes_length (e : Event) : e.detailBytes.length = 4 := by
  have filled : (e.details ++ List.replicate (4 - e.details.length) 0).length = 4 := by
    have := details_length_le e
    simp
    omega
  unfold Event.detailBytes
  dsimp only
  split
  · exact filled
  · rw [arrange_length, filled]

theorem record_length (r : EventRecord) : r.bytes.length = 10 := by
  simp [EventRecord.bytes, detailBytes_length]

theorem data_length_le (d : ResponseData) : d.bytes.length ≤ 255 := by
  unfold ResponseData.bytes
  split
  case h_5 head n o => cases head <;> simp [record_length]
  case h_6 =>
    rw [List.length_take]
    exact Nat.min_le_left _ _
  all_goals simp

theorem dataOutput_of_response (s : State) (i : Nat) {bytes : List Byte} (h : s.responseOutput = some bytes) :
    s.dataOutput (some i) = bytes.getD i filler := by
  simp only [State.dataOutput, h]

theorem dataOutput_of_idle (s : State) (i : Option Nat) (h : s.responseOutput = none) : s.dataOutput i = filler := by
  cases i <;> simp [State.dataOutput, h]

/-- Settles O59. -/
theorem readsChangeNothingButTheResponse : Obligations.ReadsChangeNothingButTheResponse := by
  refine ⟨fun t r s => ?_, fun t r s => ?_, fun s x response => ?_, fun s => ⟨rfl, fun idle i => ?_⟩⟩
  · intro w answer
    exact ⟨fun o n check arg => next_hosted_ok s t _ r (fun _ => configReadArg) _ (o, n) check arg,
      fun part check arg => next_hosted_ok s t _ r (fun _ => numberArg 3) _ part check arg,
      fun check arg => next_hosted_noArgs s t _ r _ check arg,
      fun n check arg => next_hosted_ok s t _ r (fun _ => stationArg) _ n check arg,
      fun n p check arg => next_hosted_ok s t _ r (fun _ => entryArg) _ (n, p) check arg⟩
  · intro w answer
    exact ⟨fun p check arg => next_hosted_ok s t _ r _ _ _ check arg, fun check arg => next_hosted_noArgs s t _ r _ check arg,
      fun n check arg => next_hosted_ok s t _ r _ _ _ check arg, fun check arg => next_hosted_noArgs s t _ r _ check arg,
      fun n check arg => next_hosted_ok s t _ r _ _ _ check arg, fun check arg => next_hosted_noArgs s t _ r _ check arg⟩
  · intro d result body frame
    have shown : s.responseOutput = some frame := by
      have code : result = resultByte x.result := by
        simp only [result]
        cases x.result <;> rfl
      simp only [State.responseOutput, response, frame, body, code]
      rfl
    refine ⟨shown, data_length_le _, fun i b at' => ?_, fun i beyond => ?_, fun h => ?_, fun f h => ?_, fun k h => ?_,
      fun m h => ?_, fun head n o h => ?_⟩
    · rw [dataOutput_of_response s i shown, List.getD_eq_getElem?_getD, at']
      rfl
    · rw [dataOutput_of_response s i shown, List.getD_eq_getElem?_getD, List.getElem?_eq_none beyond]
      rfl
    · simp [d, h, ResponseData.bytes]
    · simp [d, h, ResponseData.bytes]
    · simp [d, h, ResponseData.bytes]
    · simp [d, h, ResponseData.bytes, hiByte, loByte]
    · cases o <;> simp [d, h, ResponseData.bytes]
  · exact dataOutput_of_idle s i (by rw [State.responseOutput, idle]; rfl)

end Sys2Proof.Proofs
end

section
/-! SUPPORT. Closing contest records (R43, R44): which records remain, and that of the roster only window-open is cleared. -/

namespace Sys2Proof.Proofs

open Sys2Proof Sys2Proof.Machine Sys2Proof.Laws

/-! ## One record -/

/-- An entry whose window the closing of a record clears: that of the claim in the record (R43). -/
def ClearedBy (contests : List Contest) (tg : Target) (e : Entry) : Prop :=
  ∃ d ∈ contests, d.target = tg ∧ d.body = .claim e.pan ∧ tg.station = e.station

/-- A change of the roster that clears window-open on some entries alone. -/
def ClearsWindows (g : Entry → Entry) (where' : Entry → Prop) : Prop :=
  ∀ e, g e = e ∨ g e = { e with windowOpen := false } ∧ where' e

theorem contest_mem (s : State) (tg : Target) (c : Contest) (h : s.contest tg = some c) : c ∈ s.ru.contests ∧ c.target = tg := by
  refine ⟨List.mem_of_find?_eq_some h, ?_⟩
  simpa using List.find?_some h

theorem dropContest_of_claim (s : State) (tg : Target) (c : Contest) (p : Pan) (h : s.contest tg = some c)
    (claim : c.body = .claim p) :
    s.dropContest tg = (s.mapRu fun r => { r with contests := r.contests.filter fun c => c.target != tg }).mapEntry tg.station p
      fun e => if e.claimSeq = some tg.seq then { e with windowOpen := false } else e := by
  obtain ⟨target, body, due, objected⟩ := c
  subst claim
  simp only [State.dropContest, h]

theorem dropContest_of_other (s : State) (tg : Target) (h : ∀ c, s.contest tg = some c → ∀ p, c.body ≠ .claim p) :
    s.dropContest tg = s.mapRu fun r => { r with contests := r.contests.filter fun c => c.target != tg } := by
  unfold State.dropContest
  dsimp only
  split
  case h_1 p _ _ found => exact absurd rfl (h _ found p)
  case h_2 => rfl

/-- A record taken out: the records of other targets remain, and window-open is cleared on the entry of its claim alone. -/
theorem dropContest_shape (s : State) (tg : Target) :
    ∃ g, s.dropContest tg = { s with ru := { s.ru with
        roster := s.ru.roster.map g, contests := s.ru.contests.filter fun c => c.target != tg } } ∧
      ClearsWindows g (ClearedBy s.ru.contests tg) := by
  by_cases claim : ∃ c p, s.contest tg = some c ∧ c.body = .claim p
  · obtain ⟨c, p, found, body⟩ := claim
    obtain ⟨mem, target⟩ := contest_mem s tg c found
    refine ⟨fun e => if e.station = tg.station && e.pan = p then
      (if e.claimSeq = some tg.seq then { e with windowOpen := false } else e) else e, dropContest_of_claim s tg c p found body, fun e => ?_⟩
    dsimp only
    split
    next key =>
      simp only [Bool.and_eq_true, decide_eq_true_eq] at key
      split
      · exact .inr ⟨rfl, c, mem, target, by rw [body, key.2], key.1.symm⟩
      · exact .inl rfl
    · exact .inl rfl
  · refine ⟨id, ?_, fun e => .inl rfl⟩
    rw [dropContest_of_other s tg fun c found p body => claim ⟨c, p, found, body⟩, List.map_id]
    rfl

/-! ## Several records -/

/-- The records that remain when those of some targets are closed. -/
def remaining (closed : List Contest) (contests : List Contest) : List Contest :=
  contests.filter fun c => closed.all fun d => c.target != d.target

theorem remaining_nil (contests : List Contest) : remaining [] contests = contests :=
  List.filter_eq_self.mpr fun _ _ => rfl

theorem remaining_cons (d : Contest) (rest contests : List Contest) :
    remaining (d :: rest) contests = remaining rest (contests.filter fun c => c.target != d.target) := by
  rw [remaining, remaining, List.filter_filter]
  refine List.filter_congr fun c _ => ?_
  rw [List.all_cons, Bool.and_comm]

theorem clearsWindows_comp {g g' : Entry → Entry} {w w' w'' : Entry → Prop} (first : ClearsWindows g w) (second : ClearsWindows g' w')
    (hw : ∀ e, w e → w'' e) (hw' : ∀ e, w' e → w'' e) :
    ClearsWindows (g' ∘ g) w'' := by
  intro e
  obtain h | ⟨h, at'⟩ := first e
  · rw [Function.comp, h]
    exact (second e).imp_right fun ⟨h', at'⟩ => ⟨h', hw' e at'⟩
  · rw [Function.comp, h]
    refine .inr ⟨?_, hw e at'⟩
    obtain h' | ⟨h', -⟩ := second { e with windowOpen := false }
    · exact h'
    · exact h'

theorem closeAll_shape (l : List Contest) (s : State) :
    ∃ q g, l.foldl (fun t c => t.closeContest c.target) s = { s with
        rlp := { s.rlp with queue := q }
        ru := { s.ru with roster := s.ru.roster.map g, contests := remaining l s.ru.contests } } ∧
      ClearsWindows g fun e => ∃ c ∈ l, ClearedBy s.ru.contests c.target e := by
  induction l generalizing s with
  | nil =>
    refine ⟨s.rlp.queue, id, ?_, fun e => .inl rfl⟩
    rw [List.foldl_nil, remaining_nil, List.map_id]
  | cons d rest ih =>
    obtain ⟨g, drop, clears⟩ := dropContest_shape s d.target
    obtain ⟨q, g', closes, clears'⟩ := ih (s.closeContest d.target)
    obtain ⟨q', step⟩ : ∃ q', s.closeContest d.target = { s with
        rlp := { s.rlp with queue := q' }
        ru := { s.ru with roster := s.ru.roster.map g, contests := s.ru.contests.filter fun c => c.target != d.target } } := by
      unfold State.closeContest
      rw [drop]
      exact ⟨_, rfl⟩
    refine ⟨q, g' ∘ g, ?_, clearsWindows_comp clears clears' (fun e h => ⟨d, by simp, h⟩) fun e h => ?_⟩
    · rw [List.foldl_cons, closes, step, remaining_cons, ← List.map_map]
    · obtain ⟨c, mem, x, there, rest⟩ := h
      rw [step] at there
      exact ⟨c, by simp [mem], x, (List.mem_filter.mp there).1, rest⟩

/-- Every record that satisfies a test closed, with every record of the same target (R44). -/
theorem closeContests_shape (s : State) (p : Contest → Bool) :
    ∃ q g, s.closeContests p = { s with
        rlp := { s.rlp with queue := q }
        ru := { s.ru with roster := s.ru.roster.map g, contests := remaining (s.ru.contests.filter p) s.ru.contests } } ∧
      ClearsWindows g fun e => ∃ c ∈ s.ru.contests, p c = true ∧ ClearedBy s.ru.contests c.target e := by
  obtain ⟨q, g, closes, clears⟩ := closeAll_shape (s.ru.contests.filter p) s
  refine ⟨q, g, closes, fun e => (clears e).imp_right fun ⟨h, c, mem, by'⟩ => ⟨h, c, ?_⟩⟩
  obtain ⟨mem, test⟩ := List.mem_filter.mp mem
  exact ⟨mem, test, by'⟩

theorem mem_remaining (l contests : List Contest) (c : Contest) :
    c ∈ remaining l contests ↔ c ∈ contests ∧ ∀ d ∈ l, c.target ≠ d.target := by
  simp [remaining]

/-! ## The records of a station's claims (R27, R29, R30) -/

/-- What the closing of a station's claims leaves of the records: none of its claims, every record of another station, and
every record whose target no claim shares. -/
structure ClaimsClosed (n : Nat) (before after : List Contest) : Prop where
  kept : ∀ c ∈ after, c ∈ before ∧ (c.target.station = n → ∀ p, c.body ≠ .claim p)
  others : ∀ c ∈ before, c.target.station ≠ n → c ∈ after
  unclaimed : ∀ c ∈ before, (∀ d ∈ before, d.target = c.target → ∀ p, d.body ≠ .claim p) → c ∈ after
  apart : after.filter (fun c => c.target.station != n) = before.filter fun c => c.target.station != n

theorem filter_remaining_apart (n : Nat) (l contests : List Contest) (h : ∀ d ∈ l, d.target.station = n) :
    (remaining l contests).filter (fun c => c.target.station != n) = contests.filter fun c => c.target.station != n := by
  rw [remaining, List.filter_filter]
  refine List.filter_congr fun c _ => ?_
  cases other : c.target.station != n
  · rfl
  · have ne : c.target.station ≠ n := by simpa using other
    simp only [Bool.true_and, List.all_eq_true, bne_iff_ne, ne_eq]
    exact fun d mem same => ne (same ▸ h d mem)

/-- The closing of the claims of a station on one pantograph. -/
theorem closeClaims_shape (s : State) (n : Nat) (p : Pan) :
    ∃ q g cs, s.closeClaims n p = { s with
        rlp := { s.rlp with queue := q }, ru := { s.ru with roster := s.ru.roster.map g, contests := cs } } ∧
      (ClearsWindows g fun e => e.station = n ∧ ∃ c ∈ s.ru.contests, ∃ d ∈ s.ru.contests,
        c.body = .claim p ∧ d.target = c.target ∧ d.body = .claim e.pan) ∧
      cs = remaining (s.ru.contests.filter fun c => c.target.station = n && c.body = .claim p) s.ru.contests := by
  obtain ⟨q, g, closes, clears⟩ := closeContests_shape s fun c => c.target.station = n && c.body = .claim p
  refine ⟨q, g, _, closes, fun e => (clears e).imp_right ?_, rfl⟩
  rintro ⟨h, c, mem, test, d, mem', target, body, station⟩
  simp only [Bool.and_eq_true, decide_eq_true_eq] at test
  exact ⟨h, station.symm.trans test.1, c, mem, d, mem', test.2, target, body⟩

/-- The records of a station's claims closed: queue, window-open and records change, and nothing else. -/
theorem closeStationClaims_shape (s : State) (n : Nat) :
    ∃ q g cs, s.closeStationClaims n = { s with
        rlp := { s.rlp with queue := q }, ru := { s.ru with roster := s.ru.roster.map g, contests := cs } } ∧
      (ClearsWindows g fun e => e.station = n) ∧ ClaimsClosed n s.ru.contests cs := by
  obtain ⟨q, g, cs, closes, clears, first⟩ := closeClaims_shape s n .p0
  obtain ⟨q', g', cs', closes', clears', second⟩ := closeClaims_shape { s with
    rlp := { s.rlp with queue := q }, ru := { s.ru with roster := s.ru.roster.map g, contests := cs } } n .p1
  refine ⟨q', g' ∘ g, cs', ?_, clearsWindows_comp clears clears' (fun e h => h.1) (fun e h => h.1), ?_⟩
  · rw [State.closeStationClaims, closes, closes', ← List.map_map]
  · subst first second
    refine ⟨fun c mem => ?_, fun c mem other => ?_, fun c mem unclaimed => ?_, ?_⟩
    · simp only [mem_remaining, List.mem_filter, Bool.and_eq_true, decide_eq_true_eq] at mem
      obtain ⟨⟨mem, free⟩, free'⟩ := mem
      refine ⟨mem, fun station p claim => ?_⟩
      cases p
      · exact free c ⟨mem, station, claim⟩ rfl
      · exact free' c ⟨⟨mem, free⟩, station, claim⟩ rfl
    · simp only [mem_remaining, List.mem_filter, Bool.and_eq_true, decide_eq_true_eq]
      exact ⟨⟨mem, fun d h same => other (same ▸ h.2.1)⟩, fun d h same => other (same ▸ h.2.1)⟩
    · simp only [mem_remaining, List.mem_filter, Bool.and_eq_true, decide_eq_true_eq]
      exact ⟨⟨mem, fun d h same => unclaimed d h.1 same.symm _ h.2.2⟩, fun d h same => unclaimed d h.1.1 same.symm _ h.2.2⟩
    · rw [filter_remaining_apart n _ _ fun d h => ?_, filter_remaining_apart n _ _ fun d h => ?_]
      all_goals simp only [List.mem_filter, Bool.and_eq_true, decide_eq_true_eq] at h; exact h.2.1

theorem map_cleared (n : Nat) (st : EntryState) (g : Entry → Entry) (h : ClearsWindows g fun e => e.station = n) (l : List Entry) :
    (l.map g).map (fun e => if e.station = n then e.cleared st else e) = l.map fun e => if e.station = n then e.cleared st else e := by
  rw [List.map_map]
  refine List.map_congr_left fun e _ => ?_
  obtain same | ⟨window, station⟩ := h e
  · rw [Function.comp, same]
  · rw [Function.comp, window, if_pos station, if_pos (show ({ e with windowOpen := false } : Entry).station = n from station)]
    rfl

theorem filter_others (n : Nat) (g : Entry → Entry) (h : ClearsWindows g fun e => e.station = n) (l : List Entry) :
    (l.map g).filter (fun e => e.station != n) = l.filter fun e => e.station != n := by
  induction l with
  | nil => rfl
  | cons e rest ih =>
    obtain same | ⟨window, station⟩ := h e
    · rw [List.map_cons, same, List.filter_cons, List.filter_cons, ih]
    · have out : (g e).station = n := by rw [window]; exact station
      rw [List.map_cons, List.filter_cons, List.filter_cons, ih]
      simp [out, station]

/-- The entries of a station made UNKNOWN (R27, R28). -/
theorem loseEntries_shape (s : State) (n : Nat) :
    ∃ q cs, s.loseEntries n = { s with
        rlp := { s.rlp with queue := q }
        ru := { s.ru with
          roster := s.ru.roster.map fun e => if e.station = n then e.cleared .unknown else e, contests := cs } } ∧
      ClaimsClosed n s.ru.contests cs := by
  obtain ⟨q, g, cs, closes, clears, closed⟩ := closeStationClaims_shape s n
  refine ⟨q, cs, ?_, closed⟩
  rw [State.loseEntries, closes, ← map_cleared n .unknown g clears]
  rfl

/-- The entries of a station removed (R29, R30). -/
theorem removeEntries_shape (s : State) (n : Nat) :
    ∃ q cs, s.removeEntries n = { s with
        rlp := { s.rlp with queue := q }
        ru := { s.ru with roster := s.ru.roster.filter fun e => e.station != n, contests := cs } } ∧
      ClaimsClosed n s.ru.contests cs := by
  obtain ⟨q, g, cs, closes, clears, closed⟩ := closeStationClaims_shape s n
  refine ⟨q, cs, ?_, closed⟩
  rw [State.removeEntries, closes, ← filter_others n g clears]
  rfl

end Sys2Proof.Proofs
end

section
/-! SUPPORT. The roster's timers (R27, R29), FORGET (R30) and the end of an objection window (R43). -/

namespace Sys2Proof.Proofs

open Sys2Proof Sys2Proof.Machine Sys2Proof.Laws

/-! ## The timers of a peer -/

theorem silent_shape (s : State) (n : Nat) :
    ∃ cs, (s.silent n).base = { s.base with
        peers := tableSet s.ru.peers n { s.peer n with status := .silent, silence := none }
        roster := s.ru.roster.map fun e => if e.station = n then e.cleared .unknown else e, contests := cs } ∧
      (s.silent n).ru.contests = cs ∧ ClaimsClosed n s.ru.contests cs := by
  obtain ⟨q, cs, loses, closed⟩ := loseEntries_shape (s.mapPeer n fun x => { x with status := .silent, silence := none }) n
  refine ⟨cs, ?_, ?_, closed⟩
  · rw [State.silent, base_raiseEvent, loses]
    rfl
  · change (State.loseEntries _ n).ru.contests = cs
    rw [loses]

theorem dropClear_shape (s : State) (n : Nat) :
    ∃ cs, (s.dropClear n).base = { s.base with
        peers := tableSet s.ru.peers n { s.peer n with dropClear := none }
        roster := s.ru.roster.filter fun e => e.station != n, contests := cs } ∧
      (s.dropClear n).ru.contests = cs ∧ ClaimsClosed n s.ru.contests cs := by
  obtain ⟨q, cs, removes, closed⟩ := removeEntries_shape (s.mapPeer n fun x => { x with dropClear := none }) n
  refine ⟨cs, ?_, ?_, closed⟩
  · rw [State.dropClear, removes]
    rfl
  · rw [State.dropClear, removes]

/-- Settles O20. -/
theorem peerTimersClearTheEntries : Obligations.PeerTimersClearTheEntries := by
  refine ⟨fun t due n s running => ?_, fun t due n s running => ?_⟩
  · obtain ⟨cs, base, contests, closed⟩ := silent_shape (s.advance (max t due)) n
    refine ⟨_, next_expire_of_running s t due _ _ running, ?_⟩
    rw [settle_base, settle_contests, contests, base]
    exact ⟨rfl, closed.kept, closed.others, closed.unclaimed⟩
  · obtain ⟨cs, base, contests, closed⟩ := dropClear_shape (s.advance (max t due)) n
    refine ⟨_, next_expire_of_running s t due _ _ running, ?_⟩
    rw [settle_base, settle_contests, contests, base]
    exact ⟨rfl, closed.kept, closed.others, closed.unclaimed⟩

/-! ## FORGET -/

theorem remaining_station (n : Nat) (contests : List Contest) :
    remaining (contests.filter fun c => c.target.station = n) contests = contests.filter fun c => c.target.station != n := by
  refine List.filter_congr fun c mem => ?_
  rw [Bool.eq_iff_iff]
  simp only [List.all_eq_true, List.mem_filter, decide_eq_true_eq, bne_iff_ne, ne_eq]
  exact ⟨fun h station => h c ⟨mem, station⟩ rfl, fun h d ⟨_, station⟩ same => h (same ▸ station)⟩

/-- Every record of a station's notices closed, where the station has no entries (R30). -/
theorem closeStation_base (s : State) (n : Nat) (noEntries : ∀ e ∈ s.ru.roster, e.station ≠ n) :
    (s.closeStation n).base = { s.base with contests := s.ru.contests.filter fun c => c.target.station != n } := by
  obtain ⟨q, g, closes, clears⟩ := closeContests_shape s fun c => c.target.station = n
  have roster : s.ru.roster.map g = s.ru.roster := by
    refine (List.map_congr_left fun e mem => ?_).trans (List.map_id _)
    obtain same | ⟨-, c, -, station, d, -, -, -, key⟩ := clears e
    · exact same
    · exact absurd (key.symm.trans (by simpa using station)) (noEntries e mem)
  rw [State.closeStation, base_withdraw, closes, roster, remaining_station]
  rfl

theorem base_setGrant (s : State) (n units : Nat) :
    (s.setGrant n units).base = { s.base with grants := putGrant n units s.base.grants } := by
  unfold State.setGrant
  dsimp only
  rw [base_followUsable]
  split
  · rw [base_raiseEvent]
    rfl
  · rfl

theorem base_peerReset (s : State) (n : Nat) :
    (s.mapPeer n fun _ => Peer.reset).base = { s.base with peers := tableSet s.base.peers n Peer.reset } := rfl

theorem base_tableCleared (s : State) (n : Nat) :
    (s.mapIu fun i => { i with table := tableSet i.table n none }).base = { s.base with table := tableSet s.base.table n none } := rfl

theorem base_expect (s : State) (n : Nat) (q : Option Byte) :
    (s.expect n q).base = { s.base with expected := tableSet s.base.expected n q } := rfl

theorem base_dropReady (s : State) (n : Nat) : (s.dropReady n).base = s.base := rfl

theorem forget_base (s : State) (n : Nat) :
    (s.forget n).base = { s.base with
      peers := tableSet s.ru.peers n Peer.reset
      roster := s.ru.roster.filter fun e => e.station != n
      contests := s.ru.contests.filter fun c => c.target.station != n
      table := tableSet s.iu.table n none
      grants := putGrant n 0 s.iu.grants
      expected := tableSet s.rlp.expected n none } := by
  obtain ⟨q, cs, removes, closed⟩ := removeEntries_shape s n
  have closes : ((s.removeEntries n).closeStation n).base = { s.base with
      roster := s.ru.roster.filter fun e => e.station != n, contests := s.ru.contests.filter fun c => c.target.station != n } := by
    rw [closeStation_base _ n (by rw [removes]; simp), removes, ← closed.apart]
    rfl
  rw [State.forget, base_expect, base_dropReady, base_tableCleared, base_setGrant, base_peerReset, closes]
  rfl

theorem exec_forget (t : Moment) (r : Request) (s : State) (n : Nat) (check : r.check = requestCheck 0x24 r.args)
    (arg : stationArg r.args = some n) :
    exec (.forget t r) s = .next (if s.mayForget n then ((s.advance t).forget n).taken 0x24 .empty
      else (s.advance t).fails 0x24 .refused) :=
  next_hosted_ok s t 0x24 r (fun _ => stationArg) _ n check arg

/-- Settles O54. -/
theorem forgetRemovesThePeer : Obligations.ForgetRemovesThePeer := by
  intro t r s n check arg may done
  have runs := exec_forget t r s n check arg
  refine ⟨fun yes => ?_, fun no => ?_⟩
  · refine ⟨_, runs.trans (congrArg Host.Outcome.next (if_pos yes)), ?_⟩
    rw [base_taken_command, forget_base]
    rfl
  · exact runs.trans (congrArg Host.Outcome.next (if_neg (ne_true_of_eq_false no)))

end Sys2Proof.Proofs
end

section
/-! SUPPORT. The end of an objection window (R43). -/

namespace Sys2Proof.Proofs

open Sys2Proof Sys2Proof.Machine Sys2Proof.Laws

/-- The roster after the record of a target has been taken out: window-open is cleared on the entry of its claim (R43). -/
def rosterAfter (roster : List Entry) (target : Target) (body : ContestBody) : List Entry :=
  match body with
  | .claim p => roster.map fun e =>
    if e.station = target.station && e.pan = p then
      (if e.claimSeq = some target.seq then { e with windowOpen := false } else e)
    else e
  | _ => roster

theorem dropContest_base (s : State) (target : Target) (c : Contest) (found : s.contest target = some c) :
    (s.dropContest target).base = { s.base with
      contests := s.ru.contests.filter fun x => x.target != target, roster := rosterAfter s.ru.roster target c.body } := by
  by_cases claim : ∃ p, c.body = .claim p
  · obtain ⟨p, body⟩ := claim
    rw [dropContest_of_claim s target c p found body, body]
    rfl
  · have other : rosterAfter s.ru.roster target c.body = s.ru.roster := by
      unfold rosterAfter
      split
      case h_1 p body => exact absurd ⟨p, body⟩ claim
      case h_2 => rfl
    rw [dropContest_of_other s target fun d same p body => claim ⟨p, Option.some.inj (found.symm.trans same) ▸ body⟩, other]
    rfl

theorem exec_windowTimerExpiry (t : Moment) (target : Target) (s : State) (c : Contest) (found : s.contest target = some c) :
    exec (.windowTimerExpiry t target) s = .next ((s.advance (max t c.due)).windowEnds c).settle := by
  change Host.Outcome.next _ = _
  rw [found]

theorem windowEnds_eq (s : State) (target : Target) (c : Contest) (found : s.contest target = some c) :
    s.windowEnds c = if target.station = s.own && !c.objected then (s.dropContest target).handGoAhead c else s.dropContest target := by
  obtain ⟨-, rfl⟩ := contest_mem s target c found
  rfl

@[simp] theorem base_goAhead (s : State) (p : Pan) (seq : Byte) : (s.goAhead p seq).base = s.base := by
  unfold State.goAhead
  dsimp only
  repeat' split
  all_goals simp [base_enterRaising]

@[simp] theorem base_scraperReopens (s : State) (p : Pan) : (s.scraperReopens p).base = s.base := by
  unfold State.scraperReopens
  split <;> simp

@[simp] theorem base_handGoAhead (s : State) (c : Contest) : (s.handGoAhead c).base = s.base := by
  unfold State.handGoAhead
  repeat' split
  all_goals simp

theorem handGoAhead_claim (s : State) (c : Contest) (p : Pan) (body : c.body = .claim p) :
    s.handGoAhead c = if (s.ownEntry p).any fun e => e.state = .claimed && e.claimSeq = some c.target.seq then
      (s.goAhead p c.target.seq).scraperReopens p else s := by
  simp only [State.handGoAhead, body]

theorem handGoAhead_heatTake (s : State) (c : Contest) (saved carried : Nat) (body : c.body = .heatTake saved carried) :
    s.handGoAhead c = s.mapIu fun i => { i with takePending := false } := by
  simp only [State.handGoAhead, body]

theorem handGoAhead_regime (s : State) (c : Contest) (band : Fin 4) (d : Direction) (body : c.body = .regime band d) :
    s.handGoAhead c = s := by
  simp only [State.handGoAhead, body]

/-- Settles O21. -/
theorem windowEndClosesTheRecord : Obligations.WindowEndClosesTheRecord := by
  refine fun t target s => ⟨fun c found => ?_, fun c found => ?_, fun none' => ?_⟩
  · have found' : (s.advance (max t c.due)).contest target = some c := found
    refine ⟨_, exec_windowTimerExpiry t target s c found, ?_⟩
    have base : ((s.advance (max t c.due)).windowEnds c).base = ((s.advance (max t c.due)).dropContest target).base := by
      rw [windowEnds_eq _ target c found']
      split
      · exact base_handGoAhead _ c
      · rfl
    rw [settle_base, base, dropContest_base _ target c found']
    rfl
  · intro w
    have same : c.target = target := (contest_mem s target c found).2
    have runs : exec (.windowTimerExpiry t target) s =
        .next (if target.station = s.own && !c.objected then w.handGoAhead c else w).settle := by
      rw [exec_windowTimerExpiry t target s c found, windowEnds_eq (s.advance (max t c.due)) target c found]
      rfl
    refine ⟨fun stays => ?_, fun own free => ?_⟩
    · have idle : (decide (target.station = s.own) && !c.objected) = false := by
        rcases stays with stays | stays <;> simp [stays]
      rw [runs, if_neg (ne_true_of_eq_false idle)]
    · have goes : (decide (target.station = s.own) && !c.objected) = true := by simp [own, free]
      rw [if_pos goes] at runs
      refine ⟨fun band d body => ?_, fun saved carried body => ?_, fun p e body entry state seq => ?_, fun p e body entry other => ?_⟩
      · rw [runs, handGoAhead_regime w c band d body]
      · rw [runs, handGoAhead_heatTake w c saved carried body]
        rfl
      · rw [runs, handGoAhead_claim w c p body, same, if_pos (by simp [entry, state, seq])]
      · rw [runs, handGoAhead_claim w c p body, same, if_neg (by rcases other with h | h <;> simp [entry, h])]
  · change Host.Outcome.next _ = _
    rw [none']
    rfl

end Sys2Proof.Proofs
end

section
/-! SUPPORT. CLEAR-FAULTS and the end of a READ-EVENT's response (R104, R161, R177, R179), and WRITE-CONFIG (R181, R182). -/

namespace Sys2Proof.Proofs

open Sys2Proof Sys2Proof.Machine Sys2Proof.Laws

/-! ## Requests to an isolator beside the switchgear's own records -/

theorem serveIso_beside (s : State) (p : Pan) :
    (s.serveIso p).iu = s.iu ∧ (s.serveIso p).lcp.faults = s.lcp.faults ∧ (s.serveIso p).sg.reasons = s.sg.reasons := by
  unfold State.serveIso
  dsimp only
  repeat' split
  all_goals exact ⟨rfl, by simp [State.mapIso], rfl⟩

theorem requestIso_beside (s : State) (p : Pan) (x : IsoPos) (b : Bool) :
    (s.requestIso p x b).iu = s.iu ∧ (s.requestIso p x b).lcp.faults = s.lcp.faults ∧
      (s.requestIso p x b).sg.reasons = s.sg.reasons := serveIso_beside _ p

/-- A barred flag cleared changes no fault, no reason and no other flag (R161). -/
theorem unbar_beside (s : State) (p : Pan) :
    (s.unbar p).lcp.faults = s.lcp.faults ∧ (s.unbar p).sg.reasons = s.sg.reasons ∧
      (s.unbar p).iu.scraper.barred = s.iu.scraper.barred.set p false := by
  unfold State.unbar
  split
  case isTrue =>
    dsimp only
    split
    · obtain ⟨iu, faults, reasons⟩ := requestIso_beside
        (s.mapIu fun i => { i with scraper := { i.scraper with barred := i.scraper.barred.set p false } }) p .closed true
      exact ⟨faults, reasons, by rw [iu]; rfl⟩
    · exact ⟨rfl, rfl, rfl⟩
  case isFalse free =>
    have clear : s.iu.scraper.barred.get p = false := eq_false_of_ne_true free
    exact ⟨rfl, rfl, by rw [← clear, pair_set_get]⟩

@[simp] theorem base_unbar (s : State) (p : Pan) : (s.unbar p).base = s.base := by
  unfold State.unbar
  dsimp only
  repeat' split
  all_goals simp

theorem removeReason_faults (s : State) (x : Reason) : (s.removeReason x).lcp.faults = s.lcp.faults := by
  unfold State.removeReason
  split <;> simp

theorem removeReason_iu (s : State) (x : Reason) : (s.removeReason x).iu = s.iu := by
  unfold State.removeReason
  split <;> rfl

/-! ## CLEAR-FAULTS -/

/-- The bits cleared (R179). -/
def maskedFaults (s : State) (mask : Word16) : State :=
  s.mapLcp fun l => { l with faults := l.faults &&& ~~~(mask.setWidth 11) }

/-- The FAULT reason after the bits (R104). -/
def releasedGear (s : State) (mask : Word16) : State :=
  if (maskedFaults s mask).gearFaulted then maskedFaults s mask else (maskedFaults s mask).removeReason .fault

theorem clearFaults_eq (s : State) (mask : Word16) :
    s.clearFaults mask = if (releasedGear s mask).faultSet .isolatorTimeout then releasedGear s mask
      else ((releasedGear s mask).unbar .p0).unbar .p1 := rfl

theorem releasedGear_faults (s : State) (mask : Word16) :
    (releasedGear s mask).lcp.faults = s.lcp.faults &&& ~~~(mask.setWidth 11) := by
  unfold releasedGear
  split
  · rfl
  · rw [removeReason_faults]
    rfl

theorem releasedGear_iu (s : State) (mask : Word16) : (releasedGear s mask).iu = s.iu := by
  unfold releasedGear
  split
  · rfl
  · rw [removeReason_iu]
    rfl

theorem clearFaults_faults (s : State) (mask : Word16) :
    (s.clearFaults mask).lcp.faults = s.lcp.faults &&& ~~~(mask.setWidth 11) := by
  rw [clearFaults_eq]
  split
  · exact releasedGear_faults s mask
  · rw [(unbar_beside _ _).1, (unbar_beside _ _).1, releasedGear_faults]

theorem clearFaults_reasons (s : State) (mask : Word16) : (s.clearFaults mask).sg.reasons = (releasedGear s mask).sg.reasons := by
  rw [clearFaults_eq]
  split
  · rfl
  · rw [(unbar_beside _ _).2.1, (unbar_beside _ _).2.1]

theorem clearFaults_barred (s : State) (mask : Word16) :
    (s.clearFaults mask).iu.scraper.barred =
      if (s.lcp.faults &&& ~~~(mask.setWidth 11)).getLsbD (faultBit .isolatorTimeout) then s.iu.scraper.barred else ⟨false, false⟩ := by
  rw [clearFaults_eq, State.faultSet, releasedGear_faults]
  split
  · rw [releasedGear_iu]
  · rw [(unbar_beside _ _).2.2, (unbar_beside _ _).2.2]
    rfl

theorem base_clearFaults (s : State) (mask : Word16) : (s.clearFaults mask).base = s.base := by
  have released : (releasedGear s mask).base = s.base := by
    unfold releasedGear
    split
    · rfl
    · rw [base_removeReason]
      rfl
  rw [clearFaults_eq]
  split
  · exact released
  · rw [base_unbar, base_unbar, released]

theorem exec_clearFaults (t : Moment) (r : Request) (s : State) (mask : Word16) (check : r.check = requestCheck 0x40 r.args)
    (arg : maskArg r.args = some mask) :
    exec (.clearFaults t r) s =
      .next (((s.advance t).clearFaults mask).taken 0x40 (.faults ((s.advance t).clearFaults mask).faultSummary)) :=
  next_hosted_ok s t 0x40 r (fun _ => maskArg) _ mask check arg

/-! ## The end of a READ-EVENT's response -/

theorem carriesEvent_iff (l : Lcp) :
    l.carriesEvent = true ↔ ∃ code x head n o, l.transaction = some ⟨code, x, .event (some head) n o⟩ := by
  unfold Lcp.carriesEvent
  split
  case h_1 code x head n o h => simp [h]
  case h_2 h =>
    refine ⟨fun f => absurd f (by decide), ?_⟩
    rintro ⟨code, x, head, n, o, e⟩
    exact absurd e (h code x head n o)

/-- Settles O56. -/
theorem faultsAreClearedAndEventsRemoved : Obligations.FaultsAreClearedAndEventsRemoved := by
  refine ⟨fun t r s mask check arg => ?_, fun t s => ⟨fun head n o transaction => ?_, fun other => ?_⟩⟩
  · intro left
    have faults : ((s.advance t).clearFaults mask).lcp.faults = left := clearFaults_faults (s.advance t) mask
    have reasons := clearFaults_reasons (s.advance t) mask
    have barred := clearFaults_barred (s.advance t) mask
    have gear : (maskedFaults (s.advance t) mask).gearFaulted = (left.getLsbD (faultBit .selectorTimeout) ||
      left.getLsbD (faultBit .isolatorTimeout) || left.getLsbD (faultBit .voltageMismatch)) := rfl
    refine ⟨_, exec_clearFaults t r s mask check arg, faults, fun h1 h2 h3 => ?_, fun h => ?_, fun h => ?_, fun h => ?_, ?_⟩
    · refine (congrArg Reasons.fault reasons).trans ?_
      rw [releasedGear, gear, h1, h2, h3]
      exact removeReason_holds _ .fault
    · refine reasons.trans ?_
      have on : (maskedFaults (s.advance t) mask).gearFaulted = true := by
        rw [gear]
        rcases h with h | h | h <;> simp [h]
      rw [releasedGear, if_pos on]
      rfl
    · exact barred.trans (if_neg (ne_true_of_eq_false h))
    · exact barred.trans (if_pos h)
    · rw [base_respond, base_clearFaults, State.faultSummary, faults]
      rfl
  · have carries : s.lcp.carriesEvent = true := (carriesEvent_iff s.lcp).mpr ⟨_, _, head, n, o, transaction⟩
    refine congrArg Host.Outcome.next ((if_pos carries).trans ?_)
    have more : (!(s.lcp.events.drop 1).isEmpty) = decide (2 ≤ s.lcp.events.length) := by
      rcases s.lcp.events with _ | ⟨_, _ | ⟨_, _⟩⟩ <;> simp
    rw [← more]
    rfl
  · have idle : ¬ s.lcp.carriesEvent = true := fun h => by
      obtain ⟨code, x, head, n, o, e⟩ := (carriesEvent_iff s.lcp).mp h
      exact other code x head n o e
    exact congrArg Host.Outcome.next (if_neg idle)

/-! ## WRITE-CONFIG -/

theorem refit_sc (s : State) (before housed : Bool) (p : Pan) : (s.refit before housed p).sc = s.sc := by
  unfold State.refit
  split <;> rfl

theorem refit_now (s : State) (before housed : Bool) (p : Pan) : (s.refit before housed p).now = s.now := by
  unfold State.refit
  split <;> rfl

theorem refit_of_same (s : State) (before housed : Bool) (p : Pan) (h : before = s.fitted p) : s.refit before housed p = s :=
  if_pos h

/-- The block written and the fingerprint computed again, before the pantographs are looked at (R181, R182). -/
def written (s : State) (offset : Nat) (data : List Byte) : State :=
  { s with sc := { s.sc with
    config := s.sc.config.writeAll offset data
    fingerprint := if offset < 28 then fingerprintOf (s.sc.config.writeAll offset data) else s.sc.fingerprint } }

theorem writeConfig_eq (s : State) (offset : Nat) (data : List Byte) (housed : Pair Bool) :
    s.writeConfig offset data housed =
      ((written s offset data).refit (s.fitted .p0) housed.p0 .p0).refit (s.fitted .p1) housed.p1 .p1 := rfl

theorem writeConfig_sc (s : State) (offset : Nat) (data : List Byte) (housed : Pair Bool) :
    (s.writeConfig offset data housed).sc = (written s offset data).sc := by
  rw [writeConfig_eq, refit_sc, refit_sc]

theorem writeConfig_now (s : State) (offset : Nat) (data : List Byte) (housed : Pair Bool) :
    (s.writeConfig offset data housed).now = s.now := by
  rw [writeConfig_eq, refit_now, refit_now]
  rfl

/-- With the same pantographs fitted nothing else changes (R181). -/
theorem writeConfig_of_sameFitted (s : State) (offset : Nat) (data : List Byte) (housed : Pair Bool)
    (h : ∀ p, s.fitted p = (written s offset data).fitted p) : s.writeConfig offset data housed = written s offset data := by
  rw [writeConfig_eq, refit_of_same _ _ _ _ (h .p0), refit_of_same _ _ _ _ (h .p1)]

theorem exec_writeConfig (t : Moment) (r : Request) (housed : Pair Bool) (s : State) (offset : Nat) (data : List Byte)
    (check : r.check = requestCheck 0x01 r.args) (arg : s.configWriteArg r.args = some (offset, data)) :
    exec (.writeConfig t r housed) s = .next (if s.sc.locked then (s.advance t).fails 0x01 .locked
      else ((s.advance t).writeConfig offset data housed).taken 0x01
        (.fingerprint ((s.advance t).writeConfig offset data housed).sc.fingerprint)) :=
  next_hosted_ok s t 0x01 r State.configWriteArg _ (offset, data) check arg

/-- Settles O57. -/
theorem writeConfigWritesItsBytesAlone : Obligations.WriteConfigWritesItsBytesAlone := by
  intro t r housed s offset data check arg
  have runs := exec_writeConfig t r housed s offset data check arg
  refine ⟨fun locked => runs.trans (congrArg Host.Outcome.next (if_pos locked)), fun free canonical => ?_⟩
  have sc := writeConfig_sc (s.advance t) offset data housed
  refine ⟨_, runs.trans (congrArg Host.Outcome.next (if_neg (ne_true_of_eq_false free))), ?_, fun a => ?_, ?_, ?_, fun fitted => ?_⟩
  · rw [State.taken, settle_now]
    exact writeConfig_now (s.advance t) offset data housed
  · rw [State.taken, settle_config]
    refine (congrArg (fun x : Sc => x.config.read a) sc).trans ?_
    exact read_writeAll data s.sc.config offset a (configWriteArg_within arg) canonical
  · rw [State.taken, settle_fingerprint, settle_config]
    refine (congrArg Sc.fingerprint sc).trans ?_
    change _ = if offset < 28 then fingerprintOf ((s.advance t).writeConfig offset data housed).sc.config else _
    rw [sc]
    rfl
  · rw [State.taken, settle_transaction, settle_fingerprint]
    rfl
  · rw [writeConfig_of_sameFitted (s.advance t) offset data housed fitted]
    rw [base_taken_command, State.taken, settle_config, settle_fingerprint, settle_transaction]
    rfl

end Sys2Proof.Proofs
end

section
/-! SUPPORT. Notices that enter the transmit queue: those of the units' rules (R12, R14) and those of the host (R13). -/

namespace Sys2Proof.Proofs

open Sys2Proof Sys2Proof.Machine Sys2Proof.Laws

/-! ## Internal notices -/

section
variable (s : State) (x : Notice)

theorem transmits_iff : s.transmits = true ↔ s.rlp.port = .joining ∨ s.rlp.port = .online := by
  simp [State.transmits]

theorem queueInternal_of_closed (h : ¬ ((s.rlp.port = .joining ∨ s.rlp.port = .online) ∧ s.ventedHeld = false)) :
    s.queueInternal x = (s, .turnedAway) := by
  refine if_pos ?_
  rw [← transmits_iff] at h
  cases ht : s.transmits
  · rfl
  · cases hv : s.ventedHeld
    · exact absurd ⟨ht, hv⟩ h
    · rfl

theorem queueInternal_of_full (transmits : s.transmits = true) (vented : s.ventedHeld = false) (full : 16 ≤ s.rlp.queue.length) :
    s.queueInternal x = match removeLast (fun q => q.host && !q.inAttempt) s.rlp.queue with
      | some (old, rest) =>
        (((s.mapRlp fun r => { r with queue := rest }).raiseEvent (.txDiscarded old.notice.kind)).enqueue x false, .admitted)
      | none => ((s.raiseEvent (.txLost x.kind)).fillPresent, .lost) := by
  have crowded : ¬ s.rlp.queue.length < queueCapacity := Nat.not_lt.mpr full
  simp only [State.queueInternal, transmits, vented, crowded, if_false, Bool.not_true, Bool.or_self, Bool.false_eq_true] <;> rfl

/-- The state in which a notice has taken the place of the newest host notice (R14). -/
def replacing (before after : List QueuedNotice) (old : QueuedNotice) : State :=
  { s.raiseEvent (.txDiscarded old.notice.kind) with
    rlp := { s.rlp with queue := (before ++ after) ++ [⟨x, false, false, false⟩] } }

theorem queueInternal_replaces (transmits : s.transmits = true) (vented : s.ventedHeld = false) (full : 16 ≤ s.rlp.queue.length)
    (before after : List QueuedNotice) (old : QueuedNotice) (queue : s.rlp.queue = before ++ old :: after) (host : old.host = true)
    (free : old.inAttempt = false) (newest : ∀ q ∈ after, q.host = true → q.inAttempt = true) :
    s.queueInternal x = (replacing s x before after old, .admitted) := by
  have found : removeLast (fun q => q.host && !q.inAttempt) s.rlp.queue = some (old, before ++ after) := by
    rw [queue]
    exact removeLast_split _ old after (by simp [host, free]) (fun q mem => by
      cases h : q.host
      · rfl
      · simp [newest q mem h]) before
  rw [queueInternal_of_full s x transmits vented full, found]
  rfl

/-- The state in which a notice has been lost (R14, R16). -/
def losing : State :=
  { s.raiseEvent (.txLost x.kind) with rlp := { s.rlp with
    slot := some (if s.rlp.slot = some .join then .join else .present)
    attempt := s.rlp.attempt.map fun a => if a.notice.kind = .present then { a with fromSlot := false } else a } }

theorem fillPresent_of_admitting (transmits : s.transmits = true) (vented : s.ventedHeld = false) :
    s.fillPresent = { s with rlp := { s.rlp with
      slot := some (if s.rlp.slot = some .join then .join else .present)
      attempt := s.rlp.attempt.map fun a => if a.notice.kind = .present then { a with fromSlot := false } else a } } := by
  rw [State.fillPresent, if_pos (by simp [transmits, vented])]
  unfold State.mapRlp
  dsimp only
  split <;> rfl

theorem queueInternal_loses (transmits : s.transmits = true) (vented : s.ventedHeld = false) (full : 16 ≤ s.rlp.queue.length)
    (none' : ∀ q ∈ s.rlp.queue, q.host = true → q.inAttempt = true) :
    s.queueInternal x = (losing s x, .lost) := by
  have absent : removeLast (fun q => q.host && !q.inAttempt) s.rlp.queue = none :=
    removeLast_eq_none _ _ fun q mem => by
      cases h : q.host
      · rfl
      · simp [none' q mem h]
  rw [queueInternal_of_full s x transmits vented full, absent]
  exact congrArg (·, Admit.lost) (fillPresent_of_admitting (s.raiseEvent (.txLost x.kind)) transmits vented)

/-- A notice admitted, or turned away, is sent alike whatever its unit does at a loss. -/
theorem sends_of_notLost {u : State} {a : Admit} (h : s.queueInternal x = (u, a)) (kept : a ≠ .lost) (lost : State → State) :
    s.send x = u ∧ s.sendOr x lost = u := by
  refine ⟨congrArg Prod.fst h, ?_⟩
  unfold State.sendOr
  rw [h]
  cases a
  case lost => exact absurd rfl kept
  all_goals rfl

theorem sends_of_lost {u : State} (h : s.queueInternal x = (u, .lost)) (lost : State → State) :
    s.send x = u ∧ s.sendOr x lost = lost u := by
  refine ⟨congrArg Prod.fst h, ?_⟩
  unfold State.sendOr
  rw [h]

end

/-! ## Host notices -/

section
variable (s : State) (code : Byte) (may : Bool) (n : Notice) (d : ResponseData) (f : State → State)

theorem hostNotice_of_notJoined (h : s.rlp.port ≠ .online) : s.hostNotice code may n d f = s.fails code .notJoined :=
  if_pos (by simpa using h)

theorem hostNotice_of_refused (online : s.rlp.port = .online) (h : may = false) :
    s.hostNotice code may n d f = s.fails code .refused := by
  simp [State.hostNotice, online, h]

theorem hostNotice_of_full (online : s.rlp.port = .online) (h : may = true) (full : (s.hostFull || s.ventedHeld) = true) :
    s.hostNotice code may n d f = s.fails code .queueFull := by
  simp only [State.hostNotice, online, h, full, bne_self_eq_false, Bool.not_true, Bool.false_eq_true, if_false, if_true]

theorem hostNotice_of_free (online : s.rlp.port = .online) (h : may = true) (free : (s.hostFull || s.ventedHeld) = false) :
    s.hostNotice code may n d f = ((f s).enqueue n true).taken code d := by
  simp only [State.hostNotice, online, h, free, bne_self_eq_false, Bool.not_true, Bool.false_eq_true, if_false]

/-- The four answers to a command that queues a notice of the host (R13, R171). -/
theorem hostNotice_answers {r : Result} (h : r = .next (s.hostNotice code may n d f)) :
    (s.rlp.port ≠ .online → r = .next (s.fails code .notJoined)) ∧
    (s.rlp.port = .online → may = false → r = .next (s.fails code .refused)) ∧
    (s.rlp.port = .online → may = true → (s.hostFull || s.ventedHeld) = true → r = .next (s.fails code .queueFull)) ∧
    (s.rlp.port = .online → may = true → (s.hostFull || s.ventedHeld) = false →
      r = .next (((f s).enqueue n true).taken code d)) := by
  subst h
  refine ⟨fun closed => ?_, fun online refused => ?_, fun online allowed full => ?_, fun online allowed free => ?_⟩
  · rw [hostNotice_of_notJoined s code may n d f closed]
  · rw [hostNotice_of_refused s code may n d f online refused]
  · rw [hostNotice_of_full s code may n d f online allowed full]
  · rw [hostNotice_of_free s code may n d f online allowed free]

end

/-- Settles O53. -/
theorem hostNoticesEnterTheQueue : Obligations.HostNoticesEnterTheQueue := by
  refine ⟨fun s x lost => ?_, fun t r s => ?_⟩
  · intro sends place admits
    refine ⟨fun closed => ?_, fun admits room => ?_, fun admits full before old after queue host free newest => ?_,
      fun admits full none' => ?_⟩
    · exact sends_of_notLost s x (queueInternal_of_closed s x closed) (by decide) lost
    · exact sends_of_notLost s x (queueInternal_of_admits s x ⟨(transmits_iff s).mpr admits.1, admits.2, room⟩) (by decide) lost
    · exact sends_of_notLost s x (queueInternal_replaces s x ((transmits_iff s).mpr admits.1) admits.2 full before after old queue
        host free newest) (by decide) lost
    · have loses (y : Notice) : s.queueInternal y = (losing s y, .lost) :=
        queueInternal_loses s y ((transmits_iff s).mpr admits.1) admits.2 full none'
      obtain ⟨send, sendOr⟩ := sends_of_lost s x (loses x) lost
      refine ⟨send, sendOr, fun p o => (sends_of_lost s x (loses x) _).2, (sends_of_lost s x (loses x) _).2, ?_⟩
      rintro k rfl
      exact (sends_of_lost s _ (loses _) _).2
  · intro answer queued full rule v
    refine ⟨fun b d check arg => ?_, fun k dist len check arg => ?_, fun target check arg => ?_, fun check arg => ?_⟩
    · exact hostNotice_answers (s.advance t) 0x20 true (.regime (BitVec.ofNat 8 b.val) (BitVec.ofNat 8 (directionBit d))) .empty id
        (next_hosted_ok s t 0x20 r (fun _ => regimeArg) _ (b, d) check arg)
    · exact hostNotice_answers (s.advance t) 0x21 true
        (.sectionAhead (BitVec.ofNat 8 s.own) s.sq.nextId (sectionCodes k).1 (sectionCodes k).2 dist len) (.localId s.sq.nextId)
        (fun v => v.mapSq fun q => { q with nextId := q.nextId + 1 })
        (next_hosted_ok s t 0x21 r (fun _ => sectionArg) _ (k, dist, len) check arg)
    · exact hostNotice_answers (s.advance t) 0x22 (!s.cu.isOpen && s.ru.regime.system != some target)
        (.coPropose (s.cu.number + 1) (supplyCode target) 0 0 0 0) .empty id
        (next_hosted_ok s t 0x22 r (fun _ => supplyArg) _ target check arg)
    · exact hostNotice_answers (s.advance t) 0x23 (s.cu.isOpen && s.cu.phase != .adopted && !s.cu.catchUp)
        (.coAbort s.cu.number (systemCode s.cu.target) 2) .empty id
        (next_hosted_noArgs s t 0x23 r _ check arg)

end Sys2Proof.Proofs
end

section
/-! SUPPORT. The state that a full reset leaves (R187), unit by unit. -/

namespace Sys2Proof.Proofs

open Sys2Proof Sys2Proof.Machine Sys2Proof.Laws

section
variable (pins : ResetPins)

theorem resetOf_pin_since (x : InputPin) : ((State.resetOf pins).pins.get x).since = 0 := by
  cases x with
  | frc p | posA p | posB p | arc p | isoOpn p | isoClosed p | housed p => cases p <;> rfl
  | odo | lv | zx | selAc | selOpn | selDc | breaker => rfl

/-- The filtered levels of a full reset are those at the pins, but for the housed contacts (R77). -/
theorem resetOf_pin_level (x : InputPin) (other : ∀ p, x ≠ .housed p) :
    ((State.resetOf pins).pins.get x).level = (State.resetOf pins).filtered x := by
  cases x with
  | housed p => exact absurd rfl (other p)
  | frc p | posA p | posB p | arc p | isoOpn p | isoClosed p => cases p <;> rfl
  | odo | lv | zx | selAc | selOpn | selDc | breaker => rfl

theorem resetOf_drive (p : Pan) : (State.resetOf pins).drive p = Drive.reset (pins.housed.get p) 0 20000 6000000 70 := by
  cases p <;> rfl

end

/-- The fingerprint of the empty block. -/
theorem fingerprintOf_nil : fingerprintOf [] = defaultFingerprint := by decide +kernel

/-- Settles O5. -/
theorem fullResetTakesTheResetValues : Obligations.FullResetTakesTheResetValues := by
  refine ⟨fun pins rest s => ⟨rfl, rfl, rfl, rfl, rfl, rfl, rfl, rfl, rfl, rfl, rfl⟩, fun pins s => ?_⟩
  refine ⟨_, rfl, rfl, rfl, rfl, fun x => ⟨resetOf_pin_since pins x, resetOf_pin_level pins x⟩, fun p => by cases p <;> rfl,
    ⟨rfl, rfl, rfl, rfl, rfl, rfl, rfl, rfl, rfl, rfl, rfl, rfl, rfl⟩, ⟨rfl, rfl, rfl, rfl, rfl, rfl, rfl, rfl⟩, fun p => ?_,
    ⟨rfl, rfl, fun p => ?_, rfl⟩, ?_, ⟨rfl, rfl, rfl⟩, rfl, ?_, rfl, ⟨rfl, rfl, ?_, rfl, rfl, rfl⟩⟩
  case refine_1 =>
    have drive := resetOf_drive pins p
    simp only [State.drive] at drive ⊢
    rw [drive]
    exact ⟨rfl, rfl, rfl, rfl, rfl, rfl, rfl, rfl, rfl, rfl, rfl, rfl, rfl, rfl, rfl, rfl, rfl, rfl, rfl⟩
  case refine_2 => cases p <;> exact ⟨rfl, rfl, rfl, rfl, rfl, rfl, rfl, rfl, rfl, rfl⟩
  case refine_3 =>
    exact ⟨rfl, rfl, rfl, rfl, rfl, rfl, rfl, rfl, rfl, fun p => by cases p <;> rfl,
      fun p => by cases p <;> exact ⟨rfl, rfl, rfl, rfl⟩, rfl, rfl, rfl, rfl⟩
  case refine_4 =>
    exact ⟨rfl, rfl, rfl, rfl, rfl, rfl, rfl, rfl, rfl, rfl, rfl, rfl,
      fun p => by cases p <;> exact ⟨rfl, rfl, rfl, rfl, rfl, rfl⟩⟩
  case refine_5 => exact fingerprintOf_nil.symm

end Sys2Proof.Proofs
end

section
/-! SUPPORT. The entry to OFFLINE (R18), and the frames that are delivered: the own echo (R5, R10, R17). -/

namespace Sys2Proof.Proofs

open Sys2Proof Sys2Proof.Machine Sys2Proof.Laws

/-! ## Order down without a claim -/

theorem eachFitted_stays {I : State → Prop} (f : Pan → State → State) (keeps : ∀ p t, t.fitted p = true → I t → I (f p t))
    (s : State) (h : I s) : I (s.eachFitted f) := by
  unfold State.eachFitted
  dsimp only
  split
  next fitted =>
    split
    next second => exact keeps .p1 _ second (keeps .p0 s fitted h)
    next => exact keeps .p0 s fitted h
  next =>
    split
    next second => exact keeps .p1 s second h
    next => exact h

/-- No claim of a drive is queued or stands. -/
def Unclaimed (d : Drive) : Prop := d.claimStage = .idle ∧ d.claimSeq = none

theorem unclaimed_orderDown (s : State) (p : Pan) (c : DownCause) (h : Unclaimed (s.drive p)) :
    Unclaimed ((s.orderDown p c).drive p) := by
  obtain ⟨stage, seq⟩ := h
  by_cases raised : (s.drive p).state = .raising ∨ (s.drive p).state = .up
  · have lowered := orderDown_of_raised s p c raised
    exact ⟨lowered.claimStage.trans stage, lowered.claimSeq.elim (fun kept => kept.trans seq) id⟩
  · obtain ⟨h1, h2⟩ := not_or.mp raised
    rw [orderDown_of_rest s p c h1 h2 fun _ => .inr stage, drive_mapPd]
    exact ⟨stage, seq⟩

/-! ## Entry to OFFLINE (R18) -/

/-- The port, the round and the ice unit in OFFLINE (R18, R148, R165, R166). -/
def Detached (v : State) : Prop :=
  (v.rlp.port = .offline ∧ v.rlp.queue = [] ∧ v.rlp.slot = none ∧ v.rlp.attempt = none) ∧ v.cu = Cu.reset ∧
    v.iu.takePending = false ∧ v.iu.heatRetry = none ∧ v.iu.giveLost = none

/-- A state detached, in which the drives that a state has fitted hold no claim. -/
def DetachedFrom (s v : State) : Prop :=
  Detached v ∧ v.sc.config = s.sc.config ∧ ∀ p, s.fitted p = true → Unclaimed (v.drive p)

theorem detached_of_same {v w : State} (h : Detached v) (port : w.rlp = v.rlp) (round : w.cu = v.cu)
    (ice : iuBeside w.iu = iuBeside v.iu) : Detached w := by
  obtain ⟨rlp, cu, take, retry, give⟩ := h
  refine ⟨by rwa [port], round.trans cu, ?_, ?_, ?_⟩
  · exact (congrArg (fun i : Iu => i.takePending) ice).trans take
  · exact (congrArg (fun i : Iu => i.heatRetry) ice).trans retry
  · exact (congrArg (fun i : Iu => i.giveLost) ice).trans give

theorem detachedFrom_of_same {s v w : State} (h : DetachedFrom s v) (port : w.rlp = v.rlp) (round : w.cu = v.cu)
    (ice : iuBeside w.iu = iuBeside v.iu) (config : w.sc = v.sc) (drives : w.pd = v.pd) : DetachedFrom s w := by
  obtain ⟨detached, kept, each⟩ := h
  refine ⟨detached_of_same detached port round ice, by rwa [config], fun p fitted => ?_⟩
  rw [drive_of_pd drives]
  exact each p fitted

theorem detachedFrom_orderDown (s v : State) (p : Pan) (c : DownCause) (fitted : v.fitted p = true) (h : DetachedFrom s v) :
    DetachedFrom s (v.orderDown p c) := by
  obtain ⟨detached, config, each⟩ := h
  have idle := each p ((fitted_of_config config p).symm.trans fitted)
  have silent : v.transmits = false := by simp [State.transmits, detached.1.1]
  have kept := aside_orderDown v p c
  refine ⟨detached_of_same detached (rlp_orderDown_of_silent v p c silent (.inr idle.1)) (aside_cu kept)
    (iuBeside_orderDown v p c), by rwa [aside_sc kept], fun q fits => ?_⟩
  by_cases same : q = p
  · subst same
    exact unclaimed_orderDown v q c idle
  · rw [drive_orderDown_ne _ _ same]
    exact each q fits

theorem detachedFrom_scraperOffline {s v : State} (h : DetachedFrom s v) : DetachedFrom s v.scraperOffline := by
  unfold State.scraperOffline
  dsimp only
  split
  · exact h
  · exact h
  · exact detachedFrom_of_same h rfl rfl rfl rfl rfl
  · exact detachedFrom_of_same h rfl rfl rfl rfl rfl

/-- The roster unit reset, with what its regime's change raises: no other unit is changed but by the drives ordered down. -/
theorem resetRegime_cases (s : State) : ∃ w : State,
    s.resetRegime = (if s.ru.regime.system = none then w else w.orderAllDown .regimeNone) ∧
    w.rlp = s.rlp ∧ w.cu = s.cu ∧ w.iu = s.iu ∧ w.sc = s.sc ∧ w.pd = s.pd ∧ w.sg = s.sg ∧
      w.base = (s.mapRu fun _ => Ru.reset).base := by
  refine ⟨_, rfl, ?_⟩
  split <;> split <;> exact ⟨rfl, rfl, rfl, rfl, rfl, rfl, by simp⟩

theorem detachedFrom_resetRegime {s v : State} (h : DetachedFrom s v) : DetachedFrom s v.resetRegime := by
  obtain ⟨w, resets, port, round, ice, config, drives, -, -⟩ := resetRegime_cases v
  have same : DetachedFrom s w := detachedFrom_of_same h port round (by rw [ice]) config drives
  rw [resets]
  split
  · exact same
  · exact eachFitted_stays _ (fun p u fits hu => detachedFrom_orderDown s u p .regimeNone fits hu) w same

theorem base_resetRegime (s : State) : s.resetRegime.base = (s.mapRu fun _ => Ru.reset).base := by
  obtain ⟨w, resets, -, -, -, -, -, -, base⟩ := resetRegime_cases s
  rw [resets]
  split
  · exact base
  · rw [base_orderAllDown, base]

theorem detachedFrom_forgetLeave {s v : State} (h : DetachedFrom s v) :
    DetachedFrom s (v.mapSc fun x => { x with leaving := none }) := by
  obtain ⟨detached, config, each⟩ := h
  exact ⟨detached_of_same detached rfl rfl rfl, config, each⟩

/-- The heat records in OFFLINE once the port and the round are detached. -/
theorem detachedFrom_heatOffline {s v : State} (port : v.rlp = s.rlp.offline) (round : v.cu = Cu.reset)
    (config : v.sc.config = s.sc.config) (drives : ∀ p, s.fitted p = true → Unclaimed (v.drive p)) :
    DetachedFrom s v.heatOffline := by
  unfold State.heatOffline
  dsimp only
  split <;> exact ⟨⟨⟨congrArg Rlp.port port, congrArg Rlp.queue port, congrArg Rlp.slot port, congrArg Rlp.attempt port⟩, round,
    rfl, rfl, rfl⟩, config, drives⟩

/-- The state of an entry to OFFLINE when the port, the drives, the sections and the round are detached. -/
def roundDetached (s : State) : State :=
  (((((s.mapRlp Rlp.offline).eachFitted fun p t => t.mapPd p Drive.offline).mapSq fun q =>
    { q with entries := [] }).removeReason .neutral).mapCu fun _ => Cu.reset).removeReason .round

theorem enterOffline_eq (s : State) : s.enterOffline =
    (roundDetached s).stopLeg.heatOffline.scraperOffline.resetRegime.mapSc fun x => { x with leaving := none } := rfl

/-- A breaker reason removed leaves every unit but the switchgear and the events. -/
theorem removeReason_beside (s : State) (x : Reason) : (s.removeReason x).rlp = s.rlp ∧ (s.removeReason x).cu = s.cu ∧
    (s.removeReason x).sc = s.sc ∧ (s.removeReason x).pd = s.pd := by
  unfold State.removeReason
  split <;> exact ⟨rfl, rfl, rfl, rfl⟩

theorem stopLeg_beside (s : State) : s.stopLeg.rlp = s.rlp ∧ s.stopLeg.cu = s.cu ∧ s.stopLeg.sc = s.sc ∧ s.stopLeg.pd = s.pd ∧
    s.stopLeg.base = s.base := by
  unfold State.stopLeg
  split <;> exact ⟨rfl, rfl, rfl, rfl, rfl⟩

theorem roundDetached_spec (s : State) : (roundDetached s).rlp = s.rlp.offline ∧ (roundDetached s).cu = Cu.reset ∧
    (roundDetached s).sc = s.sc ∧ ∀ p, s.fitted p = true → Unclaimed ((roundDetached s).drive p) := by
  obtain ⟨rlp, kept⟩ := eachFitted_mapPd_rest (s.mapRlp Rlp.offline) Drive.offline
  have config : ((s.mapRlp Rlp.offline).eachFitted fun p t => t.mapPd p Drive.offline).sc = s.sc := aside_sc kept
  obtain ⟨rlp₁, -, sc₁, pd₁⟩ := removeReason_beside (((s.mapRlp Rlp.offline).eachFitted fun p t =>
    t.mapPd p Drive.offline).mapSq fun q => { q with entries := [] }) .neutral
  obtain ⟨rlp₂, cu₂, sc₂, pd₂⟩ := removeReason_beside (((((s.mapRlp Rlp.offline).eachFitted fun p t =>
    t.mapPd p Drive.offline).mapSq fun q => { q with entries := [] }).removeReason .neutral).mapCu fun _ => Cu.reset) .round
  refine ⟨rlp₂.trans (rlp₁.trans rlp), cu₂, sc₂.trans (sc₁.trans config), fun p fitted => ?_⟩
  have drive : (roundDetached s).drive p = (s.drive p).offline :=
    (drive_of_pd pd₂ p).trans ((drive_of_pd pd₁ p).trans (drive_eachFitted_mapPd (s.mapRlp Rlp.offline) Drive.offline fitted))
  rw [drive]
  exact ⟨rfl, rfl⟩

/-- The entry to OFFLINE detaches the port, the round, the ice unit and the drives' claims (R18). -/
theorem enterOffline_detached (s : State) : DetachedFrom s s.enterOffline ∧ s.enterOffline.sc.leaving = none := by
  obtain ⟨rlp, cu, sc, drives⟩ := roundDetached_spec s
  obtain ⟨rlp₁, cu₁, sc₁, pd₁, -⟩ := stopLeg_beside (roundDetached s)
  have heat : DetachedFrom s (roundDetached s).stopLeg.heatOffline := by
    refine detachedFrom_heatOffline (rlp₁.trans rlp) (cu₁.trans cu) (by rw [sc₁, sc]) fun p fitted => ?_
    rw [drive_of_pd pd₁]
    exact drives p fitted
  rw [enterOffline_eq]
  exact ⟨detachedFrom_forgetLeave (detachedFrom_resetRegime (detachedFrom_scraperOffline heat)), rfl⟩

theorem base_heatOffline (s : State) : s.heatOffline.base = { s.base with table := List.replicate 24 none, grants := [] } := by
  unfold State.heatOffline
  dsimp only
  split
  · rfl
  · rw [base_raiseEvent]
    rfl

theorem base_scraperOffline (s : State) : s.scraperOffline.base = s.base := by
  unfold State.scraperOffline
  dsimp only
  split
  · rfl
  · rfl
  · rfl
  · rw [base_scraperTo]
    rfl

theorem base_roundDetached (s : State) : (roundDetached s).base =
    { s.base with
      port := .offline, expected := List.replicate 24 none, collisions := 0, presenceTimer := none, settleTimer := none
      sections := 0 } := by
  have offline (t : State) (p : Pan) : (t.mapPd p Drive.offline).base = t.base := base_mapPd t p _ fun _ => ⟨rfl, rfl⟩
  have emptied (t : State) : (t.mapSq fun q => { q with entries := [] }).base = { t.base with sections := 0 } := rfl
  rw [roundDetached, base_removeReason, base_mapCu, base_removeReason, emptied,
    base_eachFitted _ (fun p t => t.mapPd p Drive.offline) fun p t => offline t p]
  rfl

/-- The base at an entry to OFFLINE. -/
theorem base_enterOffline (s : State) : s.enterOffline.base =
    { s.base with
      port := .offline, expected := List.replicate 24 none, collisions := 0, presenceTimer := none, settleTimer := none
      peers := List.replicate 24 Peer.reset, roster := [], contests := [], system := none, band := 0
      direction := .aForward, settled := false, sections := 0, table := List.replicate 24 none, grants := [] } := by
  obtain ⟨-, -, -, -, stopped⟩ := stopLeg_beside (roundDetached s)
  have reset (t : State) : (t.mapRu fun _ => Ru.reset).base =
      { t.base with
        peers := List.replicate 24 Peer.reset, roster := [], contests := [], system := none, band := 0
        direction := .aForward, settled := false } := rfl
  rw [enterOffline_eq, base_mapSc _ (fun x => { x with leaving := none }) fun _ => ⟨rfl, rfl, rfl, rfl, rfl⟩, base_resetRegime, reset,
    base_scraperOffline, base_heatOffline, stopped, base_roundDetached]

/-! ## Completed transmissions (R5, R10, R17) -/

/-- The own LEAVE is delivered without effect: the entry to OFFLINE follows it. -/
theorem complete_leave (s : State) (a : Attempt) (leave : a.notice.kind = .leave) :
    s.complete a = (s.mapRlp fun r => r.complete a s.now s.presenceInterval).enterOffline := by
  have silent (t : State) (n : Notice) (h : n.kind = .leave) : t.deliver t.own a.seq n = t := by
    cases n
    case leave f => simp [State.deliver, State.heard, State.applyNotice, State.applyLeave]
    all_goals nomatch h
  refine (if_pos leave).trans (congrArg State.enterOffline ?_)
  exact silent (s.mapRlp fun r => r.complete a s.now s.presenceInterval) a.notice leave

theorem exec_transmissionComplete (t : Moment) {s : State} {a : Attempt} (attempt : s.rlp.attempt = some a) :
    exec (.transmissionComplete t) s = .next ((s.advance (max t a.doneAt)).complete a).settle := by
  refine congrArg Host.Outcome.next ?_
  rw [attempt]

/-- Settles O15. -/
theorem completedTransmissionEntersItsEcho : Obligations.CompletedTransmissionEntersItsEcho := by
  refine ⟨fun t s a attempt other => ?_, fun t s a attempt leave => ?_⟩
  · intro now v
    refine ⟨?_, by rw [settle_base, deliver_ground]⟩
    have runs : (s.advance (max t a.doneAt)).complete a = v.deliver s.own a.seq a.notice := by
      refine (if_neg other).trans ?_
      simp only [v, State.mapRlp, Rlp.complete, decide_eq_true_eq]
      rfl
    rw [exec_transmissionComplete t attempt, runs]
  · intro now
    obtain ⟨⟨⟨⟨-, queue, slot, none'⟩, cu, take, retry, give⟩, -, drives⟩, leaving⟩ :=
      enterOffline_detached ((s.advance (max t a.doneAt)).mapRlp fun r =>
        r.complete a (s.advance (max t a.doneAt)).now (s.advance (max t a.doneAt)).presenceInterval)
    refine ⟨_, (exec_transmissionComplete t attempt).trans (by rw [complete_leave _ a leave]),
      ⟨queue, slot, none', cu, leaving, take, retry, give, drives⟩, ?_⟩
    rw [settle_base, base_enterOffline]
    rfl

end Sys2Proof.Proofs
end

section
/-! SUPPORT. Frames of other stations (R8, R10, R11, R28) and the timers of the port (R16, R17). -/

namespace Sys2Proof.Proofs

open Sys2Proof Sys2Proof.Machine Sys2Proof.Laws

/-! ## Delivery (R10, R11, R27, R28) -/

theorem tableSet_tableSet {α : Type} (xs : List α) (n : Nat) (v w : α) : tableSet (tableSet xs n v) n w = tableSet xs n w := by
  cases n with
  | zero => rfl
  | succ k => exact List.set_set v

theorem ground_expect (s : State) (n : Nat) (q : Option Byte) :
    (s.expect n q).base.ground = { s.base.ground with expected := tableSet s.rlp.expected n q } := rfl

theorem expected_of_ground {s t : State} (h : t.base.ground = s.base.ground) : t.rlp.expected = s.rlp.expected := by
  simpa only [Base.ground, State.base] using congrArg Base.expected h

/-- A delivered frame changes the expected sequence of its origin and, beyond that, only what its notice changes. -/
theorem ground_receive (s : State) (f : Frame) : (s.receive f).base.ground = { s.base.ground with
    expected := tableSet s.rlp.expected f.origin (if f.notice.kind = .leave then none else some (f.seq + 1)) } := by
  have before : (if s.gapAt f.origin f.seq f.notice then s.markDoubtful f.origin else s).base.ground = s.base.ground := by
    split <;> simp
  have delivered (t : State) (same : t.base.ground = s.base.ground) :
      ((t.expect f.origin (some (f.seq + 1))).deliver f.origin f.seq f.notice).base.ground =
        { s.base.ground with expected := tableSet s.rlp.expected f.origin (some (f.seq + 1)) } := by
    rw [deliver_ground, ground_expect, same, expected_of_ground same]
  have expected (t : State) (same : t.base.ground = s.base.ground) :
      ((t.expect f.origin (some (f.seq + 1))).deliver f.origin f.seq f.notice).rlp.expected =
        tableSet s.rlp.expected f.origin (some (f.seq + 1)) :=
    (expected_of_ground (deliver_ground _ _ _ _)).trans
      (congrArg (fun x => tableSet x f.origin (some (f.seq + 1))) (expected_of_ground same))
  unfold State.receive
  dsimp only
  split
  · rw [ground_expect, delivered _ before, expected _ before, tableSet_tableSet]
  · rw [delivered _ before]

theorem gapAt_eq_false {s : State} {n : Nat} {seq : Byte} {x : Notice}
    (h : x.kind = .join ∨ (tableGet s.rlp.expected n).getD none = none ∨ (tableGet s.rlp.expected n).getD none = some seq) :
    s.gapAt n seq x = false := by
  unfold State.gapAt
  split
  next q at' =>
    simp only [at', Option.getD_some, Option.some.injEq] at h
    obtain join | none' | same := h
    · simp [join]
    · nomatch none'
    · simp [same]
  next => rfl

theorem gapAt_eq_true {s : State} {n : Nat} {seq q : Byte} {x : Notice} (kind : x.kind ≠ .join)
    (at' : (tableGet s.rlp.expected n).getD none = some q) (ne : q ≠ seq) : s.gapAt n seq x = true := by
  have found : tableGet s.rlp.expected n = some (some q) := by
    cases h : tableGet s.rlp.expected n with
    | none => simp [h] at at'
    | some y => simpa [h] using at'
  simp [State.gapAt, found, kind, ne]

/-- The roster of a station that has become doubtful (R28). -/
theorem loseEntries_unknown (s : State) (n : Nat) :
    (s.loseEntries n).ru.peers = s.ru.peers ∧
    (∀ e ∈ (s.loseEntries n).ru.roster, e.station = n → e.state = .unknown ∧ e.role = none ∧ e.claimSeq = none) ∧
    ∀ c ∈ (s.loseEntries n).ru.contests, c.target.station = n → ∀ p, c.body ≠ .claim p := by
  obtain ⟨q, cs, loses, closed⟩ := loseEntries_shape s n
  rw [loses]
  refine ⟨rfl, fun e mem station => ?_, fun c mem station => (closed.kept c mem).2 station⟩
  obtain ⟨e', -, rfl⟩ := List.mem_map.mp mem
  by_cases own : e'.station = n
  · rw [if_pos own]
    exact ⟨rfl, rfl, rfl⟩
  · rw [if_neg own] at station
    exact absurd station own

theorem takeFrame_other (s : State) {f : Frame} (other : f.origin ≠ s.own) (port : s.rlp.port ≠ .offline) :
    s.takeFrame f = (s.mapRlp fun r => { r with recentSender := false }).receive f := by
  simp [State.takeFrame, other, port]

/-- Settles O17. -/
theorem frameOfAnotherStationIsDelivered : Obligations.FrameOfAnotherStationIsDelivered := by
  refine ⟨fun t bytes s f free frame other port => ?_, fun s f => ?_, fun s n seq x => ⟨fun other live => ?_, fun h => ?_⟩⟩
  · intro now v
    have takes : (s.advance t).frameEnds.takeFrame f = v.receive f := takeFrame_other (s.advance t).frameEnds other port
    refine ⟨by rw [exec_frameReceived t bytes free frame, takes], ?_⟩
    rw [settle_base, ground_receive]
    rfl
  · intro n delivered expected x
    obtain ⟨peers, entries, claims⟩ := loseEntries_unknown
      { s with ru := { s.ru with peers := tableSet s.ru.peers n { s.peer n with doubtful := true } } } n
    refine ⟨fun calm => ?_, fun kind q at' ne => ?_, peers, entries, claims, base_rosterMoves x⟩
    · unfold State.receive
      rw [gapAt_eq_false calm]
      rfl
    · unfold State.receive
      rw [gapAt_eq_true kind at' ne]
      constructor <;> intro doubt
      all_goals
        simp only [State.markDoubtful, show (s.peer f.origin).doubtful = _ from doubt]
        rfl
  · unfold State.deliver State.heard
    rw [if_pos (by simp [other, live])]
    rfl
  · unfold State.deliver State.heard
    rw [if_neg ?_]
    simp only [Bool.and_eq_true, bne_iff_ne, decide_eq_true_eq, not_and]
    exact fun other => h.resolve_left other

/-! ## The timers of the port (R16, R17) -/

theorem base_presence (s : State) (due : Moment) :
    (s.presence due).base = { s.base with presenceTimer := some (due + s.presenceInterval) } := by
  have restarts : (s.mapRlp fun r => { r with presenceTimer := some (due + s.presenceInterval) }).base =
      { s.base with presenceTimer := some (due + s.presenceInterval) } := rfl
  unfold State.presence
  dsimp only
  split <;> simp [base_eachFitted, restarts]

theorem requeueOutstanding_of_none (s : State) (p : Pan) (h : (s.drive p).outstanding = none) : s.requeueOutstanding p = s := by
  have same : s.mapPd p (fun d => { d with outstanding := none }) = s := mapPd_of_same s p _ (by rw [← h])
  unfold State.requeueOutstanding
  dsimp only
  rw [h]
  exact same

theorem requeueClose_of_none (s : State) (h : s.cu.lost = none) : s.requeueClose = s := by
  unfold State.requeueClose
  dsimp only
  rw [h]
  simp only [State.mapCu, ← h]

theorem requeueGive_of_none (s : State) (h : s.iu.giveLost = none) : s.requeueGive = s := by
  unfold State.requeueGive
  dsimp only
  rw [h]
  simp only [State.mapIu, ← h]

theorem eachFitted_id (s : State) (f : Pan → State → State) (h : ∀ p, f p s = s) : s.eachFitted f = s := by
  unfold State.eachFitted
  simp [h]

/-- With no lost notice the presence timer only fills the slot (R16). -/
theorem presence_of_none_lost (s : State) (due : Moment) (drives : ∀ p, (s.drive p).outstanding = none) (close : s.cu.lost = none)
    (give : s.iu.giveLost = none) (leave : s.sc.leaving ≠ some .lost) (free : s.rlp.attempt = none) (transmits : s.transmits = true)
    (vented : s.ventedHeld = false) :
    s.presence due = { s with rlp := { s.rlp with
      presenceTimer := some (due + s.presenceInterval), slot := some (if s.rlp.slot = some .join then .join else .present) } } := by
  have filled := fillPresent_of_admitting (s.mapRlp fun r => { r with presenceTimer := some (due + s.presenceInterval) }) transmits vented
  unfold State.presence
  rw [filled]
  dsimp only
  rw [eachFitted_id _ _ fun p => requeueOutstanding_of_none _ p (by exact drives p), requeueClose_of_none _ (by exact close),
    requeueGive_of_none _ (by exact give), if_neg (by exact leave)]
  simp only [State.mapRlp, free, Option.map_none]

theorem base_rewriteSections (s : State) : s.rewriteSections.base = s.base :=
  base_mapSq _ _ fun _ => ⟨by simp, rfl⟩

/-- The end of settling (R17, R37). -/
theorem base_online (s : State) : s.online.base = { s.base with port := .online, settleTimer := none, settled := true } := by
  unfold State.online
  dsimp only
  split
  next settled => simp only [State.base, ← settled]; rfl
  next => rw [base_rewriteSections]; rfl

/-- Settles O19. -/
theorem presenceAndSettlingTimersExpire : Obligations.PresenceAndSettlingTimersExpire := by
  refine ⟨fun t due s running => ?_, fun t due s running => ?_⟩
  · intro now
    have runs : exec (.presenceTimerExpiry t) s = .next ((s.advance (max t due)).presence due).settle :=
      next_expire_of_running s t due _ (fun due u => (u.presence due).settle) running
    refine ⟨⟨_, runs, ?_⟩, fun free drives close give leave transmits vented => ?_⟩
    · rw [settle_base, base_presence]
      rfl
    · rw [runs, presence_of_none_lost (s.advance (max t due)) due drives close give leave free transmits vented, apply_ite some]
      rfl
  · refine ⟨_, next_expire_of_running s t due _ (fun _ u => u.online.settle) running, ?_⟩
    rw [settle_base, base_online]
    rfl

end Sys2Proof.Proofs
end

section
/-! SUPPORT. The intake of a section (R110, R112, R113). -/

namespace Sys2Proof.Proofs

open Sys2Proof Sys2Proof.Machine Sys2Proof.Laws

/-! ## The place of an entry (R110) -/

theorem mem_putSection (e x : SectionEntry) (l : List SectionEntry) : x ∈ putSection e l ↔ x = e ∨ x ∈ l := by
  induction l with
  | nil => simp [putSection]
  | cons y rest ih =>
    unfold putSection
    split
    · simp
    · simp only [List.mem_cons, ih]
      exact or_left_comm

/-- An entry is put before the first one whose start does not lie before its own. -/
theorem putSection_split (e : SectionEntry) (l : List SectionEntry) : ∃ before after, l = before ++ after ∧
    putSection e l = before ++ e :: after ∧ (∀ x ∈ before, notAfter e.start x.start = false) ∧
      ∀ x, after.head? = some x → notAfter e.start x.start = true := by
  induction l with
  | nil => exact ⟨[], [], rfl, rfl, by simp, by simp⟩
  | cons y rest ih =>
    unfold putSection
    split
    next first => exact ⟨[], y :: rest, rfl, rfl, by simp, by simp [first]⟩
    next later =>
      obtain ⟨before, after, split, put, ahead, head⟩ := ih
      refine ⟨y :: before, after, by rw [split]; rfl, by rw [put]; rfl, fun x mem => ?_, head⟩
      obtain rfl | mem := List.mem_cons.mp mem
      · simpa using later
      · exact ahead x mem

/-! ## Insertion and removal -/

section
variable (s : State) (e : SectionEntry)

theorem insertSection_of_room (room : s.sq.entries.length < 8) :
    s.insertSection e = s.mapSq fun q => { q with entries := putSection e q.entries } := if_pos room

theorem insertSection_of_full (full : 8 ≤ s.sq.entries.length) : s.insertSection e = s.raiseEvent (.sectionRefused e.key) :=
  if_neg (Nat.not_lt.mpr full)

theorem entries_foldl_withdraw (l : List SectionEntry) (t : State) :
    (l.foldl (fun t e => t.withdraw (isProposalFor e.key)) t).sq = t.sq := by
  induction l generalizing t with
  | nil => rfl
  | cons d rest ih => rw [List.foldl_cons, ih]; rfl

theorem removeSections_entries (p : SectionEntry → Bool) :
    (s.removeSections p).sq.entries = s.sq.entries.filter fun x => !p x :=
  congrArg Sq.entries (entries_foldl_withdraw _ _)

theorem removeSections_of_none (p : SectionEntry → Bool) (none' : ∀ x ∈ s.sq.entries, p x = false) : s.removeSections p = s := by
  have removed : s.sq.entries.filter p = [] := List.filter_eq_nil_iff.mpr fun x mem => by simp [none' x mem]
  have kept : (s.sq.entries.filter fun x => !p x) = s.sq.entries := List.filter_eq_self.mpr fun x mem => by simp [none' x mem]
  unfold State.removeSections
  rw [removed]
  simp only [List.foldl_nil, State.mapSq, kept]

/-! ## The intake of an entry (R113) -/

theorem intake_of_held (held : ∃ x ∈ s.sq.entries, x.key = e.key) : s.intake e = s := by
  refine if_pos ?_
  simpa using held

theorem intake_neutral_of_meets (neutral : e.kind = .neutral) (meets : ∃ x ∈ s.sq.entries, x.overlaps e = true) : s.intake e = s := by
  unfold State.intake
  rw [neutral]
  dsimp only
  rw [if_neg (by simpa using meets : ¬ (s.sq.entries.filter fun x => x.overlaps e).isEmpty = true), ite_self]

theorem intake_neutral_of_free (neutral : e.kind = .neutral) (new : ∀ x ∈ s.sq.entries, x.key ≠ e.key)
    (free : ∀ x ∈ s.sq.entries, x.overlaps e = false) : s.intake e = s.insertSection e := by
  unfold State.intake
  rw [if_neg (by simpa using new), neutral]
  exact if_pos (by simpa using free)

section
variable (t : Supply) (system : e.kind = .system t) (new : ∀ x ∈ s.sq.entries, x.key ≠ e.key)
include system new

theorem intake_system_of_conflict (x : SectionEntry)
    (conflict : ((s.sq.entries.filter fun y => y.overlaps e).find? fun y => y.kind != .neutral && y.kind != .system t) = some x) :
    s.intake e = s.raiseEvent (.sectionConflict e.key x.key) := by
  unfold State.intake
  rw [if_neg (by simpa using new), system]
  dsimp only
  rw [conflict]

/-- Where no SYSTEM of a different target is met, the entry is absorbed by one of its own target, or takes the NEUTRAL entries'
place. -/
theorem intake_system_of_agreement
    (agree : ∀ x ∈ s.sq.entries, x.overlaps e = true → x.kind = .neutral ∨ x.kind = .system t) :
    s.intake e = if (s.sq.entries.filter fun x => x.overlaps e).any fun x => x.kind = .system t then s
      else (s.removeSections fun x => x.overlaps e).insertSection e := by
  have none' : ((s.sq.entries.filter fun y => y.overlaps e).find? fun y => y.kind != .neutral && y.kind != .system t) = none := by
    refine List.find?_eq_none.mpr fun x mem => ?_
    obtain ⟨mem, meets⟩ := List.mem_filter.mp mem
    obtain h | h := agree x mem meets <;> simp [h]
  unfold State.intake
  rw [if_neg (by simpa using new), system]
  dsimp only
  rw [none']

theorem intake_system_of_own (agree : ∀ x ∈ s.sq.entries, x.overlaps e = true → x.kind = .neutral ∨ x.kind = .system t)
    (own : ∃ x ∈ s.sq.entries, x.overlaps e = true ∧ x.kind = .system t) : s.intake e = s := by
  rw [intake_system_of_agreement s e t system new agree, if_pos]
  obtain ⟨x, mem, meets, kind⟩ := own
  exact List.any_eq_true.mpr ⟨x, List.mem_filter.mpr ⟨mem, meets⟩, decide_eq_true kind⟩

theorem intake_system_of_neutral (neutral : ∀ x ∈ s.sq.entries, x.overlaps e = true → x.kind = .neutral) :
    s.intake e = (s.removeSections fun x => x.overlaps e).insertSection e := by
  rw [intake_system_of_agreement s e t system new fun x mem meets => .inl (neutral x mem meets), if_neg]
  intro h
  obtain ⟨x, mem, kind⟩ := List.any_eq_true.mp h
  obtain ⟨mem, meets⟩ := List.mem_filter.mp mem
  rw [neutral x mem meets] at kind
  nomatch of_decide_eq_true kind

end
end

/-! ## SECTION (R112, R188) -/

section
variable (s : State) (n : Nat) (seq : Byte) (k : SectionKey) (dist len : Word16)

/-- The entry that a SECTION announces. -/
def announced (kind : SectionKind) (rewritten : Bool) : SectionEntry :=
  let start := s.mu.odo.metres + dist.setWidth 32
  ⟨k, kind, rewritten, start, start + len.setWidth 32, ⟨false, false⟩, false⟩

theorem apply_neutral : s.applyNotice n seq (.sectionAhead k.origin k.localId 0 0 dist len) =
    s.intake (announced s k dist len .neutral false) := rfl

theorem apply_system (t : Supply) : s.applyNotice n seq (.sectionAhead k.origin k.localId 1 (supplyCode t) dist len) =
    s.intake (if s.ru.regime.system = some t then announced s k dist len .neutral true
      else announced s k dist len (.system t) false) := by
  have kind : sectionKindOf 1 (supplyCode t) = some (.system t) := by cases t <;> rfl
  unfold State.applyNotice State.applySection
  dsimp only
  rw [kind]
  dsimp only
  unfold State.rewrite
  cases system : s.ru.regime.system with
  | none => rfl
  | some r =>
    dsimp only
    by_cases same : t = r
    · rw [if_pos same, if_pos (by rw [same])]
      rfl
    · rw [if_neg same, if_neg (by simpa using Ne.symm same)]
      rfl

end

/-- Settles O39. -/
theorem sectionNoticeEntersTheQueue : Obligations.SectionNoticeEntersTheQueue := by
  intro s n seq k dist len start e neutral system free
  have onSystem (t : Supply) (same : s.ru.regime.system = some t) : system t = s.intake (e .neutral true) := by
    refine (apply_system s n seq k dist len t).trans ?_
    rw [if_pos same]
    rfl
  have onOther (t : Supply) (other : s.ru.regime.system ≠ some t) : system t = s.intake (e (.system t) false) := by
    refine (apply_system s n seq k dist len t).trans ?_
    rw [if_neg other]
    rfl
  have onNeutral : neutral = s.intake (e .neutral false) := apply_neutral s n seq k dist len
  have enters (x : SectionEntry) (r : Bool) (room : s.sq.entries.length < 8) :
      x ∈ (s.insertSection (e .neutral r)).sq.entries ↔ x = e .neutral r ∨ x ∈ s.sq.entries := by
    rw [insertSection_of_room s _ room]
    exact mem_putSection _ _ _
  refine ⟨fun held => ⟨?_, fun t => ?_⟩, fun meets => ?_, fun ⟨new, apart⟩ full => ?_, fun ⟨new, apart⟩ room x => ?_,
    fun t same ⟨new, apart⟩ room x => ?_, fun t other new neutrals room x => ?_, fun t x other new conflict => ?_,
    fun t other new own agree => ?_, fun t other ⟨new, apart⟩ full => ?_, fun ⟨new, apart⟩ room => ?_⟩
  · rw [onNeutral]
    exact intake_of_held s _ held
  · by_cases same : s.ru.regime.system = some t
    · rw [onSystem t same]
      exact intake_of_held s _ held
    · rw [onOther t same]
      exact intake_of_held s _ held
  · rw [onNeutral]
    exact intake_neutral_of_meets s _ rfl meets
  · rw [onNeutral, intake_neutral_of_free s _ rfl new apart]
    exact insertSection_of_full s _ full
  · rw [onNeutral, intake_neutral_of_free s _ rfl new apart]
    exact enters x false room
  · rw [onSystem t same, intake_neutral_of_free s (e .neutral true) rfl new apart]
    exact enters x true room
  · have entries := removeSections_entries s fun x => x.overlaps (e (.system t) false)
    rw [onOther t other, intake_system_of_neutral s _ t rfl new neutrals,
      insertSection_of_room _ _ (by rw [entries]; exact room)]
    refine (mem_putSection _ _ _).trans (or_congr_right ?_)
    rw [entries, List.mem_filter, Bool.not_eq_true']
  · rw [onOther t other]
    exact intake_system_of_conflict s _ t rfl new x conflict
  · rw [onOther t other]
    exact intake_system_of_own s _ t rfl new agree own
  · rw [onOther t other, intake_system_of_neutral s _ t rfl new fun x mem meets =>
      absurd meets (by rw [show x.overlaps (e (.system t) false) = false from apart x mem]; exact Bool.false_ne_true),
      removeSections_of_none s (fun x => x.overlaps (e (.system t) false)) apart]
    exact insertSection_of_full s _ full
  · rw [onNeutral, intake_neutral_of_free s _ rfl new apart, insertSection_of_room s _ room]
    exact putSection_split (e .neutral false) s.sq.entries

end Sys2Proof.Proofs
end

section
/-! SUPPORT. The timeouts of the switchgear (R98, R102, R106, R108), and supervision with the line class (R94, R95, R107, R108). -/

namespace Sys2Proof.Proofs

open Sys2Proof Sys2Proof.Machine Sys2Proof.Laws

/-! ## The timeouts -/

theorem faultSet_gearFault (s : State) (k : FaultKind) (d : FaultDetail) (p : Option Pan) : (s.gearFault k d p).faultSet k = true :=
  have raised := faultSet_raiseFault s k d p (Config.faultDetailByte d)
  (keeps_addReason _ .fault (closed_grown _) (grown_refl _)).2.2 k raised

theorem faultSet_isoFails (s : State) (p : Pan) (k : FaultKind) (h : s.faultSet k = true) : (s.isoFails p).faultSet k = true :=
  (keeps_isoFails s p (closed_grown s) (grown_refl s)).2.2 k h

theorem legTimeout_fails (s : State) : s.legTimeout.faultSet .selectorTimeout = true ∧ s.legTimeout.base = s.base := by
  refine ⟨faultSet_gearFault _ _ _ _, ?_⟩
  rw [State.legTimeout, base_answerCu, base_gearFault]
  rfl

theorem moveTimeout_fails (s : State) (p : Pan) :
    (s.moveTimeout p).faultSet .isolatorTimeout = true ∧ (s.moveTimeout p).base = s.base :=
  ⟨faultSet_isoFails _ _ _ (faultSet_gearFault _ _ _ _), by rw [State.moveTimeout, base_isoFails, base_gearFault]⟩

theorem breakerLate_fails (s : State) : s.breakerLate.faultSet .breakerLate = true ∧ s.breakerLate.base = s.base := by
  refine ⟨faultSet_raiseFault _ _ _ _ _, ?_⟩
  rw [State.breakerLate, base_raiseFault]
  rfl

theorem base_lineDead (s : State) : s.lineDead.base = s.base := by
  rw [State.lineDead, base_raiseEvent]
  rfl

/-- Settles O43. -/
theorem gearTimeoutsRaiseTheirFaults : Obligations.GearTimeoutsRaiseTheirFaults := by
  refine ⟨fun t due s => ⟨fun running => ?_, fun p running => ?_⟩, fun t due s => ⟨fun running => ?_, fun running => ?_⟩⟩
  · have runs : exec (.selectorLegTimeout t) s = .next (s.advance (max t due)).legTimeout.settle :=
      next_expire_of_running s t due _ (fun _ u => u.legTimeout.settle) running
    obtain ⟨fault, base⟩ := legTimeout_fails (s.advance (max t due))
    exact ⟨runs, _, runs, settle_faultSet _ _ fault, by rw [settle_base, base]; rfl⟩
  · have runs : exec (.isolatorMoveTimeout t p) s = .next ((s.advance (max t due)).moveTimeout p).settle :=
      next_expire_of_running s t due _ (fun _ u => (u.moveTimeout p).settle) running
    obtain ⟨fault, base⟩ := moveTimeout_fails (s.advance (max t due)) p
    exact ⟨runs, _, runs, settle_faultSet _ _ fault, by rw [settle_base, base]; rfl⟩
  · have runs : exec (.breakerTimerExpiry t) s = .next (s.advance (max t due)).breakerLate.settle :=
      next_expire_of_running s t due _ (fun _ u => u.breakerLate.settle) running
    obtain ⟨fault, base⟩ := breakerLate_fails (s.advance (max t due))
    exact ⟨runs, _, runs, settle_faultSet _ _ fault, by rw [settle_base, base]; rfl⟩
  · have runs : exec (.deadLineTimerExpiry t) s = .next (s.advance (max t due)).lineDead.settle :=
      next_expire_of_running s t due _ (fun _ u => u.lineDead.settle) running
    exact ⟨runs, _, runs, by rw [settle_base, base_lineDead]; rfl⟩

/-! ## Supervision (R107, R108) -/

section
variable (s : State)

/-- A pantograph under supervision once the regime has a system (R107). -/
def watches (p : Pan) : Bool := s.upCollector p && (s.sg.iso.get p).confirmed = some .closed

theorem watches_iff (p : Pan) : watches s p = true ↔
    (s.fitted p = true ∧ (s.drive p).state = .up ∧ (s.drive p).role = some .collector) ∧
      (s.sg.iso.get p).confirmed = some .closed := by
  rw [watches, Bool.and_eq_true, upCollector_iff, decide_eq_true_eq]

theorem supervised_eq (system : s.ru.regime.system ≠ none) :
    s.supervised = if watches s .p0 then some .p0 else if watches s .p1 then some .p1 else none := by
  have least : s.supervised = [Pan.p0, Pan.p1].find? (watches s) := if_neg system
  rw [least]
  cases h : watches s .p0 <;> cases h' : watches s .p1 <;> simp [h, h']

theorem supervised_isSome : s.supervised.isSome = true ↔
    s.ru.regime.system ≠ none ∧ (watches s .p0 = true ∨ watches s .p1 = true) := by
  by_cases system : s.ru.regime.system = none
  · have none' : s.supervised = none := if_pos system
    simp [none', system]
  · rw [supervised_eq s system]
    cases watches s .p0 <;> cases watches s .p1 <;> simp [system]

theorem supervised_of_least (p : Pan) (system : s.ru.regime.system ≠ none) (watched : watches s p = true)
    (least : p = .p1 → watches s .p0 = false) : s.supervised = some p := by
  rw [supervised_eq s system]
  cases p
  · rw [if_pos watched]
  · rw [least rfl, if_neg Bool.false_ne_true, if_pos watched]

theorem mismatch_iff : s.mismatch = true ↔ s.supervised.isSome = true ∧ s.sg.line.stable ≠ .dead ∧
    ∀ x, s.ru.regime.system = some x → s.sg.line.stable ≠ .live x := by
  rw [State.mismatch, Bool.and_eq_true, Bool.and_eq_true, and_assoc, bne_iff_ne, bne_iff_ne]
  cases s.ru.regime.system <;> simp

theorem supervise_of_no_mismatch (h : s.mismatch = false) : s.supervise = s.mapSg fun g => { g with mismatchHeld := false } := by
  simp [State.supervise, h]

theorem supervise_of_held (h : s.mismatch = true) (held : s.sg.mismatchHeld = true) : s.supervise = s := by
  have same : (s.mapSg fun g => { g with mismatchHeld := true }) = s := by simp only [State.mapSg, ← held]
  simp [State.supervise, h, held, same]

theorem supervise_of_new (h : s.mismatch = true) (new : s.sg.mismatchHeld = false) :
    s.supervise = (s.mapSg fun g => { g with mismatchHeld := true }).gearFault .voltageMismatch
      (.voltage s.supervised s.sg.line.stable s.ru.regime.system) s.supervised := by
  simp [State.supervise, h, new]

theorem collectorInside_iff : s.collectorInside = true ↔ ∃ p, s.upCollector p = true ∧
    ∃ e ∈ s.sq.entries, s.inside e (s.panDistance p) = true := by
  simp only [State.collectorInside, List.any_eq_true, Bool.and_eq_true]
  refine ⟨fun ⟨p, _, h⟩ => ⟨p, h⟩, fun ⟨p, h⟩ => ⟨p, ?_, h⟩⟩
  cases p <;> simp

theorem deadLine_iff : s.deadLine = true ↔ s.supervised.isSome = true ∧ s.sg.line.stable = .dead ∧ ¬ s.collectorInside = true := by
  simp [State.deadLine, and_assoc]

theorem watchDeadLine_of_new (h : s.deadLine = true) (new : s.sg.deadHeld = false) :
    s.watchDeadLine = s.mapSg fun g => { g with deadHeld := true, deadLineTimer := s.timerFor 2000000 } := by
  simp [State.watchDeadLine, State.mapSg, h, new]

theorem watchDeadLine_of_held (h : s.deadLine = true) (held : s.sg.deadHeld = true) : s.watchDeadLine = s := by
  have same : (s.mapSg fun g => { g with deadHeld := true }) = s := by simp only [State.mapSg, ← held]
  refine Eq.trans ?_ same
  simp [State.watchDeadLine, State.mapSg, h, held]

theorem watchDeadLine_of_none (h : s.deadLine = false) :
    s.watchDeadLine = s.mapSg fun g => { g with deadHeld := false, deadLineTimer := none } := by
  simp [State.watchDeadLine, State.mapSg, h]

end

/-! ## The end of a classifier window (R93, R95) -/

theorem base_classify (s : State) (due : Moment) : (s.classify due).base = { s.base with
    windowTimer := some (due + 160000), acc := Accumulators.empty
    lineRecord := s.sg.line.take (s.sg.acc.result s.mu.lv.cap.signal) } := by
  rw [State.classify, base_classChanged]
  rfl

/-- Settles O41. -/
theorem threeEqualResultsMakeTheStableClass : Obligations.ThreeEqualResultsMakeTheStableClass := by
  refine ⟨fun t due s running => ?_, fun s => ?_⟩
  · intro r n
    refine ⟨_, next_expire_of_running s t due _ (fun due u => (u.classify due).settle) running, ?_⟩
    rw [settle_base, base_classify]
    rfl
  · intro stable system up watched active mismatch inside line becomes
    have watched_iff (p : Pan) : watched p ↔ system ≠ none ∧ watches s p = true := by rw [watches_iff]
    have active_iff : active ↔ s.supervised.isSome = true := by
      rw [supervised_isSome, and_or_left, ← watched_iff, ← watched_iff]
    have mismatch_iff' : mismatch ↔ s.mismatch = true := by rw [mismatch_iff, ← active_iff]
    have inside_iff : inside ↔ s.collectorInside = true := by
      rw [collectorInside_iff]
      simp only [upCollector_iff, State.inside, State.between, Bool.and_eq_true, Bool.not_eq_true']
      rfl
    have line_iff : line ↔ s.deadLine = true := by rw [deadLine_iff, ← active_iff, ← inside_iff]
    refine ⟨⟨fun calm => ?_, fun held' held => ?_, fun p new free watch least => ?_⟩, fun dead new => ?_, fun dead held => ?_,
      fun calm => ?_⟩
    · exact supervise_of_no_mismatch s (eq_false_of_ne_true fun h => calm (mismatch_iff'.mpr h))
    · exact supervise_of_held s (mismatch_iff'.mp held') held
    · intro d
      obtain ⟨some', watch⟩ := (watched_iff p).mp watch
      have supervised := supervised_of_least s p some' watch fun second =>
        eq_false_of_ne_true fun h => least second ((watched_iff .p0).mpr ⟨some', h⟩)
      rw [supervise_of_new s (mismatch_iff'.mp new) free, supervised]
      rfl
    · exact watchDeadLine_of_new s (line_iff.mp dead) new
    · exact watchDeadLine_of_held s (line_iff.mp dead) held
    · exact watchDeadLine_of_none s (eq_false_of_ne_true fun h => calm (line_iff.mpr h))

end Sys2Proof.Proofs
end

section
/-! SUPPORT. The feedback inputs of the switchgear: the selector and its legs (R96 to R99), the isolators and their moves
(R100 to R102), and the breaker (R105, R106). -/

namespace Sys2Proof.Proofs

open Sys2Proof Sys2Proof.Machine Sys2Proof.Laws

/-! ## Contacts behind their filters (R77) -/

section
variable (s : State) (levels : List (InputPin × Bool)) (since t : Moment) (edge : Moment → State → State) (time : Nat)
  (pin : ∀ l ∈ levels, (s.pins.get l.1).level = s.filtered l.1)
include pin

/-- Levels that are the filtered ones already change neither the pins nor anything else. -/
theorem next_filter_levels_same (same : ∀ l ∈ levels, s.filtered l.1 = l.2) :
    (.next (s.filter levels since t edge) : Result) = .next { s with now := max s.now t } ∧ s.pins.take since levels = s.pins :=
  ⟨next_advance s t (filter_levels_same s since t edge levels pin same),
    take_same s.pins since levels fun l mem => (pin l mem).trans (same l mem)⟩

/-- Levels held for the filter time are accepted together, when what the acceptance makes of them keeps them. -/
theorem filter_levels_changed (nodup : (levels.map Prod.fst).Nodup) (times : ∀ l ∈ levels, filterTime l.1 = time)
    (other : ∃ l ∈ levels, s.filtered l.1 ≠ l.2) (held : since + time ≤ t) (w : State)
    (accepts : edge (since + time) (acceptingAll s levels since time) = w) (pins : w.pins = s.pins.take since levels)
    (filtered : ∀ l ∈ levels, w.filtered l.1 = l.2) : s.filter levels since t edge = w.advance t := by
  subst accepts
  refine filter_levels s since t edge levels time nodup pin times other held fun l mem => ?_
  intro w
  rw [show w.pins = _ from pins, show w.filtered l.1 = _ from filtered l mem]
  exact taken_level s since levels nodup l mem

end

/-! ## The selector (R97 to R99) -/

theorem nextLeg_eq (c : Option SelPos) (dest : SelPos) :
    nextLeg c dest = if c = some dest then none else some (if c = some .opn then dest else .opn) := by
  obtain _ | c := c
  · cases dest <;> rfl
  · cases c <;> cases dest <;> rfl

section
variable (s : State)

theorem selectorArrival_of_rest (leg : s.sg.selector.leg = none) : s.selectorArrival = s := by
  unfold State.selectorArrival
  rw [leg]

theorem selectorArrival_of_target (dest : SelPos) (leg : s.sg.selector.leg = some dest) (shown : s.selShown = some dest)
    (target : s.sg.selector.target = some dest) : s.selectorArrival =
      ((s.mapSg fun g => { g with selector := g.selector.atRest (some dest) }).raiseEvent
        (.selectorState (some dest) none)).answerCu true := by
  unfold State.selectorArrival
  rw [leg]
  dsimp only
  rw [if_pos shown, if_pos target]

theorem selectorArrival_of_further (dest target next : SelPos) (leg : s.sg.selector.leg = some dest) (shown : s.selShown = some dest)
    (aim : s.sg.selector.target = some target) (ne : target ≠ dest) (further : nextLeg (some dest) target = some next) :
    s.selectorArrival =
      ((s.mapSg fun g => { g with selector := { g.selector with confirmed := some dest, leg := none, legTimer := none } }).raiseEvent
        (.selectorState (some dest) none)).startLeg next := by
  unfold State.selectorArrival
  rw [leg]
  dsimp only
  rw [if_pos shown, if_neg (by rw [aim]; exact fun h => ne (Option.some.inj h)), aim, Option.bind_some, further]

theorem selectorWatch_of_kept (h : s.sg.selector.busy = true ∨ s.selShown = s.sg.selector.confirmed) : s.selectorWatch = s :=
  if_pos (by simpa using h)

theorem selectorWatch_of_other (rest : s.sg.selector.busy = false) (other : s.selShown ≠ s.sg.selector.confirmed) :
    s.selectorWatch = (s.mapSg fun g => { g with selector := { g.selector with confirmed := s.selShown } }).raiseEvent
      (.selectorFeedback s.selShown) :=
  if_neg (by simp [rest, other])

/-- The base after a change of the selector's contacts. -/
theorem base_selectorFeedback (c : SelContacts) : (s.selectorFeedback c).base = { s.base with selContacts := c } := by
  rw [State.selectorFeedback, settle_base, base_selectorWatch, base_selectorArrival]
  rfl

theorem selectorFeedback_kept (c : SelContacts) :
    (s.selectorFeedback c).pins = s.pins ∧ (s.selectorFeedback c).now = s.now ∧
      (s.selectorFeedback c).sg.selector.contacts = c := by
  have base := base_selectorFeedback s c
  exact ⟨by simpa only [State.base] using congrArg Base.pins base, by simpa only [State.base] using congrArg Base.now base,
    by simpa only [State.base] using congrArg Base.selContacts base⟩

theorem requestSelector_of_free (dest : SelPos) (down : s.allDown = true) (rest : s.sg.selector.busy = false) :
    s.requestSelector dest =
      if s.sg.selector.confirmed = some dest then (s.mapCu fun c => { c with selRequest := .asked, selAnswer := none }).answerCu true
      else ((s.mapCu fun c => { c with selRequest := .asked, selAnswer := none }).mapSg fun g =>
        { g with selector := { g.selector with target := some dest } }).startLeg
          (if s.sg.selector.confirmed = some .opn then dest else .opn) := by
  unfold State.requestSelector
  rw [if_pos down]
  dsimp only
  rw [if_neg (by rw [rest]; exact Bool.false_ne_true), nextLeg_eq]
  by_cases at' : s.sg.selector.confirmed = some dest
  · rw [if_pos at', if_pos at']
  · rw [if_neg at', if_neg at']

end

/-! ## The isolators (R101, R102) -/

section
variable (s : State) (p : Pan)

@[simp] theorem iso_mapIso (f : Isolator → Isolator) : (s.mapIso p f).sg.iso.get p = f (s.sg.iso.get p) := pair_get_set _ _ _

theorem pair_set_set {α : Type} (x : Pair α) (a b : α) : (x.set p a).set p b = x.set p b := by cases p <;> rfl

theorem mapIso_mapIso (f g : Isolator → Isolator) : (s.mapIso p f).mapIso p g = s.mapIso p fun i => g (f i) := by
  simp only [State.mapIso, State.mapSg, pair_get_set, pair_set_set]

theorem serveIso_of_idle (h : (s.sg.iso.get p).moving ≠ none ∨ (s.sg.iso.get p).requested = none) : s.serveIso p = s := by
  unfold State.serveIso
  dsimp only
  split
  next moving requested =>
    obtain h | h := h
    · exact absurd moving h
    · rw [h] at requested
      nomatch requested
  next => rfl

theorem serveIso_of_request (pos : IsoPos) (moving : (s.sg.iso.get p).moving = none) (request : (s.sg.iso.get p).requested = some pos) :
    s.serveIso p =
      if (s.sg.iso.get p).confirmed = some pos then s.mapIso p fun i => { i with requested := none, askedIu := false, askedCu := false }
      else if s.isoFree p then
        (s.mapIso p fun i => { i with moving := some pos, confirmed := none, moveTimer := s.timerFor 2000000 }).raiseEvent
          (.isolatorState p none (some pos))
      else s := by
  unfold State.serveIso
  dsimp only
  rw [moving, request]

theorem isoArrival_of_rest (moving : (s.sg.iso.get p).moving = none) : s.isoArrival p = s := by
  unfold State.isoArrival
  dsimp only
  rw [moving]

theorem isoArrival_of_away (dest : IsoPos) (moving : (s.sg.iso.get p).moving = some dest)
    (away : isoShows (s.sg.iso.get p).contacts ≠ some dest) : s.isoArrival p = s := by
  unfold State.isoArrival
  dsimp only
  rw [moving]
  exact if_neg away

theorem isoArrival_of_shown (dest : IsoPos) (moving : (s.sg.iso.get p).moving = some dest)
    (shown : isoShows (s.sg.iso.get p).contacts = some dest) : s.isoArrival p =
      ((s.mapIso p fun i => { i with confirmed := some dest, moving := none, moveTimer := none }).raiseEvent
        (.isolatorState p (some dest) none)).serveIso p := by
  unfold State.isoArrival
  dsimp only
  rw [moving]
  exact if_pos shown

theorem isoWatch_of_kept (h : (s.sg.iso.get p).moving ≠ none ∨ isoShows (s.sg.iso.get p).contacts = (s.sg.iso.get p).confirmed) :
    s.isoWatch p = s :=
  if_pos (by simpa [Option.isSome_iff_ne_none] using h)

theorem isoWatch_of_other (rest : (s.sg.iso.get p).moving = none)
    (other : isoShows (s.sg.iso.get p).contacts ≠ (s.sg.iso.get p).confirmed) : s.isoWatch p =
      (s.mapIso p fun i => { i with confirmed := isoShows (s.sg.iso.get p).contacts }).raiseEvent
        (.isolatorFeedback p (isoShows (s.sg.iso.get p).contacts)) :=
  if_neg (by simp [rest, other])

/-- An isolator that shows its confirmed position goes on doing so, or moves, once it is served. -/
theorem isoWatch_serveIso (shows' : isoShows (s.sg.iso.get p).contacts = (s.sg.iso.get p).confirmed) :
    (s.serveIso p).isoWatch p = s.serveIso p := by
  by_cases idle : (s.sg.iso.get p).moving ≠ none ∨ (s.sg.iso.get p).requested = none
  · rw [serveIso_of_idle s p idle, isoWatch_of_kept s p (.inr shows')]
  · obtain ⟨moving, request⟩ := not_or.mp idle
    obtain ⟨pos, request⟩ := Option.ne_none_iff_exists'.mp request
    rw [serveIso_of_request s p pos (Classical.not_not.mp moving) request]
    split
    · exact isoWatch_of_kept _ p (.inr (by rw [iso_mapIso]; exact shows'))
    · split
      · have moves := iso_mapIso s p fun i => { i with moving := some pos, confirmed := none, moveTimer := s.timerFor 2000000 }
        exact isoWatch_of_kept _ p (.inl (fun still => Option.some_ne_none pos ((congrArg Isolator.moving moves).symm.trans still)))
      · exact isoWatch_of_kept s p (.inr shows')

theorem base_contacts (f : Isolator → Isolator) (c : IsoContacts) (h : (f (s.sg.iso.get p)).contacts = c) :
    (s.mapIso p f).base =
      { s.base with isoContacts := (⟨s.sg.iso.p0.contacts, s.sg.iso.p1.contacts⟩ : Pair IsoContacts).set p c } := by
  subst h
  cases p <;> rfl

/-- The base after a change of an isolator's contacts, whether its pantograph is fitted or not. -/
theorem base_isolatorFeedback (c : IsoContacts) : (s.isolatorFeedback p c).base =
    { s.base with isoContacts := (⟨s.sg.iso.p0.contacts, s.sg.iso.p1.contacts⟩ : Pair IsoContacts).set p c } := by
  unfold State.isolatorFeedback
  split
  · rw [settle_base, base_isoWatch, base_isoArrival]
    exact base_contacts s p _ c rfl
  · exact base_contacts s p _ c rfl

theorem isolatorFeedback_kept (c : IsoContacts) :
    (s.isolatorFeedback p c).pins = s.pins ∧ (s.isolatorFeedback p c).now = s.now ∧
      ((s.isolatorFeedback p c).sg.iso.get p).contacts = c := by
  have base := base_isolatorFeedback s p c
  have each (u : State) : (u.sg.iso.get p).contacts = u.base.isoContacts.get p := by cases p <;> rfl
  refine ⟨by simpa only [State.base] using congrArg Base.pins base, by simpa only [State.base] using congrArg Base.now base, ?_⟩
  rw [each, base]
  exact pair_get_set _ _ _

end

/-! ## The commands of the feedback inputs -/

section
variable (s : State) (t since : Moment)

/-- The three contacts of the selector at their levels. -/
def selLevels (c : SelContacts) : List (InputPin × Bool) := [(.selAc, c.ac), (.selOpn, c.opn), (.selDc, c.dc)]

theorem selector_filtered (u : State) (c : SelContacts) (contacts : u.sg.selector.contacts = c) :
    ∀ l ∈ selLevels c, u.filtered l.1 = l.2 := by
  subst contacts
  simp [selLevels, State.filtered]

theorem exec_selectorFeedbackChange (c : SelContacts) (ac : (s.pins.get .selAc).level = s.sg.selector.contacts.ac)
    (opn : (s.pins.get .selOpn).level = s.sg.selector.contacts.opn) (dc : (s.pins.get .selDc).level = s.sg.selector.contacts.dc)
    (held : since + 30000 ≤ t) :
    (c = s.sg.selector.contacts → exec (.selectorFeedbackChange ⟨since, t⟩ c) s = .next { s with now := max s.now t } ∧
      s.pins.take since (selLevels c) = s.pins) ∧
    (c ≠ s.sg.selector.contacts → exec (.selectorFeedbackChange ⟨since, t⟩ c) s =
      .next (((acceptingAll s (selLevels c) since 30000).selectorFeedback c).advance t)) := by
  have pin : ∀ l ∈ selLevels c, (s.pins.get l.1).level = s.filtered l.1 := by
    simp [selLevels, State.filtered, ac, opn, dc]
  refine ⟨fun same => ?_, fun other => congrArg Host.Outcome.next ?_⟩
  · exact next_filter_levels_same s (selLevels c) since t _ pin (selector_filtered s c same.symm)
  · have nodup : ((selLevels c).map Prod.fst).Nodup := by simp [selLevels]
    have times : ∀ l ∈ selLevels c, filterTime l.1 = 30000 := by simp [selLevels, filterTime]
    have differs : ∃ l ∈ selLevels c, s.filtered l.1 ≠ l.2 := by
      refine Classical.byContradiction fun none' => ?_
      have same (l : InputPin × Bool) (mem : l ∈ selLevels c) : s.filtered l.1 = l.2 :=
        Classical.byContradiction fun off => none' ⟨l, mem, off⟩
      have ac : s.sg.selector.contacts.ac = c.ac := same (.selAc, c.ac) (by simp [selLevels])
      have opn : s.sg.selector.contacts.opn = c.opn := same (.selOpn, c.opn) (by simp [selLevels])
      have dc : s.sg.selector.contacts.dc = c.dc := same (.selDc, c.dc) (by simp [selLevels])
      exact other (by rw [SelContacts.mk.injEq]; exact ⟨ac.symm, opn.symm, dc.symm⟩)
    have level (l : InputPin × Bool) (h : l ∈ selLevels c) := acceptingAll_levelAt s since _ 30000 nodup pin times l h
    obtain ⟨pins, -, contacts⟩ := selectorFeedback_kept (acceptingAll s (selLevels c) since 30000) c
    refine filter_levels_changed s (selLevels c) since t _ 30000 pin nodup times differs held _ ?_
      pins (selector_filtered _ c contacts)
    rw [level (.selAc, c.ac) (by simp [selLevels]), level (.selOpn, c.opn) (by simp [selLevels]),
      level (.selDc, c.dc) (by simp [selLevels])]

/-- The two contacts of an isolator at their levels. -/
def isoLevels (p : Pan) (c : IsoContacts) : List (InputPin × Bool) := [(.isoOpn p, c.opn), (.isoClosed p, c.closed)]

theorem isolator_filtered (u : State) (p : Pan) (c : IsoContacts) (contacts : (u.sg.iso.get p).contacts = c) :
    ∀ l ∈ isoLevels p c, u.filtered l.1 = l.2 := by
  subst contacts
  simp [isoLevels, State.filtered]

theorem exec_isolatorFeedbackChange (p : Pan) (c : IsoContacts)
    (opn : (s.pins.get (.isoOpn p)).level = (s.sg.iso.get p).contacts.opn)
    (closed : (s.pins.get (.isoClosed p)).level = (s.sg.iso.get p).contacts.closed) (held : since + 30000 ≤ t) :
    (c = (s.sg.iso.get p).contacts → exec (.isolatorFeedbackChange ⟨since, t⟩ p c) s = .next { s with now := max s.now t } ∧
      s.pins.take since (isoLevels p c) = s.pins) ∧
    (c ≠ (s.sg.iso.get p).contacts → exec (.isolatorFeedbackChange ⟨since, t⟩ p c) s =
      .next (((acceptingAll s (isoLevels p c) since 30000).isolatorFeedback p c).advance t)) := by
  have pin : ∀ l ∈ isoLevels p c, (s.pins.get l.1).level = s.filtered l.1 := by
    simp [isoLevels, State.filtered, opn, closed]
  refine ⟨fun same => ?_, fun other => congrArg Host.Outcome.next ?_⟩
  · exact next_filter_levels_same s (isoLevels p c) since t _ pin (isolator_filtered s p c same.symm)
  · have nodup : ((isoLevels p c).map Prod.fst).Nodup := by simp [isoLevels]
    have times : ∀ l ∈ isoLevels p c, filterTime l.1 = 30000 := by simp [isoLevels, filterTime]
    have differs : ∃ l ∈ isoLevels p c, s.filtered l.1 ≠ l.2 := by
      refine Classical.byContradiction fun none' => ?_
      have same (l : InputPin × Bool) (mem : l ∈ isoLevels p c) : s.filtered l.1 = l.2 :=
        Classical.byContradiction fun off => none' ⟨l, mem, off⟩
      have opn : (s.sg.iso.get p).contacts.opn = c.opn := same (.isoOpn p, c.opn) (by simp [isoLevels])
      have closed : (s.sg.iso.get p).contacts.closed = c.closed := same (.isoClosed p, c.closed) (by simp [isoLevels])
      exact other (by rw [IsoContacts.mk.injEq]; exact ⟨opn.symm, closed.symm⟩)
    have level (l : InputPin × Bool) (h : l ∈ isoLevels p c) := acceptingAll_levelAt s since _ 30000 nodup pin times l h
    obtain ⟨pins, -, contacts⟩ := isolatorFeedback_kept (acceptingAll s (isoLevels p c) since 30000) p c
    refine filter_levels_changed s (isoLevels p c) since t _ 30000 pin nodup times differs held _ ?_
      pins (isolator_filtered _ p c contacts)
    rw [level (.isoOpn p, c.opn) (by simp [isoLevels]), level (.isoClosed p, c.closed) (by simp [isoLevels])]

end

/-- A breaker input that has held its level for 30 ms. -/
theorem exec_breakerInputChange (s : State) (t since : Moment) (active : Bool) (pin : (s.pins.get .breaker).level = s.sg.breakerOpen)
    (other : s.sg.breakerOpen ≠ active) (held : since + 30000 ≤ t) : exec (.breakerInputChange ⟨since, t⟩ active) s =
      .next (((accepting s .breaker active since).breakerInput active).settle.advance t) := by
  refine congrArg Host.Outcome.next ((filter_accepting s .breaker active since t _ pin other held).trans ?_)
  rw [accepting_levelAt s .breaker active since other]

/-! ## What the feedback and the requests make of the switchgear -/

/-- The selector after its contacts have become others: at rest, at its target, and on its way there (R98, R99). -/
theorem selectorFeedback_cases (s : State) (c : SelContacts) :
    let x := s.sg.selector
    let becomes (y : Selector) : State := { s with sg := { s.sg with selector := y } }
    (x.busy = false → x.leg = none → selShows c ≠ x.confirmed → s.selectorFeedback c = State.settle (State.raiseEvent
      (becomes { x with contacts := c, confirmed := selShows c }) (.selectorFeedback (selShows c)))) ∧
    (∀ dest, x.leg = some dest → selShows c = some dest → x.target = some dest → s.selectorFeedback c = State.settle
      (State.answerCu (State.raiseEvent (becomes ⟨c, some dest, none, none, none, false, none⟩)
        (.selectorState (some dest) none)) true)) ∧
    (∀ dest target leg, x.leg = some dest → selShows c = some dest → x.target = some target → target ≠ dest →
      nextLeg (some dest) target = some leg → x.busy = true → s.selectorFeedback c = State.settle (State.raiseEvent
        (State.raiseEvent (becomes ⟨c, none, some target, some leg, some dest, true, some (s.now + 3000000)⟩)
          (.selectorState (some dest) none)) (.selectorState none (some leg)))) := by
  intro x becomes
  refine ⟨fun rest leg other => ?_, fun dest leg shown target => ?_, fun dest target next leg shown aim ne further busy => ?_⟩
  · rw [State.selectorFeedback, selectorArrival_of_rest (s.setSelContacts c) leg,
      selectorWatch_of_other (s.setSelContacts c) rest other]
    rfl
  · rw [State.selectorFeedback, selectorArrival_of_target (s.setSelContacts c) dest leg shown target]
    refine congrArg State.settle (selectorWatch_of_kept _ (.inr ?_))
    exact shown
  · rw [State.selectorFeedback, selectorArrival_of_further (s.setSelContacts c) dest target next leg shown aim ne further,
      selectorWatch_of_kept (State.startLeg _ next) (.inl rfl), ← aim]
    rfl

theorem requestSelector_cases (s : State) (dest : SelPos) :
    let x := s.sg.selector
    let asked : State := { s with cu := { s.cu with selRequest := .asked, selAnswer := none } }
    (s.allDown = false → s.requestSelector dest = { s with cu := { s.cu with selRequest := .declined } }) ∧
    (s.allDown = true → x.busy = true →
      s.requestSelector dest = { asked with sg := { s.sg with selector := { x with target := some dest } } }) ∧
    (s.allDown = true → x.busy = false → x.confirmed = some dest → s.requestSelector dest = asked.answerCu true) ∧
    (s.allDown = true → x.busy = false → x.confirmed ≠ some dest →
      let leg : SelPos := if x.confirmed = some .opn then dest else .opn
      s.requestSelector dest = State.raiseEvent { asked with sg := { s.sg with selector := { x with
        target := some dest, leg := some leg, before := x.confirmed, confirmed := none, busy := true
        legTimer := some (s.now + 3000000) } } } (.selectorState none (some leg))) := by
  intro x asked
  refine ⟨fun up => ?_, fun down busy => ?_, fun down rest at' => ?_, fun down rest away => ?_⟩
  · exact if_neg (by simp [up])
  · exact (if_pos down).trans (if_pos busy)
  · rw [requestSelector_of_free s dest down rest, if_pos at']
    rfl
  · intro leg
    rw [requestSelector_of_free s dest down rest, if_neg away]
    rfl

/-- An isolator after its contacts have become others: at rest, at its destination, and on its way there (R102). -/
theorem isolatorFeedback_cases (s : State) (p : Pan) (c : IsoContacts) (fitted : s.fitted p = true) :
    let i := s.sg.iso.get p
    let becomes (y : Isolator) : State := { s with sg := { s.sg with iso := s.sg.iso.set p y } }
    (i.moving = none → isoShows c = i.confirmed → s.isolatorFeedback p c = (becomes { i with contacts := c }).settle) ∧
    (i.moving = none → isoShows c ≠ i.confirmed → s.isolatorFeedback p c = State.settle (State.raiseEvent
      (becomes { i with contacts := c, confirmed := isoShows c }) (.isolatorFeedback p (isoShows c)))) ∧
    (∀ dest, i.moving = some dest → isoShows c = some dest → s.isolatorFeedback p c = State.settle
      (State.serveIso (State.raiseEvent
        (becomes { i with contacts := c, confirmed := some dest, moving := none, moveTimer := none })
        (.isolatorState p (some dest) none)) p)) ∧
    (∀ dest, i.moving = some dest → isoShows c ≠ some dest →
      s.isolatorFeedback p c = (becomes { i with contacts := c }).settle) := by
  intro i becomes
  have feedback : s.isolatorFeedback p c = (((s.mapIso p fun i => { i with contacts := c }).isoArrival p).isoWatch p).settle :=
    if_pos fitted
  have iso : (s.mapIso p fun i => { i with contacts := c }).sg.iso.get p = { i with contacts := c } := iso_mapIso s p _
  rw [feedback]
  refine ⟨fun moving same => ?_, fun moving other => ?_, fun dest moving shown => ?_, fun dest moving away => ?_⟩
  · rw [isoArrival_of_rest _ p (by rw [iso]; exact moving), isoWatch_of_kept _ p (.inr (by rw [iso]; exact same))]
    rfl
  · rw [isoArrival_of_rest _ p (by rw [iso]; exact moving),
      isoWatch_of_other _ p (by rw [iso]; exact moving) (by rw [iso]; exact other), mapIso_mapIso, iso]
    rfl
  · rw [isoArrival_of_shown _ p dest (by rw [iso]; exact moving) (by rw [iso]; exact shown), mapIso_mapIso]
    refine congrArg State.settle (isoWatch_serveIso _ p ?_)
    have arrived : ((s.mapIso p fun i => { i with contacts := c, confirmed := some dest, moving := none, moveTimer := none }).raiseEvent
        (.isolatorState p (some dest) none)).sg.iso.get p =
          { i with contacts := c, confirmed := some dest, moving := none, moveTimer := none } :=
      iso_mapIso s p fun i => { i with contacts := c, confirmed := some dest, moving := none, moveTimer := none }
    rw [arrived]
    exact shown
  · rw [isoArrival_of_away _ p dest (by rw [iso]; exact moving) (by rw [iso]; exact away),
      isoWatch_of_kept _ p (.inl (by rw [iso]; exact fun still => Option.some_ne_none dest (moving.symm.trans still)))]
    rfl

theorem serveIso_cases (s : State) (p : Pan) :
    let i := s.sg.iso.get p
    let becomes (y : Isolator) : State := { s with sg := { s.sg with iso := s.sg.iso.set p y } }
    (∀ pos byIu, s.requestIso p pos byIu = State.serveIso (becomes { i with
      requested := some pos, askedIu := i.askedIu || byIu, askedCu := i.askedCu || !byIu }) p) ∧
    (i.moving ≠ none ∨ i.requested = none → s.serveIso p = s) ∧
    (∀ pos, i.moving = none → i.requested = some pos → i.confirmed = some pos →
      s.serveIso p = becomes { i with requested := none, askedIu := false, askedCu := false }) ∧
    (∀ pos, i.moving = none → i.requested = some pos → i.confirmed ≠ some pos →
      (s.fitted p = true → (s.drive p).state = .down ∨ (s.drive p).state = .blocked → s.serveIso p = State.raiseEvent
        (becomes { i with moving := some pos, confirmed := none, moveTimer := some (s.now + 2000000) })
        (.isolatorState p none (some pos))) ∧
      ((s.drive p).state ≠ .down → (s.drive p).state ≠ .blocked → s.serveIso p = s)) := by
  intro i becomes
  refine ⟨fun pos byIu => rfl, serveIso_of_idle s p, fun pos moving request at' => ?_, fun pos moving request away =>
    ⟨fun fitted down => ?_, fun h1 h2 => ?_⟩⟩
  · rw [serveIso_of_request s p pos moving request, if_pos at']
    rfl
  · rw [serveIso_of_request s p pos moving request, if_neg away, if_pos (by simpa [State.isoFree, fitted] using down)]
    rfl
  · rw [serveIso_of_request s p pos moving request, if_neg away, if_neg (by simp [State.isoFree, h1, h2])]

/-- Settles O42. -/
theorem feedbackInputsAreKept : Obligations.FeedbackInputsAreKept := by
  refine ⟨fun t since s c => ?_, selectorFeedback_cases, requestSelector_cases, fun t since s p c => ?_, isolatorFeedback_cases,
    serveIso_cases, fun t since active s => ?_⟩
  · intro x pins ac opn dc held
    obtain ⟨same, changed⟩ := exec_selectorFeedbackChange s t since c ac opn dc held
    have time : max (max s.now (since + 30000)) t = max s.now t := max_due held
    refine ⟨fun h => (same h).1, changed, ?_⟩
    by_cases h : c = x.contacts
    · obtain ⟨runs, taken⟩ := same h
      have taken : pins = s.pins := taken
      exact ⟨_, runs, by rw [taken, h]; rfl⟩
    · refine ⟨_, changed h, ?_⟩
      rw [base_advance, base_selectorFeedback, (selectorFeedback_kept _ c).2.1, ← time]
      rfl
  · intro i pins opn closed held
    obtain ⟨same, changed⟩ := exec_isolatorFeedbackChange s t since p c opn closed held
    have time : max (max s.now (since + 30000)) t = max s.now t := max_due held
    refine ⟨fun h => (same h).1, changed, fun fitted => ?_, fun unfitted h => ?_⟩
    · by_cases h : c = i.contacts
      · obtain ⟨runs, taken⟩ := same h
        have taken : pins = s.pins := taken
        refine ⟨_, runs, ?_⟩
        rw [taken, h]
        cases p <;> rfl
      · refine ⟨_, changed h, ?_⟩
        rw [base_advance, base_isolatorFeedback, (isolatorFeedback_kept _ p c).2.1, ← time]
        rfl
    · refine (changed h).trans (congrArg Host.Outcome.next ?_)
      refine (congrArg (State.advance · t) (if_neg ?_)).trans ?_
      · exact ne_true_of_eq_false unfitted
      · simp only [State.advance, acceptingAll, State.mapIso, State.mapSg, time]
        rfl
  · intro held at' pins pin
    refine ⟨fun other long => ?_, fun other early => ?_, fun same => ?_⟩
    · refine (exec_breakerInputChange s t since active pin other long).trans ?_
      refine congrArg (fun u : State => (.next ((u.raiseEvent (.breakerConfirm active)).settle.advance t) : Result)) ?_
      cases timer : s.sg.breakerTimer <;> simp only [State.mapSg, State.timerFor, accepting, timer] <;> rfl
    · exact next_filter_waits s .breaker active since t _ pin other early
    · exact next_filter_same s .breaker active since t _ pin same

end Sys2Proof.Proofs
end

section
/-! SUPPORT. The phases of a round (R128 to R131, R134) and what a round's record keeps through them, its closing (R138 to R141), and
the timers of the changeover unit (R136, R137, R142). -/

namespace Sys2Proof.Proofs

open Sys2Proof Sys2Proof.Machine Sys2Proof.Laws

/-! ## What the phases of a round keep -/

/-- A round's record without its phase and the answers of the station's own units. -/
def roundCore (c : Cu) : Cu := { c with phase := .none, breakerLate := false, selRequest := .idle, selAnswer := none }

/-- The regime, the configuration, the ROUND reason and the round's record are kept. -/
def RoundKept (s t : State) : Prop :=
  t.ru.regime = s.ru.regime ∧ t.sc = s.sc ∧ t.sg.reasons.round = s.sg.reasons.round ∧ roundCore t.cu = roundCore s.cu

theorem RoundKept.trans {s t u : State} (first : RoundKept s t) (second : RoundKept t u) : RoundKept s u := by
  obtain ⟨regime, config, reason, record⟩ := first
  obtain ⟨regime', config', reason', record'⟩ := second
  exact ⟨regime'.trans regime, config'.trans config, reason'.trans reason, record'.trans record⟩

theorem roundKept_of_aside {s t : State} (h : aside t = aside s) : RoundKept s t :=
  ⟨by rw [aside_ru h], aside_sc h, by rw [aside_sg h], by rw [aside_cu h]⟩

section
variable (s : State)

theorem roundKept_phaseTo (ph : RoundPhase) : RoundKept s (s.phaseTo ph) := ⟨rfl, rfl, rfl, rfl⟩

theorem roundKept_requestSelector (dest : SelPos) :
    RoundKept s (s.requestSelector dest) ∧ (s.requestSelector dest).cu.phase = s.cu.phase := by
  unfold State.requestSelector
  dsimp only
  split
  · split
    · exact ⟨⟨rfl, rfl, rfl, rfl⟩, rfl⟩
    · split <;> exact ⟨⟨rfl, rfl, rfl, rfl⟩, rfl⟩
  · exact ⟨⟨rfl, rfl, rfl, rfl⟩, rfl⟩

theorem roundKept_enterReady : RoundKept s s.enterReady :=
  (roundKept_phaseTo s .ready).trans (roundKept_of_aside (aside_send _ _))

theorem enterSwitch_of_target (target : Supply) (h : s.cu.target = some target) :
    s.enterSwitch = (s.phaseTo .switch).requestSelector (selectorFor target) := by
  unfold State.enterSwitch
  rw [h]

theorem roundKept_enterSwitch : RoundKept s s.enterSwitch ∧ s.enterSwitch.cu.phase = .switch := by
  cases h : s.cu.target with
  | none =>
    have enters : s.enterSwitch = s.phaseTo .switch := by
      unfold State.enterSwitch
      rw [h]
    rw [enters]
    exact ⟨roundKept_phaseTo s .switch, rfl⟩
  | some target =>
    obtain ⟨kept, phase⟩ := roundKept_requestSelector (s.phaseTo .switch) (selectorFor target)
    rw [enterSwitch_of_target s target h]
    exact ⟨(roundKept_phaseTo s .switch).trans kept, phase⟩

/-! ## Each own drive ordered down with cause ROUND -/

/-- Every drive that is not DOWN ordered down (R129, R145). -/
def lowerAll : State := s.eachFitted fun p v => if (v.drive p).state = .down then v else v.orderDown p .round

theorem aside_lowerAll : aside (lowerAll s) = aside s :=
  aside_eachFitted _ _ fun p t => by split <;> simp

end

/-- What the order makes of a drive. -/
def RoundLowered (d x : Drive) : Prop :=
  x.state ≠ .raising ∧ x.state ≠ .up ∧
    (d.state = .raising ∨ d.state = .up → d.housed = false → x.state = .lowering) ∧
    (d.state ≠ .raising → d.state ≠ .up → x.state = d.state)

theorem roundLowered_orderDown (s : State) (p : Pan) (c : DownCause) : RoundLowered (s.drive p) ((s.orderDown p c).drive p) := by
  by_cases raised : (s.drive p).state = .raising ∨ (s.drive p).state = .up
  · have lowered := orderDown_of_raised s p c raised
    have rests : ((s.orderDown p c).drive p).state ≠ .raising ∧ ((s.orderDown p c).drive p).state ≠ .up := by
      cases housed : (s.drive p).housed with
      | true => obtain h | h := (lowered.housed housed).1 <;> simp [h]
      | false => simp [(lowered.unhoused housed).1]
    exact ⟨rests.1, rests.2, fun _ unhoused => (lowered.unhoused unhoused).1, fun h1 h2 => absurd raised (not_or.mpr ⟨h1, h2⟩)⟩
  · obtain ⟨h1, h2⟩ := not_or.mp raised
    have state := orderDown_state_of_rest s p c h1 h2
    exact ⟨by rwa [state], by rwa [state], fun h => absurd h raised, fun _ _ => state⟩

theorem lowerAll_lowered (s : State) {p : Pan} (fitted : s.fitted p = true) : RoundLowered (s.drive p) ((lowerAll s).drive p) :=
  (eachFitted_drive (I := fun _ => True) (R := RoundLowered) _ (fun _ _ _ => trivial)
    (fun p t q => by split <;> simp [aside_fitted (aside_orderDown t p .round)])
    (fun p t _ => by
      split
      next down => simp [RoundLowered, down]
      next => exact roundLowered_orderDown t p .round)
    (fun p q t h => by
      split
      · rfl
      · exact drive_orderDown_ne t .round h) s trivial).2 p fitted

theorem allDown_iff (s : State) : s.allDown = true ↔
    ∀ p, s.fitted p = true → (s.drive p).state = .down ∨ (s.drive p).state = .blocked := by
  simp only [State.allDown, List.all_cons, List.all_nil, Bool.and_true, Bool.and_eq_true, Bool.or_eq_true, Bool.not_eq_true',
    decide_eq_true_eq]
  refine ⟨fun h p fitted => ?_, fun h => ⟨?_, ?_⟩⟩
  · cases p
    · simpa [fitted] using h.1
    · simpa [fitted] using h.2
  · cases fitted : s.fitted .p0
    · simp
    · simpa using h .p0 fitted
  · cases fitted : s.fitted .p1
    · simp
    · simpa using h .p1 fitted

theorem anyFitted_eq_false (s : State) : s.anyFitted = false ↔ ∀ p, s.fitted p = false := by
  simp only [State.anyFitted, Bool.or_eq_false_iff]
  refine ⟨fun h p => ?_, fun h => ⟨h .p0, h .p1⟩⟩
  cases p
  · exact h.1
  · exact h.2

theorem allDown_of_none_fitted (s : State) (h : s.anyFitted = false) : s.allDown = true :=
  (allDown_iff s).mpr fun p fitted => absurd fitted (by simp [(anyFitted_eq_false s).mp h p])

/-! ## LOWER (R129) -/

section
variable (s : State)

/-- LOWER with its breaker test, before the drives are ordered down. -/
def testedBreaker : State :=
  if !s.allDown && !s.sg.breakerOpen && !s.cu.breakerLate then
    ((s.phaseTo .lower).mapCu fun c => { c with breakerLate := true }).raiseFault .breakerLate (.breakerRound s.cu.number) none s.cu.number
  else s.phaseTo .lower

theorem testedBreaker_spec : RoundKept s (testedBreaker s) ∧ (testedBreaker s).cu.phase = .lower ∧
    (∀ p, (testedBreaker s).drive p = s.drive p) ∧ (testedBreaker s).sc = s.sc := by
  unfold testedBreaker
  split
  · have kept := aside_raiseFault ((s.phaseTo .lower).mapCu fun c => { c with breakerLate := true }) .breakerLate
      (.breakerRound s.cu.number) none s.cu.number
    have marked : RoundKept s ((s.phaseTo .lower).mapCu fun c => { c with breakerLate := true }) := ⟨rfl, rfl, rfl, rfl⟩
    exact ⟨marked.trans (roundKept_of_aside kept), congrArg Cu.phase (aside_cu kept), fun p => drive_raiseFault _ _ _ _ _ p,
      (aside_sc kept).trans rfl⟩
  · exact ⟨roundKept_phaseTo s .lower, rfl, fun p => rfl, rfl⟩

theorem enterLower_eq : s.enterLower =
    if !s.anyFitted then (lowerAll (testedBreaker s)).enterReady
    else if (lowerAll (testedBreaker s)).allDown then (lowerAll (testedBreaker s)).enterSwitch else lowerAll (testedBreaker s) := rfl

theorem lowered_spec : RoundKept s (lowerAll (testedBreaker s)) ∧ (lowerAll (testedBreaker s)).cu.phase = .lower ∧
    (lowerAll (testedBreaker s)).sc = s.sc ∧
    ∀ p, s.fitted p = true → RoundLowered (s.drive p) ((lowerAll (testedBreaker s)).drive p) := by
  obtain ⟨kept, phase, drives, config⟩ := testedBreaker_spec s
  have lowers := aside_lowerAll (testedBreaker s)
  refine ⟨kept.trans (roundKept_of_aside lowers), (congrArg Cu.phase (aside_cu lowers)).trans phase, (aside_sc lowers).trans config,
    fun p fitted => ?_⟩
  have lowered := lowerAll_lowered (testedBreaker s) ((fitted_of_config (by rw [config]) p).trans fitted)
  rwa [drives] at lowered

theorem roundKept_enterLower : RoundKept s s.enterLower := by
  obtain ⟨kept, -⟩ := lowered_spec s
  rw [enterLower_eq]
  split
  · exact kept.trans (roundKept_enterReady _)
  · split
    · exact kept.trans (roundKept_enterSwitch _).1
    · exact kept

theorem enterLower_of_none_fitted (h : s.anyFitted = false) : s.enterLower = (s.phaseTo .lower).enterReady := by
  have quiet : testedBreaker s = s.phaseTo .lower := if_neg (by simp [allDown_of_none_fitted s h])
  have none' := (anyFitted_eq_false s).mp h
  have rests : lowerAll (s.phaseTo .lower) = s.phaseTo .lower := by
    have fitted (p : Pan) : (s.phaseTo .lower).fitted p = false := none' p
    simp [lowerAll, State.eachFitted, fitted]
  rw [enterLower_eq, quiet, rests, if_pos (by simp [h])]

theorem enterLower_of_allDown (fitted : s.anyFitted = true) (down : s.allDown = true) : s.enterLower.cu.phase = .switch := by
  obtain ⟨-, -, config, lowered⟩ := lowered_spec s
  have still : (lowerAll (testedBreaker s)).allDown = true := (allDown_iff _).mpr fun p fits => by
    have fits : s.fitted p = true := (fitted_of_config (by rw [config]) p).symm.trans fits
    have rests := (allDown_iff s).mp down p fits
    obtain ⟨-, -, -, rest⟩ := lowered p fits
    rw [rest (by obtain h | h := rests <;> simp [h]) (by obtain h | h := rests <;> simp [h])]
    exact rests
  rw [enterLower_eq, if_neg (by simp [fitted]), if_pos still]
  exact (roundKept_enterSwitch _).2

/-- A drive on its way down, or about to be, keeps the station in LOWER, with no drive raised. -/
theorem enterLower_of_lowering (p : Pan) (fitted : s.fitted p = true)
    (moving : (s.drive p).state = .lowering ∨ (s.drive p).state = .dropped ∨
      ((s.drive p).state = .raising ∨ (s.drive p).state = .up) ∧ (s.drive p).housed = false) :
    s.enterLower.cu.phase = .lower ∧
      ∀ p, s.fitted p = true → (s.enterLower.drive p).state ≠ .raising ∧ (s.enterLower.drive p).state ≠ .up := by
  obtain ⟨-, phase, config, lowered⟩ := lowered_spec s
  have waits : ¬ (lowerAll (testedBreaker s)).allDown = true := by
    intro down
    have rests := (allDown_iff _).mp down p ((fitted_of_config (by rw [config]) p).trans fitted)
    obtain ⟨-, -, raised, rest⟩ := lowered p fitted
    obtain h | h | ⟨h, unhoused⟩ := moving
    · rw [rest (by simp [h]) (by simp [h]), h] at rests
      simp at rests
    · rw [rest (by simp [h]) (by simp [h]), h] at rests
      simp at rests
    · rw [raised h unhoused] at rests
      simp at rests
  have any : s.anyFitted = true := by
    cases h : s.anyFitted
    · exact absurd fitted (by simp [(anyFitted_eq_false s).mp h p])
    · rfl
  rw [enterLower_eq, if_neg (by simp [any]), if_neg waits]
  exact ⟨phase, fun q fits => ⟨(lowered q fits).1, (lowered q fits).2.1⟩⟩

theorem roundKept_testLower : RoundKept s s.testLower := by
  unfold State.testLower
  split
  · exact roundKept_enterLower s
  · exact ⟨rfl, rfl, rfl, rfl⟩

/-! ## Closing (R138 to R141) -/

theorem removeReason_cu_ru (x : Reason) : (s.removeReason x).cu = s.cu ∧ (s.removeReason x).ru = s.ru := by
  unfold State.removeReason
  split <;> exact ⟨rfl, rfl⟩

/-- ROUND is removed, and the record and the regime stay as the close has left them (R138). -/
theorem announceClose_spec (o : RoundOutcome) (reason : Option CloseReason) :
    (s.announceClose o reason).cu = s.cu ∧ (s.announceClose o reason).ru = s.ru ∧
      (s.announceClose o reason).sg.reasons.round = false := by
  have kept := aside_followUsable ((s.removeReason .round).raiseEvent (.roundClosed s.cu.number o reason)).roundMoves
  obtain ⟨cu, ru⟩ := removeReason_cu_ru s .round
  refine ⟨(aside_cu kept).trans cu, (aside_ru kept).trans ru, ?_⟩
  exact (congrArg (fun g : Sg => g.reasons.round) (aside_sg kept)).trans (removeReason_holds s .round)

theorem base_announceClose (o : RoundOutcome) (reason : Option CloseReason) : (s.announceClose o reason).base = s.base := by
  simp [State.announceClose]

/-- The regime record with another system, and the event of it. -/
def systemTo (system : Option Supply) : State :=
  (s.mapRu fun r => { r with regime := { r.regime with system := system } }).raiseEvent
    (.regimeChanged system s.ru.regime.band s.ru.regime.direction)

theorem setSystem_cases (system : Option Supply) :
    s.setSystem system = s ∧ s.ru.regime.system = system ∨ s.setSystem system = systemTo s system ∨
      s.setSystem system = (systemTo s system).orderAllDown .regimeNone := by
  unfold State.setSystem State.changeRegime
  dsimp only
  by_cases same : s.ru.regime.system = system
  · exact .inl ⟨if_pos ⟨same, rfl, rfl⟩, same⟩
  · rw [if_neg fun h => same h.1, if_pos rfl]
    split
    · exact .inr (.inr rfl)
    · exact .inr (.inl rfl)

/-- The regime with another system: no other unit beside the drives changes but by the lowering at NONE (R36, R68, R138). -/
theorem setSystem_spec (system : Option Supply) :
    (s.setSystem system).ru = { s.ru with regime := { s.ru.regime with system := system } } ∧
      (s.setSystem system).cu = s.cu ∧ (s.setSystem system).sc = s.sc ∧ (s.setSystem system).sg = s.sg := by
  obtain ⟨same, already⟩ | changed | lowers := setSystem_cases s system
  · rw [same, ← already]
    exact ⟨rfl, rfl, rfl, rfl⟩
  · rw [changed]
    exact ⟨rfl, rfl, rfl, rfl⟩
  · have kept := aside_orderAllDown (systemTo s system) .regimeNone
    rw [lowers]
    exact ⟨(aside_ru kept).trans rfl, (aside_cu kept).trans rfl, (aside_sc kept).trans rfl, (aside_sg kept).trans rfl⟩

theorem base_setSystem (system : Option Supply) : (s.setSystem system).base = { s.base with system := system } := by
  have base : (systemTo s system).base = { s.base with system := system } := by
    rw [systemTo, base_raiseEvent]
    rfl
  obtain ⟨same, already⟩ | changed | lowers := setSystem_cases s system
  · rw [same, ← already]
    rfl
  · rw [changed, base]
  · rw [lowers, base_orderAllDown, base]

theorem aside_dropProbe : aside s.dropProbe = aside s :=
  aside_eachFitted _ _ fun p t => by
    repeat' split
    all_goals simp

theorem base_dropProbe : s.dropProbe.base = s.base :=
  base_eachFitted _ _ fun p t => by
    repeat' split
    all_goals simp

/-- A round's record once the round has closed (R138, R140). -/
def closedRecord (c : Cu) (o : RoundOutcome) (reason : Option CloseReason) : Cu :=
  { c with
    isOpen := false, outcome := o, closeReason := reason, catchUp := false, roundTimer := none, probeWait := none
    probeRetry := none, lost := none, selRequest := .idle, selAnswer := none, isoFailed := ⟨false, false⟩
    probeReported := false, phase := .none }

theorem closeRecord_cu (o : RoundOutcome) (reason : Option CloseReason) :
    (s.closeRecord o reason).cu = closedRecord s.cu o reason := rfl

theorem base_closeRecord (o : RoundOutcome) (reason : Option CloseReason) : (s.closeRecord o reason).base = s.base := by
  rw [State.closeRecord, base_phaseTo, base_mapCu]

theorem withdrawCloses_spec : s.withdrawCloses.cu = s.cu ∧ s.withdrawCloses.ru = s.ru ∧ s.withdrawCloses.base = s.base := by
  unfold State.withdrawCloses
  split
  · exact ⟨rfl, rfl, rfl⟩
  · exact ⟨rfl, rfl, base_withdraw _ _⟩

/-- The record of a round that closes ABORTED (R139, R141). -/
theorem closeAborted_spec (reason : CloseReason) :
    (s.closeAborted reason).cu = closedRecord s.cu .aborted (some reason) ∧
      (s.closeAborted reason).ru.regime = { s.ru.regime with system := none } ∧
      (s.closeAborted reason).sg.reasons.round = false ∧ (s.closeAborted reason).base = { s.base with system := none } := by
  obtain ⟨cu, ru, base⟩ := withdrawCloses_spec s
  obtain ⟨ru', cu', -⟩ := setSystem_spec (s.withdrawCloses.closeRecord .aborted (some reason)) none
  have drops := aside_dropProbe ((s.withdrawCloses.closeRecord .aborted (some reason)).setSystem none)
  obtain ⟨cu'', ru'', round⟩ := announceClose_spec
    ((s.withdrawCloses.closeRecord .aborted (some reason)).setSystem none).dropProbe .aborted (some reason)
  refine ⟨cu''.trans ((aside_cu drops).trans (cu'.trans ?_)), ?_, round, ?_⟩
  · rw [closeRecord_cu, cu]
  · have regime : (s.withdrawCloses.closeRecord .aborted (some reason)).ru.regime = s.ru.regime := congrArg Ru.regime ru
    rw [State.closeAborted, ru'', aside_ru drops, ru', regime]
  · rw [State.closeAborted, base_announceClose, base_dropProbe, base_setSystem, base_closeRecord, base]

end

end Sys2Proof.Proofs
end

section
/-! SUPPORT. The timers of the changeover unit and the phases of a round. -/

namespace Sys2Proof.Proofs

open Sys2Proof Sys2Proof.Machine Sys2Proof.Laws

section
variable (s : State)

/-! ## GATHER (R128) -/

theorem testLower_of_other (h : s.cu.phase ≠ .gather) : s.testLower = s := if_neg (by simp [h])

theorem testLower_of_reached (h : s.cu.phase = .gather) (reached : s.lowerPointReached = true ∨ s.anyFitted = false) :
    s.testLower = s.enterLower := if_pos (by simpa [h] using reached)

theorem testLower_of_ahead (ahead : s.lowerPointReached = false) (fitted : s.anyFitted = true) : s.testLower = s :=
  if_neg (by simp [ahead, fitted])

/-! ## SWITCH (R130, R140) -/

theorem takeAnswer_of_confirmed (phase : s.cu.phase = .switch) (catchUp : s.cu.catchUp = false) (answer : s.cu.selAnswer = some true) :
    s.takeAnswer = State.enterReady { s with cu := { s.cu with selAnswer := none } } := by
  unfold State.takeAnswer
  rw [answer]
  dsimp only
  rw [if_pos phase, if_neg (by simp [catchUp]), if_pos rfl]
  rfl

theorem takeAnswer_of_failed (phase : s.cu.phase = .switch) (catchUp : s.cu.catchUp = false) (answer : s.cu.selAnswer = some false) :
    s.takeAnswer = { s with cu := { s.cu with selAnswer := none, selRequest := .failed } } := by
  unfold State.takeAnswer
  rw [answer]
  dsimp only
  rw [if_pos phase, if_neg (by simp [catchUp]), if_neg Bool.false_ne_true]
  rfl

/-- The local close of catch-up (R140). -/
theorem closeLocal_spec : s.closeLocal.cu = closedRecord s.cu .done none ∧ s.closeLocal.sg.reasons.round = false := by
  obtain ⟨cu, -, round⟩ := announceClose_spec (s.closeRecord .done none) .done none
  exact ⟨cu, round⟩

theorem takeAnswer_of_catchUp (ok : Bool) (phase : s.cu.phase = .switch) (catchUp : s.cu.catchUp = true)
    (answer : s.cu.selAnswer = some ok) : s.takeAnswer =
      (s.mapCu fun c => { c with selAnswer := none, selRequest := if ok then c.selRequest else .failed }).closeLocal := by
  unfold State.takeAnswer
  rw [answer]
  dsimp only
  rw [if_pos phase, if_pos catchUp]

/-! ## READY and PROBE (R134) -/

theorem followProbeEntry_of_ready (phase : s.cu.phase = .ready) (probe : s.occupyingRole .probe = true) :
    s.followProbeEntry = s.phaseTo .probe := if_pos (by simp [phase, probe])

theorem followProbeEntry_of_probe (phase : s.cu.phase = .probe) (gone : s.occupyingRole .probe = false) :
    s.followProbeEntry = s.phaseTo .ready := by
  unfold State.followProbeEntry
  rw [if_neg (by simp [phase]), if_pos (by simp [phase, gone])]

theorem followProbeEntry_of_other (h1 : s.cu.phase ≠ .ready) (h2 : s.cu.phase ≠ .probe) : s.followProbeEntry = s := by
  unfold State.followProbeEntry
  rw [if_neg (by simp [h1]), if_neg (by simp [h2])]

/-! ## The round timer (R139, R142) -/

theorem roundTimeoutOver_of_open (h : s.cu.phase ≠ .adopted) : s.roundTimeoutOver =
    (s.mapCu fun c => { c with roundTimer := none }).sendClose
      (.coAbort s.cu.number (systemCode s.cu.target) (if s.peerUnsure then 3 else 1)) := if_neg h

theorem roundTimeoutOver_of_adopted (h : s.cu.phase = .adopted) : s.roundTimeoutOver =
    (s.mapCu fun c => { c with roundTimer := none }).closeAborted .timeout := if_pos h

end

/-- Settles O44. -/
theorem roundTimersQueueTheirNotices : Obligations.RoundTimersQueueTheirNotices := by
  refine ⟨fun t due s => ?_, fun s => ?_⟩
  · intro now unsure
    have runs (running : s.cu.roundTimer = some due) :
        exec (.roundTimerExpiry t) s = .next (s.advance (max t due)).roundTimeoutOver.settle :=
      next_expire_of_running s t due _ (fun _ u => u.roundTimeoutOver.settle) running
    refine ⟨fun running phase => ?_, fun running phase => ?_, fun running => ?_, fun running => ?_⟩
    · rw [runs running, roundTimeoutOver_of_open (s.advance (max t due)) phase]
      rfl
    · obtain ⟨cu, -, round, base⟩ := closeAborted_spec { s with now := now, cu := { s.cu with roundTimer := none } } .timeout
      refine ⟨_, ?_, rfl, by rw [cu]; rfl, by rw [cu]; rfl, by rw [cu]; rfl, by rw [cu]; rfl, by rw [cu]; rfl, round, ?_⟩
      · rw [runs running, roundTimeoutOver_of_adopted (s.advance (max t due)) phase]
        rfl
      · rw [settle_base, base]
        rfl
    · exact next_expire_of_running s t due _ (fun _ u => u.reportProbe.settle) running
    · exact next_expire_of_running s t due _ (fun _ u => (u.mapCu fun c => { c with probeRetry := none }).settle) running
  · refine ⟨rfl, testLower_of_other s, fun phase => ?_, enterLower_of_none_fitted s, enterLower_of_allDown s,
      fun ⟨p, fitted, moving⟩ => enterLower_of_lowering s p fitted moving, enterSwitch_of_target s, rfl, takeAnswer_of_confirmed s,
      takeAnswer_of_failed s, fun ok phase catchUp answer => ?_, followProbeEntry_of_ready s, followProbeEntry_of_probe s,
      followProbeEntry_of_other s⟩
    · intro reached
      have point : s.lowerPointReached = reached := rfl
      exact ⟨fun h => testLower_of_reached s phase (point ▸ h), fun ahead fitted => testLower_of_ahead s (point ▸ ahead) fitted⟩
    · obtain ⟨cu, round⟩ :=
        closeLocal_spec (s.mapCu fun c => { c with selAnswer := none, selRequest := if ok then c.selRequest else .failed })
      rw [takeAnswer_of_catchUp s ok phase catchUp answer, cu]
      exact ⟨rfl, rfl, rfl, round⟩

end Sys2Proof.Proofs
end

section
/-! SUPPORT. The opening, the adoption and the closing of a round by its notices (R126, R132, R138 to R141, R144, R145). -/

namespace Sys2Proof.Proofs

open Sys2Proof Sys2Proof.Machine Sys2Proof.Laws

section
variable (s : State)

/-! ## Closing DONE (R138) -/

theorem closeDone_spec : s.closeDone.cu = closedRecord s.cu .done none ∧
    s.closeDone.ru.regime = { s.ru.regime with system := s.cu.target } ∧ s.closeDone.sg.reasons.round = false := by
  obtain ⟨cu, ru, -⟩ := withdrawCloses_spec s
  obtain ⟨ru', cu', -⟩ := setSystem_spec (s.withdrawCloses.closeRecord .done none) s.cu.target
  obtain ⟨cu'', ru'', round⟩ := announceClose_spec
    ((s.withdrawCloses.closeRecord .done none).setSystem s.cu.target).probesToCollectors .done none
  refine ⟨cu''.trans (cu'.trans ?_), ?_, round⟩
  · rw [closeRecord_cu, cu]
  · have regime : (s.withdrawCloses.closeRecord .done none).ru.regime = s.ru.regime := congrArg Ru.regime ru
    have same : ((s.withdrawCloses.closeRecord .done none).setSystem s.cu.target).probesToCollectors.ru.regime =
        ((s.withdrawCloses.closeRecord .done none).setSystem s.cu.target).ru.regime := rfl
    rw [State.closeDone, ru'', same, ru', regime]

/-! ## Opening (R126, R128) -/

/-- The section unit is told of an opening in its own records, the queue and the scraper's test. -/
theorem tellSection_keeps (k : Option SectionKey) (e : SectionEntry) : ∃ rlp sq,
    (if k = some e.key then (s.withdraw (isProposalFor e.key)).markProposed e.key true
      else if s.rlp.queue.any (isProposalFor e.key) then (s.withdraw (isProposalFor e.key)).markProposed e.key false
      else s) = { s with rlp := rlp, sq := sq } := by
  split
  · exact ⟨_, _, rfl⟩
  · split
    · exact ⟨_, _, rfl⟩
    · exact ⟨_, _, rfl⟩

theorem tellSections_keeps (k : Option SectionKey) (l : List SectionEntry) : ∃ rlp sq,
    l.foldl (fun t e =>
      if k = some e.key then (t.withdraw (isProposalFor e.key)).markProposed e.key true
      else if t.rlp.queue.any (isProposalFor e.key) then (t.withdraw (isProposalFor e.key)).markProposed e.key false
      else t) s = { s with rlp := rlp, sq := sq } := by
  induction l generalizing s with
  | nil => exact ⟨_, _, rfl⟩
  | cons e rest ih =>
    obtain ⟨rlp, sq, tells⟩ := tellSection_keeps s k e
    rw [List.foldl_cons, tells]
    exact ih _

theorem sectionsAtOpening_keeps (k : Option SectionKey) :
    ∃ rlp sq iu, s.sectionsAtOpening k = { s with rlp := rlp, sq := sq, iu := iu } := by
  obtain ⟨rlp, sq, tells⟩ := tellSections_keeps s k s.sq.entries
  unfold State.sectionsAtOpening
  rw [tells]
  exact ⟨_, _, _, rfl⟩

theorem roundKept_scraperMeetsRound : RoundKept s s.scraperMeetsRound := by
  obtain ⟨cu, ru, sc, reasons⟩ := scraperMeetsRound_leaves s
  exact ⟨by rw [ru], sc, by rw [reasons], by rw [cu]⟩

theorem addReason_beside (x : Reason) : (s.addReason x).cu = s.cu ∧ (s.addReason x).ru = s.ru ∧ (s.addReason x).sc = s.sc ∧
    (s.addReason x).pd = s.pd := by
  unfold State.addReason
  split <;> exact ⟨rfl, rfl, rfl, rfl⟩

/-- What GATHER does once ROUND is added keeps the round's record (R128). -/
theorem roundKept_gather : RoundKept s s.dropRaises.scraperMeetsRound.followUsable.testLower := by
  have drops : RoundKept s s.dropRaises := roundKept_of_aside (aside_dropRaises s)
  have meets : RoundKept s.dropRaises s.dropRaises.scraperMeetsRound := roundKept_scraperMeetsRound s.dropRaises
  have follows : RoundKept s.dropRaises.scraperMeetsRound s.dropRaises.scraperMeetsRound.followUsable :=
    roundKept_of_aside (aside_followUsable s.dropRaises.scraperMeetsRound)
  exact ((drops.trans meets).trans follows).trans (roundKept_testLower s.dropRaises.scraperMeetsRound.followUsable)

/-- GATHER adds ROUND, and keeps the rest of the round's record and the regime (R128). -/
theorem enterGather_spec : s.enterGather.ru.regime = s.ru.regime ∧ s.enterGather.sg.reasons.round = true ∧
    roundCore s.enterGather.cu = roundCore s.cu := by
  obtain ⟨cu, ru, -, -⟩ := addReason_beside (s.phaseTo .gather) .round
  obtain ⟨regime', -, reason', core'⟩ := roundKept_gather ((s.phaseTo .gather).addReason .round)
  rw [State.enterGather, regime', reason', core', ru, cu]
  exact ⟨rfl, addReason_holds (s.phaseTo .gather) .round, rfl⟩

/-- A round's record with a new number, target, key and points. -/
def openedRecord (c : Cu) (n : Byte) (target : Supply) (k : RoundKey) (a b : Option Word32) (due : Timer) : Cu :=
  { c with
    number := n, mod64 := false, isOpen := true, key := k, target := some target, start := a, finish := b, ready := []
    catchUp := false, breakerLate := false, roundTimer := due, selRequest := .idle, selAnswer := none
    isoFailed := ⟨false, false⟩, probeReported := false }

/-- The state in which a round is opened, before GATHER. -/
def opening (n : Byte) (target : Supply) (k : RoundKey) (a b : Option Word32) : State :=
  ((s.mapCu fun c => openedRecord c n target k a b (some (s.now + s.roundTimeout))).raiseEvent
    (.roundOpened n (some target) k false)).sectionsAtOpening (queuedKey k)

theorem openRound_eq (n : Byte) (target : Supply) (k : RoundKey) (a b : Option Word32) :
    s.openRound n target k a b = (opening s n target k a b).enterGather := rfl

theorem openRound_spec (n : Byte) (target : Supply) (k : RoundKey) (a b : Option Word32) :
    (s.openRound n target k a b).ru.regime = s.ru.regime ∧ (s.openRound n target k a b).sg.reasons.round = true ∧
      roundCore (s.openRound n target k a b).cu =
        roundCore (openedRecord s.cu n target k a b (some (s.now + s.roundTimeout))) := by
  obtain ⟨rlp, sq, iu, tells⟩ := sectionsAtOpening_keeps ((s.mapCu fun c =>
    openedRecord c n target k a b (some (s.now + s.roundTimeout))).raiseEvent (.roundOpened n (some target) k false)) (queuedKey k)
  obtain ⟨regime, round, core⟩ := enterGather_spec (opening s n target k a b)
  rw [openRound_eq, regime, round, core, opening, tells]
  exact ⟨rfl, rfl, rfl⟩

/-- The parts of a round's record that its core holds. -/
theorem roundCore_eq {a b : Cu} (h : roundCore a = roundCore b) : a.isOpen = b.isOpen ∧ a.number = b.number ∧ a.mod64 = b.mod64 ∧
    a.target = b.target ∧ a.key = b.key ∧ a.start = b.start ∧ a.finish = b.finish ∧ a.ready = b.ready ∧ a.catchUp = b.catchUp ∧
    a.roundTimer = b.roundTimer := by
  simp only [roundCore, Cu.mk.injEq] at h
  obtain ⟨number, mod64, isOpen, key, target, start, finish, ready, -, -, -, catchUp, -, timer, -⟩ := h
  exact ⟨isOpen, number, mod64, target, key, start, finish, ready, catchUp, timer⟩

theorem openRound_isOpen (n : Byte) (target : Supply) (k : RoundKey) (a b : Option Word32) :
    (s.openRound n target k a b).cu.isOpen = true := by
  obtain ⟨-, -, core⟩ := openRound_spec s n target k a b
  obtain ⟨isOpen, -⟩ := roundCore_eq core
  exact isOpen

/-! ## The completion of an adoption (R145) -/

/-- The adopted record with the number in full, target, key and points, as the section unit is told of it. -/
def completedRecord (n : Byte) (target : Supply) (k : RoundKey) (a b : Option Word32) : State :=
  (s.mapCu fun c => { c with
    number := n, mod64 := false, key := k, target := some target, start := a, finish := b, selAnswer := none }).sectionsAtOpening
    (queuedKey k)

theorem completeAdoption_of_fitted (n : Byte) (target : Supply) (k : RoundKey) (a b : Option Word32) (h : s.anyFitted = true) :
    s.completeAdoption n target k a b = (completedRecord s n target k a b).enterSwitch := if_pos h

theorem completeAdoption_of_unfitted (n : Byte) (target : Supply) (k : RoundKey) (a b : Option Word32) (h : s.anyFitted = false) :
    s.completeAdoption n target k a b =
      (if s.sg.selector.busy && s.sg.selector.target = some .opn then
        (completedRecord s n target k a b).requestSelector (selectorFor target) else completedRecord s n target k a b).enterReady :=
  if_neg (by simp [h])

theorem completedRecord_keeps (n : Byte) (target : Supply) (k : RoundKey) (a b : Option Word32) :
    ∃ rlp sq iu, completedRecord s n target k a b = { s with
      rlp := rlp, sq := sq, iu := iu
      cu := { s.cu with
        number := n, mod64 := false, key := k, target := some target, start := a, finish := b, selAnswer := none } } :=
  sectionsAtOpening_keeps _ _

theorem completeAdoption_isOpen (n : Byte) (target : Supply) (k : RoundKey) (a b : Option Word32) :
    (s.completeAdoption n target k a b).cu.isOpen = s.cu.isOpen := by
  obtain ⟨rlp, sq, iu, told⟩ := completedRecord_keeps s n target k a b
  have kept (t : State) (h : RoundKept (completedRecord s n target k a b) t) : t.cu.isOpen = s.cu.isOpen := by
    obtain ⟨-, -, -, core⟩ := h
    rw [told] at core
    obtain ⟨isOpen, -⟩ := roundCore_eq core
    exact isOpen
  cases h : s.anyFitted with
  | true =>
    rw [completeAdoption_of_fitted s n target k a b h]
    exact kept _ (roundKept_enterSwitch _).1
  | false =>
    rw [completeAdoption_of_unfitted s n target k a b h]
    split
    · exact kept _ ((roundKept_requestSelector _ _).1.trans (roundKept_enterReady _))
    · exact kept _ (roundKept_enterReady _)

/-- Without pantographs a move to OPEN still running is sent on to the target's position (R97, R145). -/
theorem completeAdoption_selector (n : Byte) (target : Supply) (k : RoundKey) (a b : Option Word32) (h : s.anyFitted = false)
    (busy : s.sg.selector.busy = true) (opening : s.sg.selector.target = some .opn) :
    s.completeAdoption n target k a b = ((completedRecord s n target k a b).requestSelector (selectorFor target)).enterReady ∧
      (s.completeAdoption n target k a b).sg.selector = { s.sg.selector with target := some (selectorFor target) } := by
  have completes := completeAdoption_of_unfitted s n target k a b h
  rw [if_pos (by simp [busy, opening])] at completes
  refine ⟨completes, ?_⟩
  obtain ⟨rlp, sq, iu, told⟩ := completedRecord_keeps s n target k a b
  have down : (completedRecord s n target k a b).allDown = true := by
    rw [told]
    exact allDown_of_none_fitted s h
  have request : (completedRecord s n target k a b).requestSelector (selectorFor target) =
      ((completedRecord s n target k a b).mapCu fun c => { c with selRequest := .asked, selAnswer := none }).mapSg fun g =>
        { g with selector := { g.selector with target := some (selectorFor target) } } := by
    have busy : (completedRecord s n target k a b).sg.selector.busy = true := by rw [told]; exact busy
    exact (if_pos down).trans (if_pos busy)
  have sent := aside_send (((completedRecord s n target k a b).requestSelector (selectorFor target)).phaseTo .ready)
    (.coReady ((completedRecord s n target k a b).requestSelector (selectorFor target)).cu.number
      (systemCode ((completedRecord s n target k a b).requestSelector (selectorFor target)).cu.target))
  rw [completes]
  refine (congrArg Sg.selector (aside_sg sent)).trans ?_
  rw [request, told]
  rfl

end

end Sys2Proof.Proofs
end

section
/-! SUPPORT. The notices of a round, catch-up, and the adoption from a round byte. -/

namespace Sys2Proof.Proofs

open Sys2Proof Sys2Proof.Machine Sys2Proof.Laws

theorem supplyOf_supplyCode (target : Supply) : supplyOf (supplyCode target) = some target := by cases target <;> rfl
theorem targetOf_supplyCode (target : Supply) : targetOf (supplyCode target) = some (some target) := by cases target <;> rfl

theorem classOf_classCode (c : LineClass) : classOf (classCode c) = some c := by
  cases c with
  | live x => cases x <;> rfl
  | dead | unclear => rfl

section
variable (s : State) (n : Byte)

/-! ## What a notice meets (R124, R126, R144, R145) -/

theorem namesCurrent_iff : s.namesCurrent n = true ↔ s.cu.isOpen = true ∧ s.cu.mod64 = false ∧ n = s.cu.number := by
  simp [State.namesCurrent, and_assoc]

theorem agreesAdopted_iff : s.agreesAdopted n = true ↔
    s.cu.phase = .adopted ∧ s.cu.mod64 = true ∧ n.toNat % 64 = s.cu.number.toNat % 64 := by
  simp [State.agreesAdopted, and_assoc]

theorem meetRound_of_current (target : Option Supply) (h : s.namesCurrent n = true) : s.meetRound n target = some s := if_pos h

theorem meetRound_none (h : s.namesCurrent n = false) : s.meetRound n none = none := if_neg (by simp [h])

theorem meetRound_eq (target : Supply) (h : s.namesCurrent n = false) :
    let pts := s.learnedPoints target
    s.meetRound n (some target) =
      if s.agreesAdopted n then some (s.completeAdoption n target pts.1 pts.2.1 pts.2.2)
      else if !s.cu.isOpen && s.newer n then some (s.openRound n target pts.1 pts.2.1 pts.2.2) else none :=
  if_neg (by simp [h])

theorem meetRound_of_agrees (target : Supply) (h : s.agreesAdopted n = true) :
    s.meetRound n (some target) = some (s.completeAdoption n target (s.learnedPoints target).1 (s.learnedPoints target).2.1
      (s.learnedPoints target).2.2) := by
  obtain ⟨-, modulo, -⟩ := (agreesAdopted_iff s n).mp h
  rw [meetRound_eq s n target (by simp [State.namesCurrent, modulo]), if_pos h]

theorem meetRound_of_newer (target : Supply) (closed : s.cu.isOpen = false) (newer : s.newer n = true)
    (h : s.agreesAdopted n = false) :
    s.meetRound n (some target) = some (s.openRound n target (s.learnedPoints target).1 (s.learnedPoints target).2.1
      (s.learnedPoints target).2.2) := by
  rw [meetRound_eq s n target (by simp [State.namesCurrent, closed]), if_neg (by simp [h]), if_pos (by simp [closed, newer])]

theorem meetRound_of_old (target : Supply) (current : s.namesCurrent n = false) (h : s.agreesAdopted n = false)
    (old : s.cu.isOpen = true ∨ s.newer n = false) : s.meetRound n (some target) = none := by
  rw [meetRound_eq s n target current, if_neg (by simp [h]), if_neg (by obtain h | h := old <;> simp [h])]

/-! ## CO-READY, CO-PROBE and CO-ABORT (R132, R138 to R141) -/

section
variable (code : Byte) (target : Option Supply) (names : targetOf code = some target)
include names

theorem applyReady_of_met (origin : Nat) (t : State) (met : s.meetRound n target = some t) :
    s.applyReady origin n code = t.addReady origin := by
  unfold State.applyReady
  rw [names]
  dsimp only
  rw [met]

theorem applyReady_of_unmet (origin : Nat) (unmet : s.meetRound n target = none) : s.applyReady origin n code = s := by
  unfold State.applyReady
  rw [names]
  dsimp only
  rw [unmet]

theorem applyProbe_of_catchUp (measured : LineClass) (h : s.cu.catchUp = true) : s.applyProbe n code (classCode measured) = s := by
  unfold State.applyProbe
  rw [names, classOf_classCode]
  exact if_pos h

theorem applyProbe_of_met (measured : LineClass) (t : State) (h : s.cu.catchUp = false) (met : s.meetRound n target = some t)
    (isOpen : t.cu.isOpen = true) : s.applyProbe n code (classCode measured) =
      if some measured = t.cu.target.map LineClass.live then t.roundDone else t.closeAborted (wrongClass measured) := by
  unfold State.applyProbe
  rw [names, classOf_classCode]
  dsimp only
  rw [if_neg (by simp [h]), met]
  dsimp only
  rw [if_neg (by simp [isOpen])]

theorem applyProbe_of_unmet (measured : LineClass) (unmet : s.meetRound n target = none) :
    s.applyProbe n code (classCode measured) = s := by
  unfold State.applyProbe
  rw [names, classOf_classCode]
  dsimp only
  rw [unmet]
  exact ite_self s

variable (r : Byte) (reason : CloseReason) (carries : abortReasonOf r = some reason)
include carries

theorem applyAbort_of_catchUp (h : s.cu.catchUp = true) : s.applyAbort n code r = s := by
  unfold State.applyAbort
  rw [names, carries]
  exact if_pos h

theorem applyAbort_of_met (t : State) (h : s.cu.catchUp = false) (met : s.meetRound n target = some t)
    (isOpen : t.cu.isOpen = true) : s.applyAbort n code r = t.closeAborted reason := by
  unfold State.applyAbort
  rw [names, carries]
  dsimp only
  rw [if_neg (by simp [h]), met]
  exact if_pos isOpen

theorem applyAbort_of_unmet (unmet : s.meetRound n target = none) : s.applyAbort n code r = s := by
  unfold State.applyAbort
  rw [names, carries]
  dsimp only
  rw [unmet]
  exact ite_self s

end

theorem roundDone_of_probed (h : s.cu.phase = .ready ∨ s.cu.phase = .probe) : s.roundDone = s.closeDone := if_pos (by simpa using h)

theorem roundDone_of_other (h1 : s.cu.phase ≠ .ready) (h2 : s.cu.phase ≠ .probe) : s.roundDone = s.enterCatchUp :=
  if_neg (by simp [h1, h2])

theorem addReady_eq (origin : Nat) : s.addReady origin =
    s.mapCu fun c => { c with ready := if c.ready.contains origin then c.ready else c.ready ++ [origin] } := by
  unfold State.addReady
  refine congrArg s.mapCu (funext fun c => ?_)
  split <;> rfl

/-! ## CO-PROPOSE (R126) -/

section
variable (origin : Nat) (o i : Byte) (target : Supply) (d len : Word16)

/-- A proposal that is ignored is told to the host at its own origin (R126). -/
def proposalIgnored (why : IgnoredReason) : State :=
  if origin = s.own then s.raiseEvent (.proposalIgnored ⟨o, i⟩ why) else s

theorem applyPropose_eq :
    let k := proposedKey o i
    let pts := s.roundPoints k d len
    s.applyPropose origin n (supplyCode target) o i d len =
      if s.agreesAdopted n then s.completeAdoption n target k pts.1 pts.2
      else if s.cu.isOpen then
        if (k != .none && k = s.cu.key) || (k = .none && s.cu.key = .none && s.cu.target = some target) then s
        else proposalIgnored s origin o i .roundOpen
      else if k != .none && k = s.cu.key then s
      else if s.ru.regime.system = some target then proposalIgnored s origin o i .sameSystem
      else s.openRound n target k pts.1 pts.2 := by
  intro k pts
  unfold State.applyPropose
  dsimp only
  rw [supplyOf_supplyCode]
  rfl

end

/-! ## Catch-up (R140) -/

/-- A round done as catch-up meets it: the system set and the probes made collectors. -/
def caughtUp : State :=
  ((s.mapCu fun c => { c with
    outcome := .done, closeReason := none, catchUp := true, roundTimer := none, probeWait := none, probeRetry := none }).setSystem
      s.cu.target).probesToCollectors

theorem enterCatchUp_eq : s.enterCatchUp =
    if !s.anyFitted then (caughtUp s).closeLocal
    else if s.cu.phase = .gather then (caughtUp s).enterLower
    else if s.cu.phase = .switch && s.cu.selRequest = .failed then (caughtUp s).closeLocal
    else caughtUp s := rfl

/-! ## ADOPTED (R145) -/

theorem followPhase_adopted (phase : s.cu.phase = .adopted) (h : s.cu.catchUp = false) : s.followPhase =
    if s.allDown then (if s.cu.selRequest = .idle then s.requestSelector .opn else s) else s := by
  unfold State.followPhase
  rw [phase]
  dsimp only
  rw [if_neg (by simp [h] : ¬ s.cu.catchUp = true)]

end

end Sys2Proof.Proofs
end

section
/-! SUPPORT. The adoption of a round from a round byte (R145), and the closing of a round. -/

namespace Sys2Proof.Proofs

open Sys2Proof Sys2Proof.Machine Sys2Proof.Laws

section
variable (s : State)

/-! ## The own drives at an adoption -/

/-- No drive that a state has fitted raises or stands up. -/
def NoneRaised (s v : State) : Prop :=
  ∀ p, s.fitted p = true → (v.drive p).state ≠ .raising ∧ (v.drive p).state ≠ .up

theorem noneRaised_of_drives {v w : State} (h : NoneRaised s v) (same : ∀ p, w.drive p = v.drive p) : NoneRaised s w := fun p fitted => by
  rw [same]
  exact h p fitted

theorem noneRaised_orderDown {v : State} (p : Pan) (c : DownCause) (h : NoneRaised s v) : NoneRaised s (v.orderDown p c) := by
  intro q fitted
  by_cases same : q = p
  · subst same
    obtain ⟨raising, up, -⟩ := roundLowered_orderDown v q c
    exact ⟨raising, up⟩
  · rw [drive_orderDown_ne v c same]
    exact h q fitted

theorem drive_requestIso (p : Pan) (x : IsoPos) (b : Bool) (q : Pan) : (s.requestIso p x b).drive q = s.drive q := by
  unfold State.requestIso State.serveIso
  dsimp only
  repeat' split
  all_goals rfl

theorem noneRaised_endScraper {v : State} (h : NoneRaised s v) : NoneRaised s v.endScraper := by
  unfold State.endScraper
  split
  · exact noneRaised_orderDown s _ _ h
  · exact noneRaised_orderDown s _ _ h
  · exact noneRaised_orderDown s _ _ h
  · exact h

theorem noneRaised_scraperMeetsRound {v : State} (h : NoneRaised s v) : NoneRaised s v.scraperMeetsRound := by
  unfold State.scraperMeetsRound
  split
  · exact noneRaised_of_drives s h (drive_requestIso _ _ _ _)
  · exact noneRaised_endScraper s h

theorem drive_followUsable (p : Pan) : s.followUsable.drive p = s.drive p := by
  unfold State.followUsable
  split <;> rfl

theorem sectionsAtOpening_beside (k : Option SectionKey) : (s.sectionsAtOpening k).cu = s.cu ∧ (s.sectionsAtOpening k).sg = s.sg ∧
    ∀ p, (s.sectionsAtOpening k).drive p = s.drive p := by
  obtain ⟨rlp, sq, iu, tells⟩ := sectionsAtOpening_keeps s k
  rw [tells]
  exact ⟨rfl, rfl, fun p => rfl⟩

/-! ## Adoption (R145) -/

/-- The record of an adopted round. -/
def adoptedRecord (c : Cu) (n64 : Nat) (due : Timer) : Cu :=
  { c with
    number := BitVec.ofNat 8 n64, mod64 := true, isOpen := true, key := .unknown, target := none, start := none
    finish := none, ready := [], catchUp := false, breakerLate := false, roundTimer := due
    selRequest := .idle, selAnswer := none, isoFailed := ⟨false, false⟩, probeReported := false, phase := .adopted }

/-- An adoption as the phase ADOPTED is entered, with ROUND held. -/
def adopting (n64 : Nat) : State :=
  ((s.mapCu fun c => adoptedRecord c n64 (some (s.now + s.roundTimeout))).raiseEvent
    (.roundPhase (BitVec.ofNat 8 n64) .adopted)).addReason .round

theorem adopt_eq (n64 : Nat) : s.adopt n64 =
    (((lowerAll (adopting s n64).dropRaises).sectionsAtOpening none).scraperMeetsRound.followUsable).raiseEvent
      (.roundOpened (BitVec.ofNat 8 n64) none .unknown true) := rfl

theorem adopting_spec (n64 : Nat) : (adopting s n64).cu = adoptedRecord s.cu n64 (some (s.now + s.roundTimeout)) ∧
    (adopting s n64).sc = s.sc ∧ (adopting s n64).sg.reasons.round = true := by
  obtain ⟨cu, -, sc, -⟩ := addReason_beside ((s.mapCu fun c => adoptedRecord c n64 (some (s.now + s.roundTimeout))).raiseEvent
    (.roundPhase (BitVec.ofNat 8 n64) .adopted)) .round
  exact ⟨cu, sc, addReason_holds _ .round⟩

theorem adopt_spec (n64 : Nat) : (s.adopt n64).cu = adoptedRecord s.cu n64 (some (s.now + s.roundTimeout)) ∧
    (s.adopt n64).sg.reasons.round = true ∧ NoneRaised s (s.adopt n64) := by
  obtain ⟨cu, sc, round⟩ := adopting_spec s n64
  have drops : aside (lowerAll (adopting s n64).dropRaises) = aside (adopting s n64) :=
    (aside_lowerAll _).trans (aside_dropRaises (adopting s n64))
  obtain ⟨sectionCu, sectionSg, sectionDrives⟩ := sectionsAtOpening_beside (lowerAll (adopting s n64).dropRaises) none
  obtain ⟨cu', -, -, reasons'⟩ := scraperMeetsRound_leaves ((lowerAll (adopting s n64).dropRaises).sectionsAtOpening none)
  have follows := aside_followUsable ((lowerAll (adopting s n64).dropRaises).sectionsAtOpening none).scraperMeetsRound
  have lowered : NoneRaised s (lowerAll (adopting s n64).dropRaises) := fun p fitted => by
    have fits : (adopting s n64).dropRaises.fitted p = true := by
      rw [aside_fitted (aside_dropRaises _), fitted_of_config (s := s) (by rw [sc]), fitted]
    obtain ⟨raising, up, -⟩ := lowerAll_lowered (adopting s n64).dropRaises fits
    exact ⟨raising, up⟩
  have told : NoneRaised s ((lowerAll (adopting s n64).dropRaises).sectionsAtOpening none) :=
    noneRaised_of_drives s lowered sectionDrives
  have ends (v : State) (e : Event) : (v.raiseEvent e).cu = v.cu ∧ (v.raiseEvent e).sg = v.sg := ⟨rfl, rfl⟩
  obtain ⟨endCu, endSg⟩ := ends (((lowerAll (adopting s n64).dropRaises).sectionsAtOpening none).scraperMeetsRound.followUsable)
    (.roundOpened (BitVec.ofNat 8 n64) none .unknown true)
  rw [adopt_eq]
  refine ⟨endCu.trans <| (aside_cu follows).trans (cu'.trans (sectionCu.trans ((aside_cu drops).trans cu))), ?_, ?_⟩
  · rw [endSg, aside_sg follows, reasons', sectionSg, aside_sg drops, round]
  · refine noneRaised_of_drives s (noneRaised_scraperMeetsRound s told) fun p => ?_
    rw [drive_raiseEvent, drive_followUsable]

theorem takeRoundByte_adopts (origin : Nat) (round : Byte) (system : Option Supply) (other : origin ≠ s.own)
    (live : (s.peer origin).status = .live) (shown : round.getLsbD 1 = true) (closed : s.cu.isOpen = false)
    (new : s.cu.outcome = .none ∨ round.toNat / 4 ≠ s.cu.number.toNat % 64) :
    s.takeRoundByte origin true round system = s.adopt (round.toNat / 4) := by
  have never : (s.neverHeld || round.toNat / 4 != s.cu.number.toNat % 64) = true := by
    simpa [State.neverHeld, closed] using new
  unfold State.takeRoundByte
  dsimp only
  rw [if_neg (by simp [other, live]), if_pos (by simp [shown, closed, never]), if_neg (by simp), if_neg (by simp [closed])]

end

/-- The record of an open round (R126). -/
theorem openRound_record (s : State) (n : Byte) (target : Supply) (k : RoundKey) (a b : Option Word32) :
    (s.openRound n target k a b).cu.isOpen = true ∧ (s.openRound n target k a b).cu.number = n ∧
      (s.openRound n target k a b).cu.target = some target ∧ (s.openRound n target k a b).cu.key = k ∧
      (s.openRound n target k a b).cu.start = a ∧ (s.openRound n target k a b).cu.finish = b ∧
      (s.openRound n target k a b).cu.ready = [] ∧ (s.openRound n target k a b).cu.catchUp = false ∧
      (s.openRound n target k a b).cu.roundTimer = some (s.now + s.roundTimeout) ∧
      (s.openRound n target k a b).sg.reasons.round = true ∧ (s.openRound n target k a b).ru.regime = s.ru.regime := by
  obtain ⟨regime, round, core⟩ := openRound_spec s n target k a b
  obtain ⟨isOpen, number, -, target', key, start, finish, ready, catchUp, timer⟩ := roundCore_eq core
  rw [isOpen, number, target', key, start, finish, ready, catchUp, timer, round, regime]
  exact ⟨rfl, rfl, rfl, rfl, rfl, rfl, rfl, rfl, rfl, rfl, rfl⟩

/-! ## The statement -/

/-- The notices that meet a round act on it, by its number alone where they carry no target. -/
theorem closeNotices_of_met (s t : State) (origin : Nat) (seq n : Byte) (target : Supply) (measured : LineClass) (reason : CloseReason)
    (r : Byte) (carries : abortReasonOf r = some reason) (met : s.meetRound n (some target) = some t) (isOpen : t.cu.isOpen = true) :
    s.applyNotice origin seq (.coReady n (supplyCode target)) =
      (t.mapCu fun c => { c with ready := if c.ready.contains origin then c.ready else c.ready ++ [origin] }) ∧
    (s.cu.catchUp = true → s.applyNotice origin seq (.coProbe n (supplyCode target) (classCode measured)) = s ∧
      s.applyNotice origin seq (.coAbort n (supplyCode target) r) = s) ∧
    (s.cu.catchUp = false → s.applyNotice origin seq (.coAbort n (supplyCode target) r) = t.closeAborted reason ∧
      (t.cu.target ≠ none → some measured = t.cu.target.map LineClass.live →
        (t.cu.phase = .ready ∨ t.cu.phase = .probe →
          s.applyNotice origin seq (.coProbe n (supplyCode target) (classCode measured)) = t.closeDone) ∧
        (t.cu.phase ≠ .ready → t.cu.phase ≠ .probe →
          s.applyNotice origin seq (.coProbe n (supplyCode target) (classCode measured)) = t.enterCatchUp)) ∧
      (some measured ≠ t.cu.target.map LineClass.live →
        s.applyNotice origin seq (.coProbe n (supplyCode target) (classCode measured)) = t.closeAborted (wrongClass measured))) := by
  have names := targetOf_supplyCode target
  refine ⟨(applyReady_of_met s n _ _ names origin t met).trans (addReady_eq t origin), fun catchUp => ⟨?_, ?_⟩, fun free =>
    ⟨applyAbort_of_met s n _ _ names r reason carries t free met isOpen, fun _ same => ⟨fun probed => ?_, fun h1 h2 => ?_⟩,
      fun other => ?_⟩⟩
  · exact applyProbe_of_catchUp s n _ _ names measured catchUp
  · exact applyAbort_of_catchUp s n _ _ names r reason carries catchUp
  · refine (applyProbe_of_met s n _ _ names measured t free met isOpen).trans ?_
    rw [if_pos same, roundDone_of_probed t probed]
  · refine (applyProbe_of_met s n _ _ names measured t free met isOpen).trans ?_
    rw [if_pos same, roundDone_of_other t h1 h2]
  · refine (applyProbe_of_met s n _ _ names measured t free met isOpen).trans ?_
    rw [if_neg other]

/-- The points of a round that a CO-PROPOSE names (R126). -/
theorem roundPoints_eq (s : State) (o i : Byte) (d len : Word16) :
    s.roundPoints (proposedKey o i) d len =
      if o = 0 then (none, none)
      else ((s.sq.entries.find? fun e => e.key = ⟨o, i⟩).elim
        (some (s.mu.odo.metres + d.setWidth 32), some (s.mu.odo.metres + d.setWidth 32 + len.setWidth 32))
        fun e => (some e.start, some e.finish)) := by
  unfold proposedKey State.roundPoints
  by_cases h : o = 0
  · rw [if_pos h, if_pos h]
  · rw [if_neg h, if_neg h]
    dsimp only
    cases s.sq.entries.find? fun e => e.key = ⟨o, i⟩ <;> rfl

/-- Settles O45. -/
theorem closingARoundSetsTheSystem : Obligations.ClosingARoundSetsTheSystem := by
  refine ⟨fun s reason => ?_, fun s origin seq n o i target d len => ?_, fun s n target k a b => ?_,
    fun s origin seq n target measured reason r carries => ?_, fun s phase free => ?_, fun s => ?_,
    fun s origin round system => ?_⟩
  · obtain ⟨done, doneRegime, doneRound⟩ := closeDone_spec s
    obtain ⟨aborted, abortedRegime, abortedRound, -⟩ := closeAborted_spec s reason
    constructor
    · intro u
      refine ⟨?_, ?_, ?_, ?_, ?_, ?_, ?_, ?_, doneRound⟩
      all_goals simp only [u, doneRegime, done, closedRecord]
    · intro u
      refine ⟨?_, ?_, ?_, ?_, ?_, ?_, ?_, ?_, abortedRound⟩
      all_goals simp only [u, abortedRegime, aborted, closedRecord]
  · intro k u start points ignored agrees absorbs
    have points_eq : points = s.roundPoints k d len := by
      rw [show k = proposedKey o i from rfl, roundPoints_eq]
      simp only [points, start]
      cases s.sq.entries.find? fun e => e.key = ⟨o, i⟩ <;> rfl
    have agrees_iff : s.agreesAdopted n = true ↔ agrees := agreesAdopted_iff s n
    have absorbs_iff : ((k != .none && k = s.cu.key) || (k = .none && s.cu.key = .none && s.cu.target = some target)) = true ↔
        absorbs := by
      simp [absorbs, and_assoc]
    have applies : u = if s.agreesAdopted n then s.completeAdoption n target k (s.roundPoints k d len).1 (s.roundPoints k d len).2
      else if s.cu.isOpen then
        if (k != .none && k = s.cu.key) || (k = .none && s.cu.key = .none && s.cu.target = some target) then s
        else ignored .roundOpen
      else if k != .none && k = s.cu.key then s
      else if s.ru.regime.system = some target then ignored .sameSystem
      else s.openRound n target k (s.roundPoints k d len).1 (s.roundPoints k d len).2 :=
      applyPropose_eq s n origin o i target d len
    rw [applies, points_eq]
    refine ⟨fun h => if_pos (agrees_iff.mpr h), fun h isOpen absorbed => ?_, fun h isOpen strange => ?_, fun h closed keyed same => ?_,
      fun h closed new same => ?_, fun h closed new other => ?_⟩
    all_goals rw [if_neg (mt agrees_iff.mp h)]
    · rw [if_pos isOpen, if_pos (absorbs_iff.mpr absorbed)]
    · rw [if_pos isOpen, if_neg (mt absorbs_iff.mp strange)]
    · rw [if_neg (by simp [closed]), if_pos (by rw [Bool.and_eq_true]; exact ⟨bne_iff_ne.mpr keyed, decide_eq_true same⟩)]
    · rw [if_neg (by simp [closed]), if_neg (by simpa using new.elim (fun h h' => absurd h h') fun h _ => h), if_pos same]
    · rw [if_neg (by simp [closed]), if_neg (by simpa using new.elim (fun h h' => absurd h h') fun h _ => h), if_neg other]
  · intro u asked
    simp only [u]
    obtain ⟨isOpen, number, target', key, start, finish, ready, catchUp, timer, round, regime⟩ := openRound_record s n target k a b
    refine ⟨openRound_eq s n target k a b, isOpen, number, target', key, start, finish, ready, catchUp, timer, round, regime,
      fun fitted => ?_, fun none' => ?_⟩
    · exact completeAdoption_of_fitted s n target k a b fitted
    · refine ⟨fun ⟨busy, aimed⟩ => completeAdoption_selector s n target k a b none' busy aimed, fun closed => ?_⟩
      refine (completeAdoption_of_unfitted s n target k a b none').trans ?_
      rw [if_neg (by simpa using closed)]
      rfl
  · intro ready probe abort agrees current learned meets
    have meets_of (t : State) (met : s.meetRound n (some target) = some t) (isOpen : t.cu.isOpen = true) : meets t := by
      obtain ⟨readies, late, early⟩ := closeNotices_of_met s t origin seq n target measured reason r carries met isOpen
      refine ⟨readies, late, fun free => ?_⟩
      obtain ⟨aborts, same, other⟩ := early free
      refine ⟨aborts, same, fun ne => (other ne).trans ?_⟩
      cases measured <;> rfl
    have current_iff : s.namesCurrent n = true ↔ current := namesCurrent_iff s n
    have agrees_iff : s.agreesAdopted n = true ↔ agrees := agreesAdopted_iff s n
    have names := targetOf_supplyCode target
    have none' : targetOf 0 = some none := rfl
    refine ⟨fun h => meets_of s (meetRound_of_current s n _ (current_iff.mpr h)) h.1, fun h isOpen => ?_, fun closed newer h => ?_,
      fun h h' old => ?_, fun h => ?_, fun h => ?_⟩
    · exact meets_of _ (meetRound_of_agrees s n target (agrees_iff.mpr h)) (by rw [completeAdoption_isOpen, isOpen])
    · have strange : s.agreesAdopted n = false := eq_false_of_ne_true (mt agrees_iff.mp h)
      exact meets_of _ (meetRound_of_newer s n target closed newer strange) (openRound_isOpen s n target _ _ _)
    · have unmet := meetRound_of_old s n target (eq_false_of_ne_true (mt current_iff.mp h))
        (eq_false_of_ne_true (mt agrees_iff.mp h')) old
      exact ⟨applyReady_of_unmet s n _ _ names origin unmet, applyProbe_of_unmet s n _ _ names measured unmet,
        applyAbort_of_unmet s n _ _ names r reason carries unmet⟩
    · have met (x : Option Supply) := meetRound_of_current s n x (current_iff.mpr h)
      obtain ⟨isOpen, -⟩ := h
      refine ⟨(applyReady_of_met s n _ _ none' origin s (met none)).trans
        (applyReady_of_met s n _ _ names origin s (met (some target))).symm, ?_, ?_⟩
      · cases free : s.cu.catchUp with
        | true =>
          exact (applyProbe_of_catchUp s n _ _ none' measured free).trans (applyProbe_of_catchUp s n _ _ names measured free).symm
        | false =>
          exact (applyProbe_of_met s n _ _ none' measured s free (met none) isOpen).trans
            (applyProbe_of_met s n _ _ names measured s free (met (some target)) isOpen).symm
      · cases free : s.cu.catchUp with
        | true =>
          exact (applyAbort_of_catchUp s n _ _ none' r reason carries free).trans
            (applyAbort_of_catchUp s n _ _ names r reason carries free).symm
        | false =>
          exact (applyAbort_of_met s n _ _ none' r reason carries s free (met none) isOpen).trans
            (applyAbort_of_met s n _ _ names r reason carries s free (met (some target)) isOpen).symm
    · have unmet := meetRound_none s n (eq_false_of_ne_true (mt current_iff.mp h))
      exact ⟨applyReady_of_unmet s n _ _ none' origin unmet, applyProbe_of_unmet s n _ _ none' measured unmet,
        applyAbort_of_unmet s n _ _ none' r reason carries unmet⟩
  · have follows := followPhase_adopted s phase free
    refine ⟨fun down idle => ?_, fun h => ?_, allDown_of_none_fitted s⟩
    · rw [follows, if_pos down, if_pos idle]
    · rw [follows]
      split
      next down => exact if_neg (h.resolve_left (by simp [down]))
      next => rfl
  · intro t
    have same : caughtUp s = t := rfl
    rw [enterCatchUp_eq, same]
    refine ⟨fun none' => if_pos (by simp [none']), fun fitted gather => ?_, fun fitted other => ?_⟩
    · rw [if_neg (by simp [fitted]), if_pos gather]
    · rw [if_neg (by simp [fitted]), if_neg (by obtain h | h | ⟨h, -⟩ := other <;> simp [h]),
        if_neg (by obtain h | h | ⟨h, h'⟩ := other <;> simp_all)]
  · intro n64 other live shown closed new u
    obtain ⟨cu, reason, none'⟩ := adopt_spec s n64
    have adopts : u = s.adopt n64 := takeRoundByte_adopts s origin round system other live shown closed new
    rw [adopts, cu]
    exact ⟨rfl, rfl, rfl, rfl, rfl, rfl, rfl, rfl, rfl, rfl, reason, none'⟩

end Sys2Proof.Proofs
end

section
/-! SUPPORT. JOIN (R17, R183) and LEAVE (R166, R184). -/

namespace Sys2Proof.Proofs

open Sys2Proof Sys2Proof.Machine Sys2Proof.Laws

section
variable (s : State)

/-! ## JOIN -/

theorem mayJoin_iff : s.mayJoin = true ↔ 1 ≤ s.sc.strap.toNat ∧ s.sc.strap.toNat ≤ 24 ∧ s.rlp.port = .offline ∧
    s.sc.supplyLow = false ∧ ∀ p, s.fitted p = true →
      ((s.drive p).state = .down ∨ (s.drive p).state = .blocked) ∧ s.panPosition p ≤ s.trainLength := by
  have within : ([Pan.p0, Pan.p1].all fun p => !s.fitted p || s.panPosition p ≤ s.trainLength) = true ↔
      ∀ p, s.fitted p = true → s.panPosition p ≤ s.trainLength := by
    rw [List.all_eq_true]
    refine ⟨fun h p fitted => ?_, fun h p _ => ?_⟩
    · have := h p (by cases p <;> simp)
      simpa [fitted] using this
    · cases fitted : s.fitted p
      · rfl
      · simpa using h p fitted
  simp only [State.mayJoin, isStation, State.own, Bool.and_eq_true, decide_eq_true_eq, Bool.not_eq_true', allDown_iff, within, and_assoc]
  constructor
  · rintro ⟨low, high, port, sound, down, inside⟩
    exact ⟨of_decide_eq_true low, of_decide_eq_true high, port, sound, fun p fitted => ⟨down p fitted, inside p fitted⟩⟩
  · rintro ⟨low, high, port, sound, each⟩
    exact ⟨decide_eq_true low, decide_eq_true high, port, sound, fun p fitted => (each p fitted).1, fun p fitted => (each p fitted).2⟩

theorem refreshIce_beside : s.refreshIce.rlp = s.rlp ∧ s.refreshIce.sg = s.sg := by
  unfold State.refreshIce
  split <;> exact ⟨rfl, rfl⟩

/-- JOIN taken: JOIN stands in the slot, HOST is removed, the block is locked and the regime unsettled. -/
theorem join_spec : s.join.rlp.slot = some .join ∧ s.join.sg.reasons.host = false ∧
    s.join.base = { s.base with locked := true, settled := false, port := .joining } := by
  have joined (a : State) :
      ((a.mapRu fun r => { r with regime := { r.regime with settled := false } }).mapRlp fun r =>
        { r with slot := some .join, port := .joining }).base = { a.base with settled := false, port := .joining } := rfl
  obtain ⟨rlp, sg⟩ := refreshIce_beside ((((s.mapSc fun x => { x with locked := true }).removeReason .host).mapRu fun r =>
    { r with regime := { r.regime with settled := false } }).mapRlp fun r => { r with slot := some .join, port := .joining })
  refine ⟨by rw [State.join, rlp]; rfl, ?_, ?_⟩
  · rw [State.join, sg]
    exact removeReason_holds (s.mapSc fun x => { x with locked := true }) .host
  · rw [State.join, base_refreshIce, joined, base_removeReason]
    rfl

/-! ## LEAVE -/

theorem mayLeave_iff : s.mayLeave = true ↔
    (s.rlp.port = .joining ∨ s.rlp.port = .online) ∧ s.sc.supplyLow = false ∧ s.sc.leaving = none := by
  rw [State.mayLeave, Bool.and_eq_true, Bool.and_eq_true, transmits_iff, Bool.not_eq_true', decide_eq_true_eq, and_assoc]

/-- LEAVE taken, before a grant is given back. -/
def leaving : State := ((s.mapSc fun x => { x with leaving := some .waiting }).addReason .host).orderAllDown .leave

theorem leave_eq : s.leave = if 1 ≤ (leaving s).ownGrant then (leaving s).giveHeat 0 else leaving s := rfl

theorem base_leaving : (leaving s).base = s.base := by
  rw [leaving, base_orderAllDown, base_addReason, base_mapSc _ (fun x => { x with leaving := some .waiting }) fun _ => ⟨rfl, rfl, rfl, rfl, rfl⟩]

theorem aside_leaving : aside (leaving s) = aside ((s.mapSc fun x => { x with leaving := some .waiting }).addReason .host) :=
  aside_orderAllDown _ _

theorem port_of_base {s t : State} (h : t.base = s.base) : t.rlp.port = s.rlp.port := by
  simpa only [State.base] using congrArg Base.port h

theorem ownGrant_of_base {s t : State} (h : t.base = s.base) : t.ownGrant = s.ownGrant := by
  have grants : t.iu.grants = s.iu.grants := by simpa only [State.base] using congrArg Base.grants h
  have strap : t.sc.strap = s.sc.strap := by simpa only [State.base] using congrArg Base.strap h
  simp only [State.ownGrant, State.grantOf, State.own, grants, strap]
  rfl

theorem aside_giveHeat (n : Nat) : aside (s.giveHeat n) = aside s := aside_sendOr _ _ _ fun _ => rfl

theorem drive_giveHeat (n : Nat) (p : Pan) : (s.giveHeat n).drive p = s.drive p := by
  obtain h | h := sendOr_cases s (.heatGive (BitVec.ofNat 8 n)) fun t => t.mapIu fun i => { i with giveLost := some n }
  · rw [State.giveHeat, h, drive_queueInternal]
  · rw [State.giveHeat, h, drive_mapIu, drive_queueInternal]

theorem base_leave : s.leave.base = s.base := by
  rw [leave_eq]
  split
  · rw [base_giveHeat, base_leaving]
  · exact base_leaving s

/-- LEAVE taken leaves the drives, the reasons and the pending LEAVE as the orders have them. -/
theorem leave_beside : aside s.leave = aside (leaving s) ∧ ∀ p, s.leave.drive p = (leaving s).drive p := by
  rw [leave_eq]
  split
  · exact ⟨aside_giveHeat _ _, drive_giveHeat _ _⟩
  · exact ⟨rfl, fun p => rfl⟩

theorem leave_spec : s.leave.sc.leaving = some .waiting ∧ s.leave.sg.reasons.host = true := by
  obtain ⟨kept, -⟩ := leave_beside s
  have orders := kept.trans (aside_leaving s)
  obtain ⟨-, -, sc, -⟩ := addReason_beside (s.mapSc fun x => { x with leaving := some .waiting }) .host
  refine ⟨?_, ?_⟩
  · rw [aside_sc orders, sc]
    rfl
  · rw [aside_sg orders]
    exact addReason_holds (s.mapSc fun x => { x with leaving := some .waiting }) .host

/-- What a LEAVE makes of a fitted drive (R60, R68, R184). -/
def LeaveOrdered (due : Moment) (d x : Drive) : Prop :=
  x.raiseRequest = false ∧
    (d.state = .raising ∨ d.state = .up → x.state ≠ .raising ∧ x.state ≠ .up ∧ x.target = .vent ∧ x.valve ≠ .fill ∧
      (d.housed = false → x.state = .lowering ∧ x.lowerTimer = some due)) ∧
    (d.state ≠ .raising → d.state ≠ .up → x.state = d.state) ∧
    (d.state = .down → d.claimStage = .standing → x.claimStage = .cancelled) ∧
    (d.state = .down → d.claimStage = .queued → x.claimStage = .idle ∨ x.cancelPending = true)

theorem leaveOrdered_orderDown (p : Pan) : LeaveOrdered (s.now + s.lowerLimit) (s.drive p) ((s.orderDown p .leave).drive p) := by
  obtain ⟨raising, up, -, rests⟩ := roundLowered_orderDown s p .leave
  have claims (down : (s.drive p).state = .down) := orderDown_of_down s p .leave down (by decide)
  refine ⟨?_, fun raised => ?_, rests, fun down stage => (claims down).standing stage, fun down stage => (claims down).queued stage⟩
  · rw [orderDown_raiseRequest]
    simp [requestAfter, DownCause.clears]
  · have lowered := orderDown_of_raised s p .leave raised
    exact ⟨raising, up, lowered.target, lowered.valve, lowered.unhoused⟩

theorem leaving_ordered {p : Pan} (fitted : s.fitted p = true) :
    LeaveOrdered (s.now + s.lowerLimit) (s.drive p) ((leaving s).drive p) := by
  have before : ((s.mapSc fun x => { x with leaving := some .waiting }).addReason .host).sc =
      { s.sc with leaving := some .waiting } := by
    obtain ⟨-, -, sc, -⟩ := addReason_beside (s.mapSc fun x => { x with leaving := some .waiting }) .host
    exact sc
  have now : ((s.mapSc fun x => { x with leaving := some .waiting }).addReason .host).now = s.now := by
    unfold State.addReason
    split <;> rfl
  have ordered := (eachFitted_drive (I := fun t => t.now = s.now ∧ t.lowerLimit = s.lowerLimit)
    (R := LeaveOrdered (s.now + s.lowerLimit)) (fun p t => t.orderDown p .leave)
    (fun p t ⟨now, limit⟩ => by
      have kept := aside_orderDown t p .leave
      have same : (t.orderDown p .leave).lowerLimit = t.lowerLimit := by simp only [State.lowerLimit, aside_sc kept]
      exact ⟨(aside_now kept).trans now, same.trans limit⟩)
    (fun p t q => aside_fitted (aside_orderDown t p .leave) q)
    (fun p t ⟨now, limit⟩ => by
      have := leaveOrdered_orderDown t p
      rwa [now, limit] at this)
    (fun p q t h => drive_orderDown_ne t .leave h)
    ((s.mapSc fun x => { x with leaving := some .waiting }).addReason .host) ⟨now, by simp only [State.lowerLimit, before]⟩).2 p
      ((fitted_of_config (s := s) (by rw [before]) p).trans fitted)
  rw [drive_addReason, drive_mapSc] at ordered
  exact ordered

end

theorem exec_leave (t : Moment) (r : Request) (s : State) (check : r.check = requestCheck 0x04 r.args) (none' : r.args = []) :
    exec (.leave t r) s = .next (if (s.advance t).mayLeave then (s.advance t).leave.taken 0x04 .empty
      else (s.advance t).fails 0x04 .refused) :=
  next_hosted_noArgs s t 0x04 r
    (fun _ u => if u.mayLeave then u.leave.taken 0x04 .empty else u.fails 0x04 .refused) check none'

theorem exec_join (t : Moment) (r : Request) (s : State) (check : r.check = requestCheck 0x03 r.args) (none' : r.args = []) :
    exec (.join t r) s = .next (if (s.advance t).mayJoin then (s.advance t).join.taken 0x03 .empty
      else (s.advance t).fails 0x03 .refused) :=
  next_hosted_noArgs s t 0x03 r
    (fun _ u => if u.mayJoin then u.join.taken 0x03 .empty else u.fails 0x03 .refused) check none'

/-- Settles O58. -/
theorem joinAndLeaveMoveThePort : Obligations.JoinAndLeaveMoveThePort := by
  refine ⟨fun t r s check none' => ?_, fun t r s check none' => ?_⟩
  · intro ready
    have ready_iff : (s.advance t).mayJoin = true ↔ ready := mayJoin_iff s
    refine ⟨fun h => ?_, fun h => ?_⟩
    · obtain ⟨slot, host, base⟩ := join_spec (s.advance t)
      refine ⟨(s.advance t).join.respond 0x03 .ok .empty, ?_, slot, host, ?_⟩
      · rw [exec_join t r s check none', if_pos (ready_iff.mpr h)]
        rfl
      · rw [base_respond, base]
        rfl
    · rw [exec_join t r s check none', if_neg (mt ready_iff.mp h)]
      rfl
  · intro may
    have may_iff : (s.advance t).mayLeave = true ↔ may := mayLeave_iff s
    have runs (h : may) : exec (.leave t r) s = .next ((s.advance t).leave.respond 0x04 .ok .empty).settle := by
      rw [exec_leave t r s check none', if_pos (may_iff.mpr h)]
      rfl
    refine ⟨fun h => ?_, fun h => ?_, fun h => ?_⟩
    · obtain ⟨pending, host⟩ := leave_spec (s.advance t)
      refine ⟨_, runs h, ?_, host, fun p fitted => ?_, ?_⟩
      · exact fun still => absurd (pending.symm.trans still) (by decide)
      · rw [drive_respond, (leave_beside (s.advance t)).2]
        exact (leaving_ordered (s.advance t) fitted).1
      · rw [base_respond, base_leave]
        rfl
    · intro b v
      have grant : b.ownGrant = s.ownGrant := (ownGrant_of_base (base_leaving (s.advance t))).trans rfl
      have leaves : v = (s.advance t).leave := by
        rw [leave_eq, show (leaving (s.advance t)).ownGrant = s.ownGrant from grant]
        rfl
      refine ⟨by rw [runs h, ← leaves]; rfl, fun granted free room => ?_, fun p fitted => ?_⟩
      · have port : b.rlp.port = s.rlp.port := (port_of_base (base_leaving (s.advance t))).trans rfl
        have transmits : b.transmits = true := by
          rw [transmits_iff, port]
          exact h.1
        have gives : v = b.enqueue (.heatGive 0) false :=
          (if_pos granted).trans (sendOr_of_admits b _ _ ⟨transmits, free, room⟩)
        rw [gives]
        rfl
      · intro d
        have same : v.drive p = b.drive p := by
          rw [leaves]
          exact (leave_beside (s.advance t)).2 p
        obtain ⟨-, ordered⟩ := leaving_ordered (s.advance t) fitted
        rw [same]
        exact ordered
    · rw [exec_leave t r s check none', if_neg (mt may_iff.mp h)]
      rfl

end Sys2Proof.Proofs
end

section
/-! SUPPORT. The supply monitor (R185, R186): what a fall does to the port (R18), the drives (R53, R54), the heaters (R168) and
the switchgear (R99, R102). -/

namespace Sys2Proof.Proofs

open Sys2Proof Sys2Proof.Machine Sys2Proof.Laws

/-! ## A drop without a notice -/

/-- No notice of the station's units is queued: the port does not transmit, or the vented LEAVE is queued (R12, R18). -/
def Shut (s : State) : Prop := s.transmits = false ∨ s.ventedHeld = true

theorem shut_of_rlp {s t : State} (h : t.rlp = s.rlp) (shut : Shut s) : Shut t := by
  unfold Shut State.transmits State.ventedHeld at *
  rwa [h]

theorem sendDrive_of_shut (s : State) (p : Pan) (n : Notice) (o : Outstanding) (shut : Shut s) : s.sendDrive p n o = s := by
  have away : s.queueInternal n = (s, .turnedAway) := if_pos (by obtain h | h := shut <;> simp [h])
  unfold State.sendDrive State.sendOr
  rw [away]

section
variable (s : State) (p : Pan)

theorem rlp_takeHousing_of_shut (shut : Shut s) : (s.takeHousing p).rlp = s.rlp := by
  have housed (f : Drive → Drive) (st : DriveState) (c : Option BlockCause) : ((s.mapPd p f).driveTo p st c).rlp = s.rlp :=
    rlp_driveTo _ p st c
  have sends (f : Drive → Drive) (st : DriveState) (c : Option BlockCause) (n : Notice) (o : Outstanding) :
      (((s.mapPd p f).driveTo p st c).sendDrive p n o).rlp = s.rlp := by
    rw [sendDrive_of_shut _ p n o (shut_of_rlp (housed f st c) shut), housed]
  unfold State.takeHousing State.sendYield State.sendBlocked
  dsimp only
  repeat' split
  all_goals simp only [sends]

theorem rlp_housedAlready_of_shut (shut : Shut s) : (s.housedAlready p).rlp = s.rlp := by
  unfold State.housedAlready
  split
  · exact rlp_takeHousing_of_shut s p shut
  · rfl

theorem rlp_dropDrive_of_shut (cause : BlockCause) (shut : Shut s) (claim : (s.drive p).claimStage ≠ .queued) :
    (s.dropDrive p cause).rlp = s.rlp := by
  have drops (st : DriveState) : (dropsTo s p st cause).rlp = s.rlp := rlp_dropsTo s p st cause claim
  cases state : (s.drive p).state with
  | down =>
    rw [dropDrive_of_down s p cause state, State.sendBlocked, sendDrive_of_shut _ p _ _ (shut_of_rlp (drops .blocked) shut), drops]
  | raising | up | lowering =>
    have timed : ((dropsTo s p .dropped cause).mapPd p fun d => { d with lowerTimer := s.timerFor s.lowerLimit }).rlp = s.rlp :=
      drops .dropped
    rw [dropDrive_of_raised s p cause (by simp [state]), sendDrive_of_shut _ p _ _ (shut_of_rlp timed shut),
      rlp_housedAlready_of_shut _ p (shut_of_rlp timed shut), timed]
  | dropped | blocked => exact (rlp_dropDrive_of_rest s p cause (by simp [state])).2.2

theorem drive_dropDrive_ne (cause : BlockCause) {q : Pan} (h : q ≠ p) : (s.dropDrive p cause).drive q = s.drive q := by
  have claim (t : State) : (t.endClaimByBlock p).drive q = t.drive q := by
    unfold State.endClaimByBlock
    split
    · exact drive_withdrawClaim_ne t h
    · rfl
  have cleared : ((s.mapPd p fun d => { d with enable := false }).aim p .vent).drive q = s.drive q := by
    rw [drive_aim_ne _ _ h, drive_mapPd_ne _ _ h]
  have drops (st : DriveState) : (dropsTo s p st cause).drive q = s.drive q := by
    rw [dropsTo, drive_mapPd_ne _ _ h, drive_driveTo_ne _ _ _ h, claim, cleared]
  cases state : (s.drive p).state with
  | down => rw [dropDrive_of_down s p cause state, State.sendBlocked, drive_sendDrive_ne _ _ _ h, drops]
  | raising | up | lowering =>
    rw [dropDrive_of_raised s p cause (by simp [state]), drive_housedAlready_ne _ h, drive_sendDrive_ne _ _ _ h,
      drive_mapPd_ne _ _ h, drops]
  | dropped | blocked => rw [dropDrive_of_rest s p cause (by simp [state]), cleared]

/-- What a supply fall makes of a drive (R53, R54). -/
def SupplyDropped (d x : Drive) : Prop :=
  x.enable = false ∧ Vented x ∧ (d.state = .down → x.state = .blocked ∧ x.blockCause = some .supply) ∧
    (d.state = .raising ∨ d.state = .up ∨ d.state = .lowering → d.housed = false →
      x.state = .dropped ∧ x.blockCause = some .supply) ∧
    (d.state = .dropped ∨ d.state = .blocked → x.state = d.state)

theorem supplyDropped_dropDrive : SupplyDropped (s.drive p) ((s.dropDrive p .supply).drive p) := by
  refine ⟨dropDrive_enable s p .supply, dropDrive_vented s p .supply, fun down => ?_, fun raised unhoused => ?_, fun rest =>
    (rlp_dropDrive_of_rest s p .supply rest).1⟩
  · obtain ⟨out, -⟩ := drive_dropsTo s p .blocked .supply
    obtain ⟨state, because, -⟩ := out.sent (.drop (panCode p) 1) .dropBlocked
    rw [dropDrive_of_down s p .supply down]
    exact ⟨state, because⟩
  · obtain ⟨-, falls, -⟩ := dropDrive_falls s p .supply raised
    obtain ⟨⟨state, because, -⟩, -⟩ := falls unhoused
    exact ⟨state, because⟩

end

/-! ## The drives -/

section
variable (s : State)

theorem aside_drivesSupplyFall : aside s.drivesSupplyFall = aside s := aside_eachFitted _ _ fun _ _ => aside_dropDrive _ _ _

theorem drivesSupplyFall_dropped {p : Pan} (fitted : s.fitted p = true) :
    SupplyDropped (s.drive p) (s.drivesSupplyFall.drive p) :=
  (eachFitted_drive (I := fun _ => True) (R := SupplyDropped) (fun p t => t.dropDrive p .supply) (fun _ _ _ => trivial)
    (fun p t q => aside_fitted (aside_dropDrive t p .supply) q) (fun p t _ => supplyDropped_dropDrive t p)
    (fun p _ t h => drive_dropDrive_ne t p .supply h) s trivial).2 p fitted

/-- The base without the drive enables. -/
def withoutEnables (b : Base) : Base := { b with enables := ⟨false, false⟩ }

theorem base_drivesSupplyFall : withoutEnables s.drivesSupplyFall.base = withoutEnables s.base :=
  eachFitted_stays (I := fun t => withoutEnables t.base = withoutEnables s.base) (fun p t => t.dropDrive p .supply)
    (fun p t _ same => by rw [base_dropDrive]; exact same) s rfl

/-- Behind a queue that admits nothing, and with no claim in it, the drops leave the port as it is. -/
theorem rlp_drivesSupplyFall_of_shut (shut : Shut s) (claims : ∀ p, s.fitted p = true → (s.drive p).claimStage ≠ .queued) :
    s.drivesSupplyFall.rlp = s.rlp := by
  unfold State.drivesSupplyFall State.eachFitted
  dsimp only
  by_cases first : s.fitted .p0 = true
  · have port := rlp_dropDrive_of_shut s .p0 .supply shut (claims .p0 first)
    rw [if_pos first]
    split
    next second =>
      have second : s.fitted .p1 = true := (aside_fitted (aside_dropDrive s .p0 .supply) .p1).symm.trans second
      have other : (s.dropDrive .p0 .supply).drive .p1 = s.drive .p1 := drive_dropDrive_ne s .p0 .supply (by decide)
      rw [rlp_dropDrive_of_shut _ .p1 .supply (shut_of_rlp port shut) (by rw [other]; exact claims .p1 second), port]
    next => exact port
  · rw [if_neg first]
    split
    next second => exact rlp_dropDrive_of_shut s .p1 .supply shut (claims .p1 second)
    next => rfl

/-! ## The switchgear (R99, R102) -/

/-- The record of a stopped or failed isolator. -/
def failedIso (i : Isolator) : Isolator := ⟨i.contacts, isoShows i.contacts, none, none, none, false, false⟩

/-- A failed isolator changes its own record, and, where it was asked, the records of who asked (R102). -/
theorem isoFails_cases (p : Pan) : ∃ cu iu lcp,
    s.isoFails p = { s.mapIso p failedIso with cu := cu, iu := iu, lcp := lcp } ∧ iu.heaters = s.iu.heaters := by
  unfold State.isoFails
  dsimp only
  split <;> split <;> exact ⟨_, _, _, rfl, rfl⟩

theorem stopMove_beside (p : Pan) : (s.stopMove p).pd = s.pd ∧ (s.stopMove p).rlp = s.rlp ∧ (s.stopMove p).sc = s.sc ∧
    heaterParts (s.stopMove p) = heaterParts s ∧ (s.stopMove p).sg.selector = s.sg.selector ∧ (s.stopMove p).base = s.base := by
  unfold State.stopMove
  split
  · refine ⟨?_, ?_, ?_, ?_, ?_, base_isoFails s p⟩
    all_goals
      obtain ⟨cu, iu, lcp, fails, heaters⟩ := isoFails_cases s p
      rw [fails]
    · rfl
    · rfl
    · rfl
    · simp only [heaterParts, heaters]
    · rfl
  · exact ⟨rfl, rfl, rfl, rfl, rfl, rfl⟩

/-- What a supply fall makes of an isolator: a move is stopped where the feedback stands (R102). -/
def MoveStopped (i x : Isolator) : Prop :=
  x.moving = none ∧ (i.moving ≠ none → x.confirmed = isoShows i.contacts ∧ x.requested = none ∧ x.moveTimer = none)

theorem moveStopped_stopMove (p : Pan) : MoveStopped (s.sg.iso.get p) ((s.stopMove p).sg.iso.get p) := by
  unfold State.stopMove
  cases moving : (s.sg.iso.get p).moving with
  | none => exact ⟨moving, fun h => absurd moving h⟩
  | some dest =>
    obtain ⟨cu, iu, lcp, fails, -⟩ := isoFails_cases s p
    have iso := iso_mapIso s p failedIso
    rw [if_pos (by simp), fails]
    exact iso ▸ ⟨rfl, fun _ => ⟨rfl, rfl, rfl⟩⟩

theorem stopMove_other {p q : Pan} (h : q ≠ p) : (s.stopMove p).sg.iso.get q = s.sg.iso.get q := by
  unfold State.stopMove
  split
  · obtain ⟨cu, iu, lcp, fails, -⟩ := isoFails_cases s p
    rw [fails]
    exact pair_get_set_ne _ _ _ _ h
  · rfl

/-- What a supply fall makes of the selector: a leg is stopped where the feedback stands (R99). -/
def LegStopped (x y : Selector) : Prop :=
  y.busy = false ∧ (x.busy = true → y.confirmed = selShows x.contacts ∧ y.target = none ∧ y.leg = none ∧ y.legTimer = none)

/-- The leg stopped, with "selector failed". -/
def legFails : State := if s.sg.selector.busy then s.stopLeg.answerCu false else s

theorem legFails_beside : (legFails s).pd = s.pd ∧ (legFails s).rlp = s.rlp ∧ (legFails s).sc = s.sc ∧
    heaterParts (legFails s) = heaterParts s ∧ (legFails s).sg.iso = s.sg.iso ∧ (legFails s).base = s.base := by
  obtain ⟨rlp, -, sc, pd, base⟩ := stopLeg_beside s
  unfold legFails
  split
  · refine ⟨pd, rlp, sc, ?_, ?_, base⟩
    all_goals
      unfold State.stopLeg
      split <;> rfl
  · exact ⟨rfl, rfl, rfl, rfl, rfl, rfl⟩

theorem legStopped_legFails : LegStopped s.sg.selector (legFails s).sg.selector := by
  unfold legFails State.stopLeg
  cases busy : s.sg.selector.busy with
  | true =>
    rw [if_pos rfl, if_pos rfl]
    exact ⟨rfl, fun _ => ⟨rfl, rfl, rfl, rfl⟩⟩
  | false =>
    rw [if_neg Bool.false_ne_true]
    exact ⟨busy, fun h => absurd h (by simp [busy])⟩

theorem gearSupplyFall_eq : s.gearSupplyFall = ((legFails s).stopMove .p0).stopMove .p1 := rfl

theorem gearSupplyFall_beside : s.gearSupplyFall.pd = s.pd ∧ s.gearSupplyFall.rlp = s.rlp ∧ s.gearSupplyFall.sc = s.sc ∧
    heaterParts s.gearSupplyFall = heaterParts s ∧ s.gearSupplyFall.base = s.base := by
  obtain ⟨pd, rlp, sc, heaters, -, base⟩ := legFails_beside s
  obtain ⟨pd₀, rlp₀, sc₀, heaters₀, -, base₀⟩ := stopMove_beside (legFails s) .p0
  obtain ⟨pd₁, rlp₁, sc₁, heaters₁, -, base₁⟩ := stopMove_beside ((legFails s).stopMove .p0) .p1
  rw [gearSupplyFall_eq]
  exact ⟨pd₁.trans (pd₀.trans pd), rlp₁.trans (rlp₀.trans rlp), sc₁.trans (sc₀.trans sc),
    heaters₁.trans (heaters₀.trans heaters), base₁.trans (base₀.trans base)⟩

theorem gearSupplyFall_stopped : LegStopped s.sg.selector s.gearSupplyFall.sg.selector ∧
    ∀ p, MoveStopped (s.sg.iso.get p) (s.gearSupplyFall.sg.iso.get p) := by
  obtain ⟨-, -, -, -, iso, -⟩ := legFails_beside s
  obtain ⟨-, -, -, -, selector₀, -⟩ := stopMove_beside (legFails s) .p0
  obtain ⟨-, -, -, -, selector₁, -⟩ := stopMove_beside ((legFails s).stopMove .p0) .p1
  have first := moveStopped_stopMove (legFails s) .p0
  have second := moveStopped_stopMove ((legFails s).stopMove .p0) .p1
  rw [stopMove_other _ (by decide : Pan.p1 ≠ .p0), iso] at second
  rw [iso] at first
  rw [gearSupplyFall_eq]
  refine ⟨by rw [selector₁, selector₀]; exact legStopped_legFails s, fun p => ?_⟩
  cases p
  · rw [stopMove_other _ (by decide : Pan.p0 ≠ .p1)]
    exact first
  · exact second

end

end Sys2Proof.Proofs
end

section
/-! SUPPORT. The port at a supply fall (R18), and the edges of the supply. -/

namespace Sys2Proof.Proofs

open Sys2Proof Sys2Proof.Machine Sys2Proof.Laws

section
variable (s : State)

/-! ## The switchgear and the drives at an entry to OFFLINE -/

/-- The selector once a leg in progress has stopped where the feedback stands. -/
def stoppedSelector (g : Sg) : Selector :=
  if g.selector.busy then g.selector.atRest (selShows g.selector.contacts) else g.selector

theorem removeReason_gear (x : Reason) :
    (s.removeReason x).sg.selector = s.sg.selector ∧ (s.removeReason x).sg.iso = s.sg.iso := by
  unfold State.removeReason
  split <;> exact ⟨rfl, rfl⟩

theorem stopLeg_gear : s.stopLeg.sg.selector = stoppedSelector s.sg ∧ s.stopLeg.sg.iso = s.sg.iso := by
  unfold State.stopLeg stoppedSelector
  split <;> exact ⟨rfl, rfl⟩

theorem heatOffline_beside : s.heatOffline.sg = s.sg ∧ s.heatOffline.pd = s.pd ∧ s.heatOffline.sc = s.sc := by
  unfold State.heatOffline
  dsimp only
  split <;> exact ⟨rfl, rfl, rfl⟩

theorem scraperOffline_beside : s.scraperOffline.sg = s.sg ∧ s.scraperOffline.pd = s.pd ∧ s.scraperOffline.sc = s.sc := by
  unfold State.scraperOffline
  dsimp only
  split <;> exact ⟨rfl, rfl, rfl⟩

/-- What an entry to OFFLINE, or the vented LEAVE, makes of a drive's state: at most its lowering. -/
def PortLowered (d x : Drive) : Prop :=
  (d.state ≠ .raising → d.state ≠ .up → x.state = d.state) ∧
    (d.state = .raising ∨ d.state = .up → d.housed = false → x.state = d.state ∨ x.state = .lowering)

theorem portLowered_of_same {d x : Drive} (h : x.state = d.state) : PortLowered d x := ⟨fun _ _ => h, fun _ _ => .inl h⟩

/-- The roster unit's reset changes the drives by their lowering alone, and the switchgear not at all. -/
theorem resetRegime_beside : s.resetRegime.sg = s.sg ∧
    ∀ p, s.fitted p = true → PortLowered (s.drive p) (s.resetRegime.drive p) := by
  obtain ⟨w, resets, -, -, -, sc, pd, sg, -⟩ := resetRegime_cases s
  rw [resets]
  split
  · exact ⟨sg, fun p _ => portLowered_of_same (by rw [drive_of_pd pd])⟩
  · refine ⟨(aside_sg (aside_orderAllDown w .regimeNone)).trans sg, fun p fitted => ?_⟩
    obtain ⟨-, each⟩ := eachFitted_drive (I := fun _ => True) (R := RoundLowered) (fun p t => t.orderDown p .regimeNone)
      (fun _ _ _ => trivial) (fun p t q => aside_fitted (aside_orderDown t p .regimeNone) q)
      (fun p t _ => roundLowered_orderDown t p .regimeNone) (fun p _ t h => drive_orderDown_ne t .regimeNone h) w trivial
    obtain ⟨-, -, raised, rest⟩ := each p ((fitted_of_config (by rw [sc]) p).trans fitted)
    rw [drive_of_pd pd] at raised rest
    exact ⟨rest, fun up unhoused => .inr (raised up unhoused)⟩

theorem housed_of_base {s t : State} (h : t.base.housed = s.base.housed) (p : Pan) : (t.drive p).housed = (s.drive p).housed := by
  have each (u : State) : (u.drive p).housed = u.base.housed.get p := by cases p <;> rfl
  rw [each, each, h]

theorem roundDetached_beside : (roundDetached s).sg.selector = s.sg.selector ∧ (roundDetached s).sg.iso = s.sg.iso ∧
    ∀ p, s.fitted p = true → (roundDetached s).drive p = (s.drive p).offline := by
  obtain ⟨-, kept⟩ := eachFitted_mapPd_rest (s.mapRlp Rlp.offline) Drive.offline
  have sg : ((s.mapRlp Rlp.offline).eachFitted fun p t => t.mapPd p Drive.offline).sg = s.sg := aside_sg kept
  obtain ⟨selector₁, iso₁⟩ := removeReason_gear (((s.mapRlp Rlp.offline).eachFitted fun p t =>
    t.mapPd p Drive.offline).mapSq fun q => { q with entries := [] }) .neutral
  obtain ⟨selector₂, iso₂⟩ := removeReason_gear (((((s.mapRlp Rlp.offline).eachFitted fun p t =>
    t.mapPd p Drive.offline).mapSq fun q => { q with entries := [] }).removeReason .neutral).mapCu fun _ => Cu.reset) .round
  refine ⟨selector₂.trans (selector₁.trans (congrArg Sg.selector sg)), iso₂.trans (iso₁.trans (congrArg Sg.iso sg)), fun p fitted => ?_⟩
  rw [roundDetached, drive_removeReason, drive_mapCu, drive_removeReason, drive_mapSq]
  exact drive_eachFitted_mapPd (s.mapRlp Rlp.offline) Drive.offline fitted

/-- The switchgear and the drives at an entry to OFFLINE (R18, R68, R96). -/
theorem enterOffline_beside : s.enterOffline.sg.selector = stoppedSelector s.sg ∧ s.enterOffline.sg.iso = s.sg.iso ∧
    ∀ p, s.fitted p = true → PortLowered (s.drive p) (s.enterOffline.drive p) := by
  obtain ⟨selector, iso, drives⟩ := roundDetached_beside s
  obtain ⟨stops, iso₁⟩ := stopLeg_gear (roundDetached s)
  obtain ⟨-, -, sc₁, pd₁, -⟩ := stopLeg_beside (roundDetached s)
  obtain ⟨heatSg, heatPd, heatSc⟩ := heatOffline_beside (roundDetached s).stopLeg
  obtain ⟨scraperSg, scraperPd, scraperSc⟩ := scraperOffline_beside (roundDetached s).stopLeg.heatOffline
  obtain ⟨sg, lowered⟩ := resetRegime_beside (roundDetached s).stopLeg.heatOffline.scraperOffline
  have stopped : stoppedSelector (roundDetached s).sg = stoppedSelector s.sg := by simp only [stoppedSelector, selector]
  have config : (roundDetached s).stopLeg.heatOffline.scraperOffline.sc.config = s.sc.config := by
    obtain ⟨-, -, sc, -⟩ := roundDetached_spec s
    rw [scraperSc, heatSc, sc₁, sc]
  rw [enterOffline_eq]
  refine ⟨?_, ?_, fun p fitted => ?_⟩
  · rw [mapSc_sg, sg, scraperSg, heatSg, stops, stopped]
  · rw [mapSc_sg, sg, scraperSg, heatSg, iso₁, iso]
  · have each := lowered p ((fitted_of_config config p).trans fitted)
    rw [drive_of_pd scraperPd, drive_of_pd heatPd, drive_of_pd pd₁, drives p fitted] at each
    rw [drive_mapSc]
    exact each

/-! ## The port at a supply fall (R18) -/

/-- An attempt in progress cut short with a jam of 16 bit times. -/
def cutShort : State :=
  if s.rlp.attempt.isSome then s.mapRlp fun r => { r with attempt := none, line := .jam, lastEnd := s.now + 64 } else s

/-- The vented LEAVE alone in the queue, with no claim queued and no LEAVE pending. -/
def ventedLeave : State :=
  (((cutShort s).emptyQueue.eachFitted fun p v =>
    if (v.drive p).claimStage = .queued then v.mapPd p Drive.claimOver else v).enqueue (.leave 1) false).mapSc fun x =>
      { x with leaving := none }

theorem portSupplyFall_of_online (h : s.rlp.port = .online) : s.portSupplyFall = ventedLeave s := by
  unfold State.portSupplyFall
  dsimp only
  rw [h]
  rfl

theorem portSupplyFall_of_joining (h : s.rlp.port = .joining) : s.portSupplyFall = (cutShort s).enterOffline := by
  unfold State.portSupplyFall
  dsimp only
  rw [h]
  rfl

theorem portSupplyFall_of_rest (h1 : s.rlp.port ≠ .online) (h2 : s.rlp.port ≠ .joining) : s.portSupplyFall = s := by
  unfold State.portSupplyFall
  dsimp only
  split
  next h => exact absurd h h1
  next h => exact absurd h h2
  next => rfl

/-- What the port's part of a supply fall leaves of a state, whatever the port's state. -/
structure PortFallen (s v : State) : Prop where
  now : v.now = s.now
  mu : v.mu = s.mu
  config : v.sc.config = s.sc.config
  low : v.sc.supplyLow = s.sc.supplyLow
  port : v.rlp.port = if s.rlp.port = .joining then .offline else s.rlp.port
  housed : ∀ p, (v.drive p).housed = (s.drive p).housed
  iso : v.sg.iso = s.sg.iso
  selector : v.sg.selector = s.sg.selector ∨ v.sg.selector = stoppedSelector s.sg
  drives : ∀ p, s.fitted p = true → PortLowered (s.drive p) (v.drive p)

theorem cutShort_beside : (cutShort s).now = s.now ∧ (cutShort s).mu = s.mu ∧ (cutShort s).sc = s.sc ∧ (cutShort s).sg = s.sg ∧
    (cutShort s).pd = s.pd ∧ (cutShort s).rlp.attempt = none ∧
    (s.rlp.attempt ≠ none → (cutShort s).rlp.line = .jam ∧ (cutShort s).rlp.lastEnd = s.now + 64) ∧
    (cutShort s).rlp.port = s.rlp.port := by
  unfold cutShort
  cases attempt : s.rlp.attempt with
  | some a =>
    rw [if_pos (by simp)]
    exact ⟨rfl, rfl, rfl, rfl, rfl, rfl, fun _ => ⟨rfl, rfl⟩, rfl⟩
  | none =>
    rw [if_neg (by simp)]
    exact ⟨rfl, rfl, rfl, rfl, rfl, attempt, fun h => absurd rfl h, rfl⟩

theorem emptyQueue_sg_mu : s.emptyQueue.sg = s.sg ∧ s.emptyQueue.mu = s.mu := by
  unfold State.emptyQueue
  dsimp only
  split <;> exact ⟨rfl, rfl⟩

/-- The claims in the queue over, with the queue (R18, R59). -/
def unqueued (v : State) : State :=
  v.eachFitted fun p v => if (v.drive p).claimStage = .queued then v.mapPd p Drive.claimOver else v

theorem unqueued_rlp (v : State) : (unqueued v).rlp = v.rlp :=
  eachFitted_stays (I := fun t => t.rlp = v.rlp) _ (fun p t _ h => by
    split
    · exact h
    · exact h) v rfl

theorem unqueued_aside (v : State) : aside (unqueued v) = aside v :=
  aside_eachFitted _ _ fun p t => by split <;> rfl

theorem unqueued_base (v : State) : (unqueued v).base = v.base :=
  base_eachFitted _ _ fun p t => by
    split
    · exact base_claimOver _ _
    · rfl

/-- A drive without a claim in the queue, and otherwise as it was. -/
def Unqueued (d x : Drive) : Prop := x.state = d.state ∧ x.claimStage ≠ .queued

theorem unqueued_drive (v : State) {p : Pan} (fitted : v.fitted p = true) : Unqueued (v.drive p) ((unqueued v).drive p) :=
  (eachFitted_drive (I := fun _ => True) (R := Unqueued) _ (fun _ _ _ => trivial) (fun p t q => by split <;> rfl)
    (fun p t _ => by
      split
      · rw [drive_mapPd]
        exact ⟨rfl, by simp [Drive.claimOver]⟩
      next free => exact ⟨rfl, free⟩)
    (fun p q t h => by
      split
      · exact drive_mapPd_ne t _ h
      · rfl) v trivial).2 p fitted

theorem ventedLeave_eq : ventedLeave s =
    ((unqueued (cutShort s).emptyQueue).enqueue (.leave 1) false).mapSc fun x => { x with leaving := none } := rfl

/-- In ONLINE the vented LEAVE stands alone in the queue (R18). -/
theorem ventedLeave_spec : (ventedLeave s).rlp = { (cutShort s).rlp with
      queue := [⟨.leave 1, false, false, false⟩], slot := none } ∧
    (ventedLeave s).sc = { s.sc with leaving := none } ∧ (ventedLeave s).now = s.now ∧ (ventedLeave s).mu = s.mu ∧
    (ventedLeave s).sg = s.sg ∧ ∀ p, s.fitted p = true → Unqueued (s.drive p) ((ventedLeave s).drive p) := by
  obtain ⟨now, mu, sc, sg, pd, -⟩ := cutShort_beside s
  obtain ⟨rlp', -, pd', sc', now'⟩ := emptyQueue_spec (cutShort s)
  obtain ⟨sg', mu'⟩ := emptyQueue_sg_mu (cutShort s)
  have kept := unqueued_aside (cutShort s).emptyQueue
  have sc₂ : (unqueued (cutShort s).emptyQueue).sc = s.sc := (aside_sc kept).trans (sc'.trans sc)
  have ends (v : State) : ((v.enqueue (.leave 1) false).mapSc fun x => { x with leaving := none }).rlp =
        { v.rlp with queue := v.rlp.queue ++ [⟨.leave 1, false, false, false⟩] } ∧
      ((v.enqueue (.leave 1) false).mapSc fun x => { x with leaving := none }).sc = { v.sc with leaving := none } ∧
      ((v.enqueue (.leave 1) false).mapSc fun x => { x with leaving := none }).now = v.now ∧
      ((v.enqueue (.leave 1) false).mapSc fun x => { x with leaving := none }).mu = v.mu ∧
      ((v.enqueue (.leave 1) false).mapSc fun x => { x with leaving := none }).sg = v.sg ∧
      ∀ p, ((v.enqueue (.leave 1) false).mapSc fun x => { x with leaving := none }).drive p = v.drive p :=
    ⟨rfl, rfl, rfl, rfl, rfl, fun p => rfl⟩
  obtain ⟨endRlp, endSc, endNow, endMu, endSg, endDrive⟩ := ends (unqueued (cutShort s).emptyQueue)
  have keptMu : (unqueued (cutShort s).emptyQueue).mu = (cutShort s).emptyQueue.mu := congrArg Aside.mu kept
  rw [ventedLeave_eq, endRlp, endSc, endNow, endMu, endSg, unqueued_rlp, rlp', sc₂, aside_now kept, now', now, keptMu, mu', mu,
    aside_sg kept, sg', sg]
  refine ⟨rfl, rfl, rfl, rfl, rfl, fun p fitted => ?_⟩
  have each := unqueued_drive (cutShort s).emptyQueue ((fitted_of_config (s := s) (by rw [sc', sc]) p).trans fitted)
  rw [drive_of_pd pd', drive_of_pd pd] at each
  rw [endDrive]
  exact each

theorem portFallen_ventedLeave (online : s.rlp.port = .online) : PortFallen s (ventedLeave s) := by
  obtain ⟨rlp, sc, now, mu, sg, drives⟩ := ventedLeave_spec s
  obtain ⟨-, -, -, -, -, -, -, port⟩ := cutShort_beside s
  refine ⟨now, mu, by rw [sc], by rw [sc], ?_, ?_, by rw [sg], .inl (by rw [sg]), fun p fitted => portLowered_of_same (drives p fitted).1⟩
  · rw [rlp, if_neg (by simp [online])]
    exact port
  · refine housed_of_base ?_
    obtain ⟨-, base, -⟩ := emptyQueue_spec (cutShort s)
    have ends (v : State) : ((v.enqueue (.leave 1) false).mapSc fun x => { x with leaving := none }).base = v.base := by simp
    have cut : (cutShort s).base.housed = s.base.housed := by
      unfold cutShort
      split <;> rfl
    rw [ventedLeave_eq, ends, unqueued_base, base, cut]

theorem portFallen_enterOffline (joining : s.rlp.port = .joining) : PortFallen s (cutShort s).enterOffline := by
  obtain ⟨now, mu, sc, sg, pd, -⟩ := cutShort_beside s
  obtain ⟨selector, iso, drives⟩ := enterOffline_beside (cutShort s)
  have base := base_enterOffline (cutShort s)
  have cut : (cutShort s).base.housed = s.base.housed := by
    unfold cutShort
    split <;> rfl
  refine ⟨?_, ?_, ?_, ?_, ?_, housed_of_base ?_, by rw [iso, sg], .inr (by rw [selector, sg]), fun p fitted => ?_⟩
  · refine Eq.trans ?_ now
    simpa only [State.base] using congrArg Base.now base
  · refine Eq.trans ?_ mu
    simpa only [State.base] using congrArg Base.mu base
  · rw [← sc]
    simpa only [State.base] using congrArg Base.config base
  · rw [← sc]
    simpa only [State.base] using congrArg Base.supplyLow base
  · rw [if_pos joining]
    simpa only [State.base] using congrArg Base.port base
  · rw [base]
    exact cut
  · have each := drives p ((fitted_of_config (by rw [sc]) p).trans fitted)
    rwa [drive_of_pd pd] at each

theorem portFallen_portSupplyFall : PortFallen s s.portSupplyFall := by
  by_cases online : s.rlp.port = .online
  · rw [portSupplyFall_of_online s online]
    exact portFallen_ventedLeave s online
  · by_cases joining : s.rlp.port = .joining
    · rw [portSupplyFall_of_joining s joining]
      exact portFallen_enterOffline s joining
    · rw [portSupplyFall_of_rest s online joining]
      exact ⟨rfl, rfl, rfl, rfl, by rw [if_neg joining], fun p => rfl, rfl, .inl rfl, fun p _ => portLowered_of_same rfl⟩

end

end Sys2Proof.Proofs
end

section
/-! SUPPORT. The edges of the supply (R185, R186). -/

namespace Sys2Proof.Proofs

open Sys2Proof Sys2Proof.Machine Sys2Proof.Laws

section
variable (s : State)

/-- The flag set, with its event. -/
def supplyLow : State := (s.mapSc fun x => { x with supplyLow := true }).raiseEvent (.supplyState true)

/-- The port and the drives once the supply has fallen. -/
def dropped : State := (supplyLow s).portSupplyFall.drivesSupplyFall

theorem supplyFall_eq : s.supplyFall = (dropped s).heatersSupplyFall.gearSupplyFall := rfl

theorem dropped_spec : (dropped s).now = s.now ∧ (dropped s).mu = s.mu ∧ (dropped s).sc.config = s.sc.config ∧
    (dropped s).sc.supplyLow = true ∧ (dropped s).rlp.port = (if s.rlp.port = .joining then .offline else s.rlp.port) ∧
    (dropped s).sg.iso = s.sg.iso ∧
    ((dropped s).sg.selector = s.sg.selector ∨ (dropped s).sg.selector = stoppedSelector s.sg) := by
  have fallen := portFallen_portSupplyFall (supplyLow s)
  have kept := aside_drivesSupplyFall (supplyLow s).portSupplyFall
  have base := base_drivesSupplyFall (supplyLow s).portSupplyFall
  have port : (supplyLow s).portSupplyFall.drivesSupplyFall.rlp.port = (supplyLow s).portSupplyFall.rlp.port := by
    simpa only [withoutEnables, State.base] using congrArg Base.port base
  have mu : (dropped s).mu = (supplyLow s).portSupplyFall.mu := congrArg Aside.mu kept
  refine ⟨(aside_now kept).trans fallen.now, mu.trans fallen.mu, ?_, ?_, port.trans fallen.port, ?_, ?_⟩
  · rw [dropped, aside_sc kept]
    exact fallen.config
  · rw [dropped, aside_sc kept]
    exact fallen.low
  · rw [dropped, aside_sg kept]
    exact fallen.iso
  · rw [dropped, aside_sg kept]
    exact fallen.selector

/-- A drive dropped after the port's part of the fall, by its state before it (R54). -/
theorem SupplyDropped.of_lowered {d x y : Drive} (lowered : PortLowered d x) (housed : x.housed = d.housed) (h : SupplyDropped x y) :
    SupplyDropped d y := by
  obtain ⟨rest, raised⟩ := lowered
  obtain ⟨enable, vented, blocks, drops, stays⟩ := h
  refine ⟨enable, vented, fun down => blocks (by rw [rest (by simp [down]) (by simp [down]), down]), fun up unhoused => drops ?_
    (housed.trans unhoused), fun out => ?_⟩
  · obtain up | up | up := up
    · exact (raised (.inl up) unhoused).elim (fun same => .inl (same.trans up)) fun low => .inr (.inr low)
    · exact (raised (.inr up) unhoused).elim (fun same => .inr (.inl (same.trans up))) fun low => .inr (.inr low)
    · exact .inr (.inr (by rw [rest (by simp [up]) (by simp [up]), up]))
  · have same : x.state = d.state := rest (by obtain h | h := out <;> simp [h]) (by obtain h | h := out <;> simp [h])
    rw [← same] at out ⊢
    exact stays out

theorem dropped_drive {p : Pan} (fitted : s.fitted p = true) : SupplyDropped (s.drive p) ((dropped s).drive p) := by
  have fallen := portFallen_portSupplyFall (supplyLow s)
  have drops := drivesSupplyFall_dropped (supplyLow s).portSupplyFall ((fitted_of_config fallen.config p).trans fitted)
  exact drops.of_lowered (fallen.drives p fitted) (fallen.housed p)

/-- In ONLINE the vented LEAVE stands alone in the queue when the drives have dropped, too (R18). -/
theorem dropped_online (online : s.rlp.port = .online) :
    (dropped s).rlp = { (cutShort (supplyLow s)).rlp with queue := [⟨.leave 1, false, false, false⟩], slot := none } ∧
      (dropped s).sc.leaving = none := by
  obtain ⟨rlp, sc, -, -, -, drives⟩ := ventedLeave_spec (supplyLow s)
  have kept := aside_drivesSupplyFall (ventedLeave (supplyLow s))
  have vented : (ventedLeave (supplyLow s)).ventedHeld = true := by
    rw [State.ventedHeld, rlp]
    rfl
  have port : (dropped s).rlp = (ventedLeave (supplyLow s)).rlp := by
    rw [dropped, portSupplyFall_of_online (supplyLow s) online]
    exact rlp_drivesSupplyFall_of_shut _ (.inr vented) fun p fitted =>
      (drives p ((fitted_of_config (s := supplyLow s) (by rw [sc]) p).symm.trans fitted)).2
  refine ⟨port.trans rlp, ?_⟩
  rw [dropped, portSupplyFall_of_online (supplyLow s) online, aside_sc kept, sc]

theorem heatersSupplyFall_beside (v : State) : v.heatersSupplyFall.base = v.base ∧ v.heatersSupplyFall.rlp = v.rlp ∧
    v.heatersSupplyFall.sc = v.sc ∧ v.heatersSupplyFall.pd = v.pd ∧ v.heatersSupplyFall.sg = v.sg ∧
    ∀ p, ((heaterParts v.heatersSupplyFall).get p).enable = false :=
  ⟨base_mapIu v _ (fun _ => ⟨rfl, rfl, rfl, rfl, rfl, rfl⟩), rfl, rfl, rfl, rfl, fun p => by cases p <;> rfl⟩

theorem supplyFall_spec : s.supplyFall.base = (dropped s).base ∧ s.supplyFall.rlp = (dropped s).rlp ∧
    s.supplyFall.sc = (dropped s).sc ∧ (∀ p, s.supplyFall.drive p = (dropped s).drive p) ∧
    ∀ p, ((heaterParts s.supplyFall).get p).enable = false := by
  obtain ⟨pd, rlp, sc, heaters, base⟩ := gearSupplyFall_beside (dropped s).heatersSupplyFall
  obtain ⟨base₀, rlp₀, sc₀, pd₀, -, off⟩ := heatersSupplyFall_beside (dropped s)
  rw [supplyFall_eq]
  exact ⟨base.trans base₀, rlp.trans rlp₀, sc.trans sc₀, fun p => drive_of_pd (pd.trans pd₀) p, fun p => by rw [heaters]; exact off p⟩

theorem gearSupplyFall_selector : s.gearSupplyFall.sg.selector = stoppedSelector s.sg := by
  obtain ⟨-, -, -, -, selector₀, -⟩ := stopMove_beside (legFails s) .p0
  obtain ⟨-, -, -, -, selector₁, -⟩ := stopMove_beside ((legFails s).stopMove .p0) .p1
  rw [gearSupplyFall_eq, selector₁, selector₀, legFails, stoppedSelector]
  split
  · exact (stopLeg_gear s).1.trans (if_pos ‹_›)
  · rfl

theorem stoppedSelector_stopped {g h : Sg} (stopped : h.selector = stoppedSelector g) : stoppedSelector h = stoppedSelector g := by
  have idle : h.selector.busy = false := by
    rw [stopped, stoppedSelector]
    split
    · rfl
    next busy => exact eq_false_of_ne_true busy
  rw [stoppedSelector, if_neg (by simp [idle]), stopped]

theorem legStopped_stoppedSelector (g : Sg) : LegStopped g.selector (stoppedSelector g) := by
  unfold stoppedSelector
  split
  · exact ⟨rfl, fun _ => ⟨rfl, rfl, rfl, rfl⟩⟩
  next idle => exact ⟨eq_false_of_ne_true idle, fun busy => absurd busy idle⟩

theorem supplyFall_gear : LegStopped s.sg.selector s.supplyFall.sg.selector ∧
    ∀ p, MoveStopped (s.sg.iso.get p) (s.supplyFall.sg.iso.get p) := by
  obtain ⟨-, moves⟩ := gearSupplyFall_stopped (dropped s).heatersSupplyFall
  obtain ⟨-, -, -, -, sg, -⟩ := heatersSupplyFall_beside (dropped s)
  obtain ⟨-, -, -, -, -, iso, selector⟩ := dropped_spec s
  rw [sg, iso] at moves
  have stopped : stoppedSelector (dropped s).sg = stoppedSelector s.sg := by
    obtain same | stops := selector
    · simp only [stoppedSelector, same]
    · exact stoppedSelector_stopped stops
  rw [supplyFall_eq]
  refine ⟨?_, moves⟩
  rw [gearSupplyFall_selector, sg, stopped]
  exact legStopped_stoppedSelector s.sg

/-- The outputs and the rest of the base once a supply fall has settled. -/
theorem supplyFall_settle : s.supplyFall.settle.base = (dropped s).base ∧
    (∀ p, s.fitted p = true → (s.supplyFall.settle.drive p).enable = false ∧ s.supplyFall.settle.fillOutput p = false) ∧
    ∀ p, (s.supplyFall.settle.iu.heaters.get p).enable = false := by
  obtain ⟨base, -, -, drives, heaters⟩ := supplyFall_spec s
  refine ⟨(settle_base _).trans base, fun p fitted => ?_, fun p => ?_⟩
  · obtain ⟨enable, vented, -⟩ := dropped_drive s fitted
    rw [← drives p] at enable vented
    exact ⟨(settle_enable _ p).trans enable, settle_gated _ p vented.2 enable⟩
  · have off := heaters p
    rw [← heaterParts_settle, heaterParts_get] at off
    exact off

/-- Settles O60. -/
theorem supplyEdgesSetAndClearTheFlag : Obligations.SupplyEdgesSetAndClearTheFlag := by
  unfold Obligations.SupplyEdgesSetAndClearTheFlag
  intro t s
  have falls (clear : s.sc.supplyLow = false) : exec (.supplyFall t) s = .next (s.advance t).supplyFall.settle :=
    congrArg Host.Outcome.next (if_neg (by simp [clear]))
  refine ⟨fun clear => ⟨_, falls clear, ?_⟩, fun clear => ⟨_, falls clear, ?_⟩, fun low => congrArg Host.Outcome.next (if_pos low),
    fun low => ⟨_, congrArg Host.Outcome.next (if_pos low), ?_⟩, fun clear => congrArg Host.Outcome.next (if_neg (by simp [clear]))⟩
  · obtain ⟨base, drives, heaters⟩ := supplyFall_settle (s.advance t)
    obtain ⟨now, mu, config, low, port, -⟩ := dropped_spec (s.advance t)
    refine ⟨?_, ?_, drives, heaters, ?_, ?_, ?_⟩
    · exact Eq.trans (by simpa only [State.base] using congrArg Base.now base) now
    · exact Eq.trans (by simpa only [State.base] using congrArg Base.supplyLow base) low
    · exact Eq.trans (by simpa only [State.base] using congrArg Base.port base) port
    · exact Eq.trans (by simpa only [State.base] using congrArg Base.mu base) mu
    · exact Eq.trans (by simpa only [State.base] using congrArg Base.config base) config
  · obtain ⟨-, rlp, sc, drives, -⟩ := supplyFall_spec (s.advance t)
    obtain ⟨⟨idle, stops⟩, moves⟩ := supplyFall_gear (s.advance t)
    refine ⟨fun online => ?_, fun p fitted => ?_, idle, stops, moves⟩
    · obtain ⟨queue, leaving⟩ := dropped_online (s.advance t) online
      obtain ⟨-, -, -, -, -, none, cut, -⟩ := cutShort_beside (supplyLow (s.advance t))
      rw [rlp, sc, queue]
      exact ⟨rfl, rfl, none, leaving, cut⟩
    · obtain ⟨-, -, blocks, drops, stays⟩ := dropped_drive (s.advance t) fitted
      rw [drives p]
      exact ⟨blocks, drops, stays⟩
  · have rises (v : State) : v.supplyRise.base = { v.base with supplyLow := false } := base_raiseEvent _ _
    rw [settle_base, rises]
    rfl

end

end Sys2Proof.Proofs
end

section
/-! SUPPORT. YIELD, DROP and RAISED, by what they make of the entry (R33, R34, R35). -/

namespace Sys2Proof.Proofs

open Sys2Proof Sys2Proof.Machine Sys2Proof.Laws

section
variable (s : State)

/-! ## The roster and the records, from the base -/

theorem roster_of_base {t : State} (h : t.base = s.base) : t.ru.roster = s.ru.roster := by
  simpa only [State.base] using congrArg Base.roster h

theorem contests_of_base {t : State} (h : t.base = s.base) : t.ru.contests = s.ru.contests := by
  simpa only [State.base] using congrArg Base.contests h

theorem peers_of_base {t : State} (h : t.base = s.base) : t.ru.peers = s.ru.peers := by
  simpa only [State.base] using congrArg Base.peers h

theorem base_claimEnds (p : Pan) : (s.claimEnds p).base = s.base := by
  unfold State.claimEnds
  split
  · exact base_claimOver s p
  · exact base_claimFollows s p

/-! ## The records of a claim closed (R44) -/

/-- No two open records of one target are of different claims. -/
def OneClaim (contests : List Contest) : Prop := ∀ c ∈ contests, ∀ d ∈ contests, c.target = d.target → c.body = d.body

theorem mapEntry_cleared (n : Nat) (p : Pan) (st : EntryState) (g : Entry → Entry)
    (h : ClearsWindows g fun e => e.station = n ∧ e.pan = p) (l : List Entry) :
    (l.map g).map (fun e => if e.station = n && e.pan = p then e.cleared st else e) =
      l.map fun e => if e.station = n && e.pan = p then e.cleared st else e := by
  rw [List.map_map]
  refine List.map_congr_left fun e _ => ?_
  obtain same | ⟨window, station, pan⟩ := h e
  · rw [Function.comp, same]
  · rw [Function.comp, window]
    simp [station, pan, Entry.cleared]

/-- The records of the claims on an entry closed: with one claim for each target, only that entry's window closes. -/
theorem closeClaims_of_oneClaim (n : Nat) (p : Pan) (one : OneClaim s.ru.contests) :
    ∃ q g, s.closeClaims n p = { s with
        rlp := { s.rlp with queue := q }
        ru := { s.ru with
          roster := s.ru.roster.map g
          contests := remaining (s.ru.contests.filter fun c => c.target.station = n && c.body = .claim p) s.ru.contests } } ∧
      ClearsWindows g fun e => e.station = n ∧ e.pan = p := by
  obtain ⟨q, g, cs, closes, clears, same⟩ := closeClaims_shape s n p
  refine ⟨q, g, closes.trans (by rw [same]), fun e => (clears e).imp_right ?_⟩
  rintro ⟨window, station, c, memC, d, memD, claim, target, claim'⟩
  have same : ContestBody.claim e.pan = .claim p := by rw [← claim', ← claim, one d memD c memC target]
  exact ⟨window, station, by injection same⟩

theorem not_claim_of_remaining {n : Nat} {p : Pan} {contests : List Contest} {c : Contest}
    (h : c ∈ remaining (contests.filter fun c => c.target.station = n && c.body = .claim p) contests) (station : c.target.station = n) :
    c.body ≠ .claim p := by
  obtain ⟨mem, out⟩ := (mem_remaining _ _ c).mp h
  intro claim
  exact out c (by simp [mem, station, claim]) rfl

theorem withdrawClaimObjects_ru (n : Nat) (p : Pan) : (s.withdrawClaimObjects n p).ru = s.ru := by
  unfold State.withdrawClaimObjects
  split <;> rfl

/-- An entry cleared: its record closed, and no other entry changed (R34, R35). -/
theorem clearEntry_spec (n : Nat) (p : Pan) (st : EntryState) (one : OneClaim s.ru.contests) :
    (s.clearEntry n p st).ru.roster = (s.ru.roster.map fun e => if e.station = n && e.pan = p then e.cleared st else e) ∧
      ∀ c ∈ (s.clearEntry n p st).ru.contests, c.target.station = n → c.body ≠ .claim p := by
  obtain ⟨q, g, closes, clears⟩ := closeClaims_of_oneClaim s n p one
  have base : (s.clearEntry n p st).base =
      (((s.closeClaims n p).withdrawClaimObjects n p).mapEntry n p fun e => e.cleared st).base := by
    unfold State.clearEntry
    dsimp only
    split
    · split
      · exact base_claimFollows _ p
      · exact base_claimEnds _ p
    · rfl
  have kept := withdrawClaimObjects_ru (s.closeClaims n p) n p
  have ends (v : State) : (v.mapEntry n p fun e => e.cleared st).ru =
      { v.ru with roster := v.ru.roster.map fun e => if e.station = n && e.pan = p then e.cleared st else e } := rfl
  rw [roster_of_base _ base, contests_of_base _ base, ends, kept, closes]
  exact ⟨mapEntry_cleared n p st g clears _, fun c mem station => not_claim_of_remaining mem station⟩

/-! ## The notices -/

@[simp] theorem panOf_panCode (p : Pan) : panOf (panCode p) = some p := by cases p <;> rfl

@[simp] theorem roleOf_roleCode (r : Role) : roleOf (roleCode r) = some r := by cases r <;> rfl

theorem applyYield_eq (n : Nat) (seq : Byte) (p : Pan) : s.applyNotice n seq (.yield (panCode p)) = s.clearEntry n p .down := by
  simp only [State.applyNotice, State.applyYield, panOf_panCode]

theorem applyDrop_dropping (n : Nat) (seq : Byte) (p : Pan) :
    s.applyNotice n seq (.drop (panCode p) 0) = s.clearEntry n p .dropping := by
  simp only [State.applyNotice, State.applyDrop, panOf_panCode, if_true]

theorem applyDrop_blocked (n : Nat) (seq : Byte) (p : Pan) :
    s.applyNotice n seq (.drop (panCode p) 1) = s.clearEntry n p .blocked := by
  simp [State.applyNotice, State.applyDrop]

theorem applyRaised_claimed (n : Nat) (seq : Byte) (p : Pan) (e : Entry) (r : Role) (held : s.entry n p = some e)
    (claimed : e.state = .claimed) (free : r = .scraper → s.otherOccupying .scraper n p = false) :
    s.applyNotice n seq (.raised (panCode p) (roleCode r)) = s.mapEntry n p fun e => { e with state := .up, role := some r } := by
  have alone : (decide (r = .scraper) && s.otherOccupying .scraper n p) = false := by
    by_cases scraper : r = .scraper
    · simp [free scraper]
    · simp [scraper]
  simp only [State.applyNotice, State.applyRaised, panOf_panCode, roleOf_roleCode, held]
  rw [if_pos claimed, if_neg (by simp only [alone, Bool.false_eq_true, not_false_eq_true])]

theorem applyRaised_other (n : Nat) (seq : Byte) (p : Pan) (e : Entry) (r : Byte) (held : s.entry n p = some e)
    (free : e.state ≠ .claimed) : s.applyNotice n seq (.raised (panCode p) r) = s := by
  simp only [State.applyNotice, State.applyRaised, panOf_panCode]
  cases role : roleOf r with
  | none => rfl
  | some r =>
    simp only [held]
    exact if_neg free

end

end Sys2Proof.Proofs
end

section
/-! SUPPORT. One pantograph field of a report (R24): the entry it makes, and what it leaves of the others. -/

namespace Sys2Proof.Proofs

open Sys2Proof Sys2Proof.Machine Sys2Proof.Laws

/-! ## Entries by their key -/

/-- Whether an entry is of a key. -/
def isKey (n : Nat) (p : Pan) (e : Entry) : Bool := e.station = n && e.pan = p

theorem isKey_iff (n : Nat) (p : Pan) (e : Entry) : isKey n p e = true ↔ e.station = n ∧ e.pan = p := by simp [isKey]

theorem isKey_self (e : Entry) : isKey e.station e.pan e = true := (isKey_iff _ _ e).mpr ⟨rfl, rfl⟩

theorem isKey_ne {n m : Nat} {p q : Pan} {e : Entry} (key : isKey n p e = true) (other : ¬ (m = n ∧ q = p)) : isKey m q e = false := by
  obtain ⟨rfl, rfl⟩ := (isKey_iff n p e).mp key
  exact Bool.eq_false_iff.mpr fun h => other ⟨((isKey_iff m q e).mp h).1.symm, ((isKey_iff m q e).mp h).2.symm⟩

theorem entry_eq (s : State) (n : Nat) (p : Pan) : s.entry n p = s.ru.roster.find? (isKey n p) := rfl

theorem entry_of_roster {s t : State} (h : t.ru.roster = s.ru.roster) (n : Nat) (p : Pan) : t.entry n p = s.entry n p := by
  rw [entry_eq, entry_eq, h]

theorem key_of_entry {s : State} {n : Nat} {p : Pan} {e : Entry} (h : s.entry n p = some e) : e.station = n ∧ e.pan = p :=
  (isKey_iff n p e).mp (List.find?_some h)

/-- A change of the roster keeps the keys. -/
def KeepsKeys (g : Entry → Entry) : Prop := ∀ e, (g e).station = e.station ∧ (g e).pan = e.pan

theorem find_map_key {g : Entry → Entry} (keeps : KeepsKeys g) (n : Nat) (p : Pan) (l : List Entry) :
    (l.map g).find? (isKey n p) = (l.find? (isKey n p)).map g := by
  rw [List.find?_map]
  have same : isKey n p ∘ g = isKey n p := by
    funext e
    obtain ⟨station, pan⟩ := keeps e
    rw [Function.comp, isKey, isKey, station, pan]
  rw [same]

theorem ClearsWindows.keepsKeys {g : Entry → Entry} {w : Entry → Prop} (h : ClearsWindows g w) : KeepsKeys g := by
  intro e
  obtain same | ⟨window, -⟩ := h e
  · rw [same]
    exact ⟨rfl, rfl⟩
  · rw [window]
    exact ⟨rfl, rfl⟩

theorem find_putEntry_self (e : Entry) (l : List Entry) : (putEntry e l).find? (isKey e.station e.pan) = some e := by
  induction l with
  | nil => exact List.find?_cons_of_pos (isKey_self e)
  | cons x rest ih =>
    rw [putEntry]
    split
    · exact List.find?_cons_of_pos (isKey_self e)
    next other =>
      split
      · exact List.find?_cons_of_pos (isKey_self e)
      · rw [List.find?_cons_of_neg (by simpa [isKey] using other)]
        exact ih

theorem find_putEntry_other (e : Entry) {n : Nat} {p : Pan} (other : ¬ (n = e.station ∧ p = e.pan)) (l : List Entry) :
    (putEntry e l).find? (isKey n p) = l.find? (isKey n p) := by
  have out {x : Entry} (key : isKey e.station e.pan x = true) : ¬ isKey n p x = true := by simp [isKey_ne key other]
  induction l with
  | nil => exact List.find?_cons_of_neg (out (isKey_self e))
  | cons x rest ih =>
    rw [putEntry]
    split
    next key => rw [List.find?_cons_of_neg (out (isKey_self e)), List.find?_cons_of_neg (out key)]
    next =>
      split
      · exact List.find?_cons_of_neg (out (isKey_self e))
      · rw [List.find?_cons, List.find?_cons, ih]

theorem find_removed_self (n : Nat) (p : Pan) (l : List Entry) : (l.filter fun e => !isKey n p e).find? (isKey n p) = none := by
  rw [List.find?_eq_none]
  intro e mem
  simpa using (List.mem_filter.mp mem).2

theorem find_removed_other {n m : Nat} {p q : Pan} (other : ¬ (m = n ∧ q = p)) (l : List Entry) :
    (l.filter fun e => !isKey n p e).find? (isKey m q) = l.find? (isKey m q) := by
  rw [List.find?_filter]
  congr 1
  funext e
  cases key : isKey n p e
  · simp
  · simp [isKey_ne key other]

/-! ## The entry of a field -/

section
variable (s : State) (n : Nat) (p : Pan) (f : PanReport)

/-- The states that carry a role (R24). -/
def roled : Bool := f.state = .claimed || f.state = .withdrawn || f.state = .up

/-- Whether a field is taken as UNKNOWN (R24). -/
def takenUnknown : Bool :=
  f.state = .unknown || (roled f && f.role = none) ||
    ((roled f || f.state = .dropping) && f.role = some .scraper && s.otherOccupying .scraper n p) ||
    (s.cu.isOpen && ((s.entry n p).any fun e => e.state = .down) && f.state = .claimed && !(f.role = some .probe && s.isProbeCandidate n p))

/-- The state a field is taken as. -/
def takenState : EntryState := if takenUnknown s n p f then .unknown else f.state

/-- The entry held, where the field's state is the one it is in. -/
def sameEntry : Option Entry := (s.entry n p).filter fun e => e.state = takenState s n p f

/-- The entry a field of a fitted pantograph makes. -/
def takenEntry : Entry :=
  ⟨n, p, f.position, f.kind, takenState s n p f, if roled f && !takenUnknown s n p f then f.role else none,
    if takenUnknown s n p f then none else (sameEntry s n p f).bind fun e => e.claimSeq, (sameEntry s n p f).any fun e => e.windowOpen⟩

/-- What a field makes of the roster. -/
def takenRoster (l : List Entry) : List Entry :=
  if f.fitted then putEntry (takenEntry s n p f) l else l.filter fun e => !isKey n p e

end

/-! ## The records that remain -/

/-- What a station's report leaves of the records, at least: every record of another station, and every record whose target no
claim shares. -/
structure ClaimsTrimmed (n : Nat) (before after : List Contest) : Prop where
  kept : ∀ c ∈ after, c ∈ before
  others : ∀ c ∈ before, c.target.station ≠ n → c ∈ after
  unclaimed : ∀ c ∈ before, (∀ d ∈ before, d.target = c.target → ∀ p, d.body ≠ .claim p) → c ∈ after

theorem ClaimsTrimmed.refl (n : Nat) (l : List Contest) : ClaimsTrimmed n l l := ⟨fun _ h => h, fun _ h _ => h, fun _ h _ => h⟩

theorem ClaimsTrimmed.trans {n : Nat} {a b c : List Contest} (first : ClaimsTrimmed n a b) (second : ClaimsTrimmed n b c) :
    ClaimsTrimmed n a c where
  kept x mem := first.kept x (second.kept x mem)
  others x mem other := second.others x (first.others x mem other) other
  unclaimed x mem free := second.unclaimed x (first.unclaimed x mem free) fun d mem => free d (first.kept d mem)

theorem ClaimsClosed.trimmed {n : Nat} {a b : List Contest} (h : ClaimsClosed n a b) : ClaimsTrimmed n a b :=
  ⟨fun c mem => (h.kept c mem).1, h.others, h.unclaimed⟩

theorem claimsTrimmed_remaining (n : Nat) (p : Pan) (l : List Contest) :
    ClaimsTrimmed n l (remaining (l.filter fun c => c.target.station = n && c.body = .claim p) l) := by
  refine ⟨fun c mem => ((mem_remaining _ _ c).mp mem).1, fun c mem other => (mem_remaining _ _ c).mpr ⟨mem, fun d closed same => ?_⟩,
    fun c mem free => (mem_remaining _ _ c).mpr ⟨mem, fun d closed same => ?_⟩⟩
  · simp only [List.mem_filter, Bool.and_eq_true, decide_eq_true_eq] at closed
    exact other (same ▸ closed.2.1)
  · simp only [List.mem_filter, Bool.and_eq_true, decide_eq_true_eq] at closed
    exact free d closed.1 same.symm p closed.2.2

/-! ## A field applied -/

/-- What a report's fields change: queue, roster and records. -/
def withEntries (s : State) (q : List QueuedNotice) (roster : List Entry) (cs : List Contest) : State :=
  { s with rlp := { s.rlp with queue := q }, ru := { s.ru with roster := roster, contests := cs } }

section
variable (s : State) (n : Nat) (p : Pan) (w : Word16)

theorem applyField_of_gone (gone : (readField w).fitted = false) : s.applyField n p w =
    (s.closeClaims n p).mapRu fun r => { r with roster := r.roster.filter fun e => !(e.station = n && e.pan = p) } := by
  unfold State.applyField
  dsimp only
  rw [if_pos (by simp [gone])]

theorem applyField_of_same (fitted : (readField w).fitted = true) {e : Entry} (held : s.entry n p = some e)
    (same : e.state = takenState s n p (readField w)) :
    s.applyField n p w = s.mapRu fun r => { r with roster := putEntry (takenEntry s n p (readField w)) r.roster } := by
  have kept : sameEntry s n p (readField w) = some e := by
    rw [sameEntry, held, Option.filter_some, if_pos (by simpa using same)]
  rw [takenEntry, kept]
  unfold State.applyField
  dsimp only
  rw [if_neg (by simp [fitted]), held]
  dsimp only
  rw [if_pos (by rw [same, takenState, takenUnknown, held]; rfl), takenState, takenUnknown, held]
  rfl

theorem applyField_of_fresh (fitted : (readField w).fitted = true) (fresh : sameEntry s n p (readField w) = none) :
    s.applyField n p w =
      (s.closeClaims n p).mapRu fun r => { r with roster := putEntry (takenEntry s n p (readField w)) r.roster } := by
  rw [takenEntry, fresh]
  unfold State.applyField
  dsimp only
  rw [if_neg (by simp [fitted])]
  cases held : s.entry n p with
  | none =>
    rw [takenState, takenUnknown, held]
    simp [roled]
  | some e =>
    have changed : e.state ≠ takenState s n p (readField w) := by
      intro same
      rw [sameEntry, held, Option.filter_some, if_pos (by simpa using same)] at fresh
      exact absurd fresh (by simp)
    dsimp only
    rw [if_neg (by rw [takenState, takenUnknown, held] at changed; exact changed), takenState, takenUnknown, held]
    simp [roled]

/-- A field applied: the roster takes its entry, with records of the entry's claim closed unless its state stays (R24). -/
theorem applyField_shape : ∃ q g cs, s.applyField n p w = withEntries s q (takenRoster s n p (readField w) (s.ru.roster.map g)) cs ∧
    (ClearsWindows g fun e => e.station = n) ∧ ClaimsTrimmed n s.ru.contests cs := by
  obtain ⟨q, g, cs, closes, clears, rest⟩ := closeClaims_shape s n p
  have narrow : ClearsWindows g fun e => e.station = n := fun e => (clears e).imp_right fun h => ⟨h.1, h.2.1⟩
  have trimmed : ClaimsTrimmed n s.ru.contests cs := rest ▸ claimsTrimmed_remaining n p _
  cases fitted : (readField w).fitted with
  | false =>
    refine ⟨q, g, cs, ?_, narrow, trimmed⟩
    rw [applyField_of_gone s n p w fitted, closes, takenRoster, if_neg (by simp [fitted])]
    rfl
  | true =>
    cases same : sameEntry s n p (readField w) with
    | none =>
      refine ⟨q, g, cs, ?_, narrow, trimmed⟩
      rw [applyField_of_fresh s n p w fitted same, closes, takenRoster, if_pos fitted]
      rfl
    | some e =>
      rw [sameEntry, Option.filter_eq_some_iff] at same
      obtain ⟨held, state⟩ := same
      refine ⟨s.rlp.queue, id, s.ru.contests, ?_, fun e => .inl rfl, .refl n _⟩
      rw [applyField_of_same s n p w fitted held (by simpa using state), takenRoster, if_pos fitted, List.map_id]
      rfl

theorem entry_applyField_self : (s.applyField n p w).entry n p =
    if (readField w).fitted then some (takenEntry s n p (readField w)) else none := by
  obtain ⟨q, g, cs, shape, -⟩ := applyField_shape s n p w
  rw [shape, entry_eq, withEntries, takenRoster]
  split
  · exact find_putEntry_self (takenEntry s n p (readField w)) _
  · exact find_removed_self n p _

/-- The entry of another key, with at most its window closed where it is of the same station. -/
theorem entry_applyField_other : ∃ g, (ClearsWindows g fun e => e.station = n) ∧
    ∀ m q, ¬ (m = n ∧ q = p) → (s.applyField n p w).entry m q = (s.entry m q).map g := by
  obtain ⟨q, g, cs, shape, clears, -⟩ := applyField_shape s n p w
  refine ⟨g, clears, fun m r other => ?_⟩
  rw [shape, entry_eq, withEntries, entry_eq, ← find_map_key clears.keepsKeys, takenRoster]
  split
  · exact find_putEntry_other (takenEntry s n p (readField w)) other _
  · exact find_removed_other other _

end

end Sys2Proof.Proofs
end

section
/-! SUPPORT. The reports of PRESENT and JOIN applied (R23 to R26, R37). -/

namespace Sys2Proof.Proofs

open Sys2Proof Sys2Proof.Machine Sys2Proof.Laws

/-! ## The entry a field makes -/

section
variable (s : State) (n : Nat) (p : Pan) (f : PanReport)

theorem roled_iff : roled f = true ↔ f.state = .claimed ∨ f.state = .withdrawn ∨ f.state = .up := by
  simp [roled, or_assoc]

theorem takenUnknown_iff : takenUnknown s n p f = true ↔ f.state = .unknown ∨ (roled f = true ∧ f.role = none) ∨
    ((roled f = true ∨ f.state = .dropping) ∧ f.role = some .scraper ∧ s.otherOccupying .scraper n p = true) ∨
    (s.cu.isOpen = true ∧ (∃ e, s.entry n p = some e ∧ e.state = .down) ∧ f.state = .claimed ∧
      ¬ (f.role = some .probe ∧ s.isProbeCandidate n p = true)) := by
  simp only [takenUnknown, Bool.or_eq_true, Bool.and_eq_true, decide_eq_true_eq, Option.any_eq_true, Bool.not_eq_true',
    Bool.and_eq_false_iff, decide_eq_false_iff_not, Classical.not_and_iff_not_or_not, Bool.not_eq_true, or_assoc, and_assoc]

theorem takenEntry_unknown (unknown : takenUnknown s n p f = true) : (takenEntry s n p f).state = .unknown ∧
    (takenEntry s n p f).role = none ∧ (takenEntry s n p f).claimSeq = none := by
  simp [takenEntry, takenState, unknown]

theorem takenEntry_known (known : takenUnknown s n p f = false) : (takenEntry s n p f).state = f.state ∧
    (takenEntry s n p f).role = (if roled f then f.role else none) ∧
    (∀ e, s.entry n p = some e → e.state = f.state →
      (takenEntry s n p f).claimSeq = e.claimSeq ∧ (takenEntry s n p f).windowOpen = e.windowOpen) ∧
    ((∀ e, s.entry n p = some e → e.state ≠ f.state) → (takenEntry s n p f).claimSeq = none ∧ (takenEntry s n p f).windowOpen = false) := by
  have state : takenState s n p f = f.state := if_neg (by simp [known])
  refine ⟨state, by simp [takenEntry, known], fun e held same => ?_, fun changed => ?_⟩
  · have kept : sameEntry s n p f = some e := by
      rw [sameEntry, state, held, Option.filter_some, if_pos (by simpa using same)]
    simp [takenEntry, known, kept]
  · have fresh : sameEntry s n p f = none := by
      rw [sameEntry, state, Option.filter_eq_none_iff]
      exact fun e held => by simpa using changed e held
    simp [takenEntry, known, fresh]

end

/-! ## Peers -/

theorem tableGet_tableSet {α : Type} (xs : List α) {n : Nat} (v : α) (first : 1 ≤ n) (last : n ≤ xs.length) :
    tableGet (tableSet xs n v) n = some v := by
  obtain ⟨k, rfl⟩ : ∃ k, n = k + 1 := ⟨n - 1, by omega⟩
  exact List.getElem?_set_self (by omega)

section
variable (s : State) (n : Nat)

/-- A state with another peer record of a station. -/
def withPeer (x : Peer) : State := { s with ru := { s.ru with peers := tableSet s.ru.peers n x } }

theorem mapPeer_eq (f : Peer → Peer) : s.mapPeer n f = withPeer s n (f (s.peer n)) := rfl

theorem peer_withPeer (x : Peer) (first : 1 ≤ n) (last : n ≤ 24) (length : s.ru.peers.length = 24) : (withPeer s n x).peer n = x := by
  have found : tableGet (withPeer s n x).ru.peers n = some x := tableGet_tableSet s.ru.peers x first (by omega)
  rw [State.peer, found]
  rfl

theorem peer_of_peers {s t : State} (h : t.ru.peers = s.ru.peers) (n : Nat) : t.peer n = s.peer n := by
  rw [State.peer, State.peer, h]

theorem applyField_peers (p : Pan) (w : Word16) : (s.applyField n p w).ru.peers = s.ru.peers ∧
    (s.applyField n p w).ru.regime = s.ru.regime := by
  obtain ⟨q, g, cs, shape, -⟩ := applyField_shape s n p w
  rw [shape]
  exact ⟨rfl, rfl⟩

theorem applyFields_peers (r : Report) : (s.applyFields n r).ru.peers = s.ru.peers ∧ (s.applyFields n r).ru.regime = s.ru.regime := by
  obtain ⟨peers₀, regime₀⟩ := applyField_peers s n .p0 r.pan0
  obtain ⟨peers₁, regime₁⟩ := applyField_peers (s.applyField n .p0 r.pan0) n .p1 r.pan1
  exact ⟨peers₁.trans peers₀, regime₁.trans regime₀⟩

theorem announcePeer_ru (before : Peer) : (s.announcePeer n before).ru = s.ru := by
  unfold State.announcePeer
  dsimp only
  split <;> rfl

/-! ## The regime settled (R37) -/

theorem flushSections_ru : s.flushSections.ru = s.ru := by
  have withdrawn (l : List SectionEntry) (v : State) : (l.foldl (fun t e => t.withdraw (isProposalFor e.key)) v).ru = v.ru := by
    induction l generalizing v with
    | nil => rfl
    | cons e rest ih => exact ih _
  exact withdrawn _ _

/-- Another regime: of the RU it changes system, band and direction alone. -/
theorem changeRegime_ru (system : Option Supply) (band : Fin 4) (direction : Direction) :
    (s.changeRegime system band direction).ru =
      { s.ru with regime := { s.ru.regime with system := system, band := band, direction := direction } } := by
  unfold State.changeRegime
  dsimp only
  split
  next same =>
    obtain ⟨rfl, rfl, rfl⟩ := same
    rfl
  · have turned (v : State) : v.flushSections.endScraper.ru = v.ru := (aside_ru (aside_endScraper _)).trans (flushSections_ru v)
    split
    · rw [aside_ru (aside_orderAllDown _ _)]
      split
      · rfl
      · exact turned _
    · split
      · rfl
      · exact turned _

theorem remaining_kind (k : ContestKind) (contests : List Contest) :
    remaining (contests.filter fun c => c.target.kind = k) contests = contests.filter fun c => c.target.kind != k := by
  refine List.filter_congr fun c mem => ?_
  rw [Bool.eq_iff_iff]
  simp only [List.all_eq_true, List.mem_filter, decide_eq_true_eq, bne_iff_ne, ne_eq]
  exact ⟨fun h kind => h c ⟨mem, kind⟩ rfl, fun h d ⟨_, kind⟩ same => h (same ▸ kind)⟩

/-- The regime settled by a report: its values, and its records closed with no undo. -/
theorem settleRegime_ru (r : Report) : ∃ g, (s.settleRegime r).ru = { s.ru with
      roster := s.ru.roster.map g, contests := s.ru.contests.filter fun c => c.target.kind != .regime
      regime := { s.ru.regime with
        system := byteSystem r.regime, band := byteBand r.regime, direction := byteDirection r.regime, settled := true } } ∧
    ClearsWindows g fun e => ∃ c ∈ s.ru.contests, decide (c.target.kind = .regime) = true ∧ ClearedBy s.ru.contests c.target e := by
  obtain ⟨q, g, closes, clears⟩ := closeContests_shape s fun c => c.target.kind = .regime
  refine ⟨g, ?_, clears⟩
  have rewritten (v : State) : v.rewriteSections.ru = v.ru := rfl
  rw [State.settleRegime]
  dsimp only
  rw [rewritten, changeRegime_ru, closes, remaining_kind]
  rfl

end

end Sys2Proof.Proofs
end

section
/-! SUPPORT. The reports of PRESENT and JOIN at the roster unit (R23 to R26, R37), and the notices of the roster settled. -/

namespace Sys2Proof.Proofs

open Sys2Proof Sys2Proof.Machine Sys2Proof.Laws

section
variable (s : State) (n : Nat) (present : Bool) (r : Report)

/-- The peer record of a report's sender (R23, R25). -/
def reportedPeer : Peer :=
  { s.peer n with
    status := if r.fingerprint = s.sc.fingerprint then .live else .foreign, doubtful := false
    fingerprint := some r.fingerprint, regimeByte := some r.regime, heatUnits := some (r.heatFault.toNat / 16)
    roundByte := some r.round, faults := nibbleGroups (r.heatFault.toNat % 16), dropClear := none
    silence := if r.fingerprint = s.sc.fingerprint then some (s.now + 3 * s.presenceInterval) else none }

/-- The fields of a report taken behind the sender's peer record. -/
def fieldsTaken : State := (withPeer s n (reportedPeer s n r)).applyFields n r

theorem applyPeerReport_foreign (other : r.fingerprint ≠ s.sc.fingerprint) :
    (s.applyPeerReport n present r).ru = ((fieldsTaken s n r).loseEntries n).ru := by
  have peer : reportedPeer s n r = { (s.peer n).store .foreign r with silence := none } := by
    simp only [reportedPeer, if_neg other, Peer.store]
  unfold State.applyPeerReport
  dsimp only
  rw [if_neg other, announcePeer_ru, mapPeer_eq, fieldsTaken, peer]

theorem applyPeerReport_live (same : r.fingerprint = s.sc.fingerprint) : ∃ u : State, u.ru = (fieldsTaken s n r).ru ∧
    s.applyPeerReport n present r = if present && !s.ru.regime.settled then u.settleRegime r else u := by
  have peer : reportedPeer s n r = { (s.peer n).store .live r with silence := s.timerFor (3 * s.presenceInterval) } := by
    simp only [reportedPeer, if_pos same, Peer.store]
    rfl
  refine ⟨_, ?_, if_pos same⟩
  rw [announcePeer_ru, mapPeer_eq, fieldsTaken, peer]

theorem applyPeerReport_plain (same : r.fingerprint = s.sc.fingerprint) (plain : s.ru.regime.settled = true ∨ present = false) :
    (s.applyPeerReport n present r).ru = (fieldsTaken s n r).ru := by
  obtain ⟨u, ru, reports⟩ := applyPeerReport_live s n present r same
  rw [reports, if_neg (by obtain h | h := plain <;> simp [h]), ru]

/-- The first PRESENT under the own fingerprint settles the regime (R37). -/
theorem applyPeerReport_settles (same : r.fingerprint = s.sc.fingerprint) (unsettled : s.ru.regime.settled = false) :
    ∃ g, (s.applyPeerReport n true r).ru = { (fieldsTaken s n r).ru with
        roster := (fieldsTaken s n r).ru.roster.map g
        contests := (fieldsTaken s n r).ru.contests.filter fun c => c.target.kind != .regime
        regime := { (fieldsTaken s n r).ru.regime with
          system := byteSystem r.regime, band := byteBand r.regime, direction := byteDirection r.regime, settled := true } } ∧
      ClearsWindows g fun e => ∃ c ∈ (fieldsTaken s n r).ru.contests, decide (c.target.kind = .regime) = true ∧
        ClearedBy (fieldsTaken s n r).ru.contests c.target e := by
  obtain ⟨u, ru, reports⟩ := applyPeerReport_live s n true r same
  obtain ⟨g, settles, clears⟩ := settleRegime_ru u r
  rw [reports, if_pos (by simp [unsettled]), ← ru]
  exact ⟨g, settles, clears⟩

theorem fieldsTaken_peers : (fieldsTaken s n r).ru.peers = (withPeer s n (reportedPeer s n r)).ru.peers ∧
    (fieldsTaken s n r).ru.regime = s.ru.regime := applyFields_peers _ n r

theorem applyPeerReport_peers : (s.applyPeerReport n present r).ru.peers = (withPeer s n (reportedPeer s n r)).ru.peers := by
  obtain ⟨peers, -⟩ := fieldsTaken_peers s n r
  by_cases same : r.fingerprint = s.sc.fingerprint
  · by_cases plain : s.ru.regime.settled = true ∨ present = false
    · rw [applyPeerReport_plain s n present r same plain, peers]
    · obtain ⟨unsettled, rfl⟩ : s.ru.regime.settled = false ∧ present = true := by simpa using plain
      obtain ⟨g, settles, -⟩ := applyPeerReport_settles s n r same unsettled
      rw [settles, ← peers]
  · obtain ⟨q, cs, loses, -⟩ := loseEntries_shape (fieldsTaken s n r) n
    rw [applyPeerReport_foreign s n present r same, loses, ← peers]

theorem applyPeerReport_peer (first : 1 ≤ n) (last : n ≤ 24) (length : s.ru.peers.length = 24) :
    (s.applyPeerReport n present r).peer n = reportedPeer s n r :=
  (peer_of_peers (applyPeerReport_peers s n present r) n).trans (peer_withPeer s n _ first last length)

theorem applyPeerReport_regime (plain : r.fingerprint ≠ s.sc.fingerprint ∨ present = false ∨ s.ru.regime.settled = true) :
    (s.applyPeerReport n present r).ru.regime = s.ru.regime := by
  obtain ⟨-, regime⟩ := fieldsTaken_peers s n r
  by_cases same : r.fingerprint = s.sc.fingerprint
  · rw [applyPeerReport_plain s n present r same (plain.resolve_left (· same)).symm, regime]
  · obtain ⟨q, cs, loses, -⟩ := loseEntries_shape (fieldsTaken s n r) n
    rw [applyPeerReport_foreign s n present r same, loses, ← regime]

/-! ## The entries of a FOREIGN report (R25) -/

theorem fieldsTaken_trimmed : ClaimsTrimmed n s.ru.contests (fieldsTaken s n r).ru.contests := by
  obtain ⟨q₀, g₀, cs₀, shape₀, -, trimmed₀⟩ := applyField_shape (withPeer s n (reportedPeer s n r)) n .p0 r.pan0
  obtain ⟨q₁, g₁, cs₁, shape₁, -, trimmed₁⟩ :=
    applyField_shape ((withPeer s n (reportedPeer s n r)).applyField n .p0 r.pan0) n .p1 r.pan1
  have contests : (fieldsTaken s n r).ru.contests = cs₁ := by
    rw [fieldsTaken, State.applyFields, shape₁]
    rfl
  rw [shape₀] at trimmed₁
  rw [contests]
  exact trimmed₀.trans trimmed₁

theorem fieldsTaken_entry_other {m : Nat} (other : m ≠ n) (p : Pan) : (fieldsTaken s n r).entry m p = s.entry m p := by
  have still {g : Entry → Entry} (clears : ClearsWindows g fun e => e.station = n) (t : State) :
      (t.entry m p).map g = t.entry m p := by
    cases held : t.entry m p with
    | none => rfl
    | some e =>
      obtain ⟨station, -⟩ := key_of_entry held
      obtain same | ⟨-, there⟩ := clears e
      · rw [Option.map_some, same]
      · exact absurd (station.symm.trans there) other
  obtain ⟨g₀, clears₀, entry₀⟩ := entry_applyField_other (withPeer s n (reportedPeer s n r)) n .p0 r.pan0
  obtain ⟨g₁, clears₁, entry₁⟩ := entry_applyField_other ((withPeer s n (reportedPeer s n r)).applyField n .p0 r.pan0) n .p1 r.pan1
  rw [fieldsTaken, State.applyFields, entry₁ m p (fun h => other h.1), still clears₁, entry₀ m p (fun h => other h.1), still clears₀]
  rfl

/-- The field of a pantograph in a report. -/
def fieldOf (p : Pan) : Word16 := match p with | .p0 => r.pan0 | .p1 => r.pan1

/-- An entry a report's field makes, whatever it takes the state as. -/
def OfField (p : Pan) (e : Entry) : Prop :=
  e.station = n ∧ e.pan = p ∧ e.position = (readField (fieldOf r p)).position ∧ e.kind = (readField (fieldOf r p)).kind

theorem fieldsTaken_entry (p : Pan) : if (readField (fieldOf r p)).fitted then ∃ e, (fieldsTaken s n r).entry n p = some e ∧ OfField n r p e
    else (fieldsTaken s n r).entry n p = none := by
  cases p with
  | p0 =>
    obtain ⟨g, clears, entry⟩ := entry_applyField_other ((withPeer s n (reportedPeer s n r)).applyField n .p0 r.pan0) n .p1 r.pan1
    rw [fieldsTaken, State.applyFields, entry n .p0 (by simp), entry_applyField_self, fieldOf]
    split
    · refine ⟨_, rfl, ?_⟩
      obtain same | ⟨window, -⟩ := clears (takenEntry (withPeer s n (reportedPeer s n r)) n .p0 (readField r.pan0))
      · rw [same]
        exact ⟨rfl, rfl, rfl, rfl⟩
      · rw [window]
        exact ⟨rfl, rfl, rfl, rfl⟩
    · rfl
  | p1 =>
    rw [fieldsTaken, State.applyFields, entry_applyField_self, fieldOf]
    split
    · exact ⟨_, rfl, rfl, rfl, rfl, rfl⟩
    · rfl

theorem entry_lost (t : State) (m : Nat) (p : Pan) :
    (t.loseEntries n).entry m p = (t.entry m p).map fun e => if e.station = n then e.cleared .unknown else e := by
  obtain ⟨q, cs, loses, -⟩ := loseEntries_shape t n
  have keeps : KeepsKeys fun e => if e.station = n then e.cleared .unknown else e := by
    intro e
    dsimp only
    split <;> exact ⟨rfl, rfl⟩
  rw [entry_eq, entry_eq, ← find_map_key keeps, loses]

/-- What a FOREIGN report leaves of roster and records (R25). -/
theorem applyPeerReport_foreign_spec (other : r.fingerprint ≠ s.sc.fingerprint) :
    (∀ p, (s.applyPeerReport n present r).entry n p = if (readField (fieldOf r p)).fitted then
      some ⟨n, p, (readField (fieldOf r p)).position, (readField (fieldOf r p)).kind, .unknown, none, none, false⟩ else none) ∧
    (∀ m p, m ≠ n → (s.applyPeerReport n present r).entry m p = s.entry m p) ∧
    ClaimsTrimmed n s.ru.contests (s.applyPeerReport n present r).ru.contests ∧
    ∀ c ∈ (s.applyPeerReport n present r).ru.contests, c.target.station = n → ∀ p, c.body ≠ .claim p := by
  have ru := applyPeerReport_foreign s n present r other
  have entry (m : Nat) (p : Pan) : (s.applyPeerReport n present r).entry m p =
      ((fieldsTaken s n r).entry m p).map fun e => if e.station = n then e.cleared .unknown else e :=
    (entry_of_roster (congrArg Ru.roster ru) m p).trans (entry_lost n _ m p)
  obtain ⟨q, cs, loses, closed⟩ := loseEntries_shape (fieldsTaken s n r) n
  refine ⟨fun p => ?_, fun m p apart => ?_, ?_⟩
  · have taken := fieldsTaken_entry s n r p
    rw [entry]
    split at taken
    next fitted =>
      obtain ⟨e, held, rfl, rfl, position, kind⟩ := taken
      rw [held, if_pos fitted, ← position, ← kind, Option.map_some, if_pos rfl]
      rfl
    next gone =>
      rw [taken, if_neg gone]
      rfl
  · rw [entry, fieldsTaken_entry_other s n r apart]
    cases held : s.entry m p with
    | none => rfl
    | some e =>
      obtain ⟨station, -⟩ := key_of_entry held
      rw [Option.map_some, if_neg (by omega)]
  · rw [ru, loses]
    exact ⟨(fieldsTaken_trimmed s n r).trans closed.trimmed, fun c mem => (closed.kept c mem).2⟩

/-- What the first PRESENT under the own fingerprint makes of regime, records and roster (R37). -/
theorem applyPeerReport_settles_spec (same : r.fingerprint = s.sc.fingerprint) (unsettled : s.ru.regime.settled = false) :
    (s.applyPeerReport n true r).ru.regime = { s.ru.regime with
      system := byteSystem r.regime, band := byteBand r.regime, direction := byteDirection r.regime, settled := true } ∧
    (s.applyPeerReport n true r).ru.contests = (fieldsTaken s n r).ru.contests.filter (fun c => c.target.kind != .regime) ∧
    ((∀ c ∈ s.ru.contests, c.target.kind = .regime → ∀ p, c.body ≠ .claim p) →
      (s.applyPeerReport n true r).ru.roster = (fieldsTaken s n r).ru.roster) := by
  obtain ⟨-, regime⟩ := fieldsTaken_peers s n r
  obtain ⟨g, settles, clears⟩ := applyPeerReport_settles s n r same unsettled
  rw [settles, ← regime]
  refine ⟨rfl, rfl, fun apart => (List.map_congr_left fun e _ => ?_).trans (List.map_id _)⟩
  obtain same | ⟨-, c, -, kind, d, mem, target, claim, -⟩ := clears e
  · exact same
  · exact absurd claim (apart d ((fieldsTaken_trimmed s n r).kept d mem) (by rw [target]; simpa using kind) e.pan)

/-! ## The report at the other units (R145, R154, R163) -/

theorem applyReport_other (other : n ≠ s.own) (first : 1 ≤ n) (last : n ≤ 24) (length : s.ru.peers.length = 24) (x : State)
    (taken : x = ((s.applyPeerReport n present r).followUsable.takeRoundByte n present r.round (byteSystem r.regime)).mapIu
      fun i => { i with table := tableSet i.table n (some (byteIce r.regime)) }) :
    s.applyReport n present r = if r.fingerprint = s.sc.fingerprint then x.setGrant n (r.heatFault.toNat / 16) else x := by
  have status : ((s.applyPeerReport n present r).followUsable.peer n).status =
      if r.fingerprint = s.sc.fingerprint then .live else .foreign := by
    rw [peer_of_peers (peers_of_base _ (base_followUsable _)), applyPeerReport_peer s n present r first last length]
    rfl
  subst taken
  unfold State.applyReport
  dsimp only
  rw [if_neg other, if_neg other, status]
  split <;> simp

/-- The own report: the own record LIVE, with the report's bytes (R26). -/
theorem applyOwnReport_peer (first : 1 ≤ s.own) (last : s.own ≤ 24) (length : s.ru.peers.length = 24) :
    (s.applyOwnReport r).peer s.own = { (s.peer s.own).store .live r with silence := none } :=
  (peer_of_peers (applyFields_peers _ s.own r).1 s.own).trans (peer_withPeer s s.own _ first last length)

end

/-! ## The roster's notices -/

theorem reports_apply (s : State) (n : Nat) (seq : Byte) (r : Report) (present : Bool) :
    s.applyNotice n seq (if present then .present r else .join r) = s.applyReport n present r := by
  cases present <;> rfl

/-- Settles O22. -/
theorem yieldDropAndRaisedChangeTheEntry : Obligations.YieldDropAndRaisedChangeTheEntry := by
  unfold Obligations.YieldDropAndRaisedChangeTheEntry
  refine ⟨fun s n seq p one => ⟨?_, ?_, ?_, fun e r held claimed free => ?_, fun e r held free => ?_⟩,
    fun s n seq r present first last other length => ?_, fun s n p w => ⟨fun gone => ?_, fun fitted => ?_⟩,
    fun s r first last length => ?_⟩
  · rw [applyYield_eq]
    exact clearEntry_spec s n p .down one
  · rw [applyDrop_dropping]
    exact clearEntry_spec s n p .dropping one
  · rw [applyDrop_blocked]
    exact clearEntry_spec s n p .blocked one
  · rw [applyRaised_claimed s n seq p e r held claimed free]
    rfl
  · exact applyRaised_other s n seq p e r held free
  · have peer := applyPeerReport_peer s n present r first last length
    have whole := applyReport_other s n present r other first last length _ rfl
    intro t same
    have view : ({ s with ru := { s.ru with peers := tableSet s.ru.peers n (t.peer n) } } : State) =
        withPeer s n (reportedPeer s n r) := by rw [peer]; rfl
    refine ⟨⟨fun live => ?_, fun foreign => ?_⟩, peer, fun live plain => ?_, fun foreign => ?_,
      fun plain => applyPeerReport_regime s n present r ?_, fun live asked unsettled => ?_⟩
    · rw [reports_apply, whole, if_pos live]
      rfl
    · rw [reports_apply, whole, if_neg foreign]
      rfl
    · rw [view]
      exact congrArg Ru.roster (applyPeerReport_plain s n present r live plain)
    · obtain ⟨own, apart, trimmed, closed⟩ := applyPeerReport_foreign_spec s n present r foreign
      exact ⟨fun p => own p, apart, fun c mem => ⟨trimmed.kept c mem, closed c mem⟩, trimmed.others, trimmed.unclaimed⟩
    · exact plain
    · subst asked
      rw [view]
      exact applyPeerReport_settles_spec s n r live unsettled
  · exact (entry_applyField_self s n p w).trans (if_neg (by simp [gone]))
  · refine ⟨takenEntry s n p (readField w), (entry_applyField_self s n p w).trans (if_pos fitted), rfl, rfl, fun unknown => ?_,
      fun known => ?_⟩
    · rw [← roled_iff] at unknown
      exact takenEntry_unknown s n p _ ((takenUnknown_iff s n p _).mpr unknown)
    · rw [← roled_iff] at known ⊢
      obtain ⟨state, role, kept, fresh⟩ := takenEntry_known s n p (readField w)
        (eq_false_of_ne_true fun h => known ((takenUnknown_iff s n p _).mp h))
      exact ⟨state, fun h => role.trans (if_pos h), fun h => role.trans (if_neg h), kept, fresh⟩
  · have peer := applyOwnReport_peer s r first last length
    intro t v
    exact ⟨congrArg Peer.status peer, congrArg Peer.silence peer, congrArg Peer.fingerprint peer, by
      simp only [v, t, peer]
      rfl⟩

end Sys2Proof.Proofs
end

section
/-! SUPPORT. CLAIM and its OBJECT (R31, R32, R40, R45). -/

namespace Sys2Proof.Proofs

open Sys2Proof Sys2Proof.Machine Sys2Proof.Laws

/-! ## The tables of reasons (R45, R47, R48) -/

theorem firstReason_nil : firstReason [] = none := rfl

theorem firstReason_cons (x : ObjectReason) (b : Bool) (rest : List (ObjectReason × Bool)) :
    firstReason ((x, b) :: rest) = if b = true then some x else firstReason rest := by
  rw [firstReason, List.find?_cons]
  cases b <;> rfl

/-- Two tables alike in a row, and in the rows behind it. -/
theorem reason_congr {b c : Prop} [Decidable b] [Decidable c] {x y z : Option ObjectReason} (same : b ↔ c) (rest : y = z) :
    (if b then x else y) = if c then x else z := by
  rw [rest]
  exact ite_congr (propext same) (fun _ => rfl) fun _ => rfl

theorem within_iff (a b d : Nat) : within a b d = true ↔ a < b + d ∧ b < a + d := by
  rw [within, decide_eq_true_eq]
  omega

/-! ## The evaluation of a CLAIM -/

section
variable (s : State) (n : Nat)

theorem contestFree_iff : s.contestFree = true ↔ s.ru.contests.length < 8 := decide_eq_true_iff

theorem collectorLimit_eq (band : Fin 4) : s.collectorLimit band =
    if s.ru.regime.system = some .ac25 ∨ s.ru.regime.system = some .ac15 then min (s.cmax band) 2 else s.cmax band := by
  unfold State.collectorLimit
  split <;> simp_all

theorem evaluateClaim_none (r : Role) : s.evaluateClaim n none (some r) =
    if s.contestFree = false then some .notReady else if s.foreign n = true then some .foreign else some .state := by
  simp only [State.evaluateClaim, firstReason_cons]
  cases s.contestFree <;> rfl

/-- Occupying, and not in role SCRAPER (R46). -/
def onWire (x : Entry) : Bool := x.occupying && x.role != some .scraper

/-- Occupying, and not the entry of the CLAIM (R45). -/
def beside (c x : Entry) : Bool := x.occupying && !(x.station = c.station && x.pan = c.pan)

/-- One entry far enough ahead of another for a scraper (R46). -/
def clearAhead (x y : Entry) : Bool := s.distance x.position + s.scraperGap ≤ s.distance y.position

/-- Two entries nearer than a distance. -/
def near (x y : Entry) (d : Nat) : Bool := x.position < y.position + d && y.position < x.position + d

/-- R45's table for the CLAIM of an entry held, in the order of its rows. -/
def claimReason (c : Entry) (r : Role) : Option ObjectReason :=
  if s.contestFree = false then some .notReady else if s.foreign n then some .foreign else if c.state ≠ .down then some .state
  else if (s.cu.isOpen && r != .probe) || (r = .probe && (!s.cu.isOpen || !s.isProbeCandidate c.station c.pan ||
    !s.readyComplete || s.ru.roster.any (beside c))) then some .round
  else if (if r = .probe then !(s.cu.target.any fun x => serves c.kind x) else !(s.ru.regime.system.any fun x => serves c.kind x)) then
    some .system
  else if r = .collector ∧ (if s.ru.regime.system = some .ac25 ∨ s.ru.regime.system = some .ac15 then
    min (s.cmax s.ru.regime.band) 2 else s.cmax s.ru.regime.band) < s.ru.roster.countP onWire + 1 then some .count
  else if r = .collector ∧ ((s.ru.roster.any fun x => onWire x && near x c (s.smin s.ru.regime.band)) ||
    s.ru.roster.any fun x => beside c x && x.role = some .scraper && !clearAhead s x c) then some .spacing
  else if r = .scraper ∧ (s.ru.regime.ice ≠ .scrape ∨ (s.ru.roster.any fun x => x.occupying && x.role = some .scraper) ∨
    (s.ru.roster.any fun x => onWire x && !clearAhead s c x) ∨
    ¬ (s.scraperCandidate.any fun x => x.station = c.station && x.pan = c.pan)) then some .scraper
  else none

theorem within_eq_near (x y : Entry) (d : Nat) : within x.position y.position d = near x y d := by
  rw [Bool.eq_iff_iff, within_iff, near, Bool.and_eq_true, decide_eq_true_eq, decide_eq_true_eq]

theorem any_nonScrapers (f : Entry → Bool) : s.nonScrapers.any f = s.ru.roster.any fun x => onWire x && f x := List.any_filter

theorem all_nonScrapers (f : Entry → Bool) : (!s.nonScrapers.all f) = s.ru.roster.any fun x => onWire x && !f x := by
  rw [← any_nonScrapers, List.not_all_eq_any_not]

theorem collectorCount_eq : s.collectorCount = s.ru.roster.countP onWire := rfl

theorem occupyingRole_eq (r : Role) : s.occupyingRole r = s.ru.roster.any fun x => x.occupying && x.role = some r := rfl

theorem clearAhead_eq (x y : Entry) : s.aheadBy x y s.scraperGap = clearAhead s x y := rfl

theorem any_others (c : Entry) (f : Entry → Bool) : ((s.ru.roster.filter (beside c)).any f) = s.ru.roster.any fun x => beside c x && f x :=
  List.any_filter

theorem others_isEmpty (c : Entry) : (!(s.ru.roster.filter (beside c)).isEmpty) = s.ru.roster.any (beside c) := by
  rw [Bool.eq_iff_iff]
  simp

theorem evaluateClaim_some (c : Entry) (r : Role) : s.evaluateClaim n (some c) (some r) = claimReason s n c r := by
  have beside' : (fun e : Entry => e.occupying && !(e.station = c.station && e.pan = c.pan)) = beside c := rfl
  simp only [State.evaluateClaim, firstReason_cons, firstReason_nil, any_nonScrapers, all_nonScrapers, within_eq_near,
    collectorCount_eq, collectorLimit_eq, occupyingRole_eq, clearAhead_eq, beside', any_others, others_isEmpty, claimReason]
  refine reason_congr (by simp) (reason_congr Iff.rfl (reason_congr (by simp) (reason_congr Iff.rfl (reason_congr ?_
    (reason_congr (by simp) (reason_congr (by simp [and_assoc]) (reason_congr (by simp [or_assoc]) rfl)))))))
  split <;> rfl

/-! ## A CLAIM applied -/

section
variable (seq : Byte) (p : Pan) (r : Role)

/-- Whether a CLAIM takes its entry (R31). -/
def claimTakes (c : Entry) : Bool :=
  c.state = .down && s.contestFree && !(s.cu.isOpen && !(r = .probe && s.isProbeCandidate n p)) &&
    !(r = .scraper && s.otherOccupying .scraper n p)

/-- The entry CLAIMED, and the CLAIM's record opened (R31, R39). -/
def claimTaken : State :=
  (s.mapEntry n p fun e => { e with state := .claimed, role := some r, claimSeq := some seq, windowOpen := true }).openContest
    ⟨n, seq, .claim⟩ (.claim p)

/-- What follows a CLAIM's effect: the OBJECT of the reason found, and at the claimant its echo (R40, R59). -/
def claimAnswered (t : State) (reason : Option ObjectReason) : State :=
  if n = s.own then (t.object ⟨n, seq, .claim⟩ reason).claimEcho p seq reason else t.object ⟨n, seq, .claim⟩ reason

theorem applyClaim_unheld (held : s.entry n p = none) : s.applyNotice n seq (.claim (panCode p) (roleCode r)) =
    claimAnswered s n seq p s (s.judged (s.evaluateClaim n none (some r))) := by
  simp only [State.applyNotice, State.applyClaim, panOf_panCode, roleOf_roleCode, Option.bind_some, held]
  rfl

theorem applyClaim_held (c : Entry) (held : s.entry n p = some c) : s.applyNotice n seq (.claim (panCode p) (roleCode r)) =
    claimAnswered s n seq p (if claimTakes s n p r c then claimTaken s n seq p r else s) (s.judged (claimReason s n c r)) := by
  rw [← evaluateClaim_some]
  simp only [State.applyNotice, State.applyClaim, panOf_panCode, roleOf_roleCode, Option.bind_some, held]
  rfl

theorem object_eq (t : State) (k : ContestKind) (x : Option ObjectReason) : t.object ⟨n, seq, k⟩ x =
    match x with
    | some why => t.send (.object (BitVec.ofNat 8 n) seq (contestKindCode k) (objectReasonCode why))
    | none => t := by
  cases x <;> rfl

theorem base_object (t : State) (target : Target) (x : Option ObjectReason) : (t.object target x).base = t.base := by
  cases x with
  | none => rfl
  | some reason => exact base_send _ _

/-- Another station's CLAIM changes of the base what its effect changes. -/
theorem base_claimAnswered (other : n ≠ s.own) (t : State) (reason : Option ObjectReason) :
    (claimAnswered s n seq p t reason).base = t.base := by
  rw [claimAnswered, if_neg other, base_object]

theorem claimTakes_of_free (c : Entry) (down : c.state = .down) (free : s.ru.contests.length < 8) (closed : s.cu.isOpen = false)
    (alone : r = .scraper → s.otherOccupying .scraper n p = false) : claimTakes s n p r c = true := by
  have free' : s.contestFree = true := (contestFree_iff s).mpr free
  by_cases scraper : r = .scraper
  · simp [claimTakes, down, free', closed, alone scraper]
  · simp [claimTakes, down, free', closed, scraper]

theorem claimTakes_of_barred (c : Entry) (barred : c.state ≠ .down ∨ 8 ≤ s.ru.contests.length) : claimTakes s n p r c = false := by
  obtain up | full := barred
  · simp [claimTakes, up]
  · have full' : s.contestFree = false := eq_false_of_ne_true fun h => absurd ((contestFree_iff s).mp h) (by omega)
    simp [claimTakes, full']

end

/-! ## An OBJECT against a CLAIM -/

section
variable (seq reason : Byte)

theorem withdraw_objects (small : n < 256) (k : ContestKind) : (s.withdraw fun q =>
      match q.notice with
      | .object a b c _ => a = BitVec.ofNat 8 n && b = seq && c = contestKindCode k
      | _ => false) = s.withdrawObjects ⟨n, seq, k⟩ := by
  unfold State.withdrawObjects
  congr 1
  funext q
  have station (a : Byte) : a = BitVec.ofNat 8 n ↔ a.toNat = n := by
    rw [← BitVec.toNat_inj, BitVec.toNat_ofNat, Nat.mod_eq_of_lt small]
  cases notice : q.notice <;> simp [objectsTo, station]

theorem contestKindOf_code (k : ContestKind) : contestKindOf (contestKindCode k) = some k := by cases k <;> decide

theorem applyObject_claim (by' : Nat) (q : Byte) (small : n < 256) :
    s.applyNotice by' q (.object (BitVec.ofNat 8 n) seq 0x10 reason) =
      (s.withdrawObjects ⟨n, seq, .claim⟩).objectClaim ⟨n, seq, .claim⟩ reason := by
  have station : (BitVec.ofNat 8 n).toNat = n := by rw [BitVec.toNat_ofNat, Nat.mod_eq_of_lt small]
  have kind : contestKindOf 0x10 = some .claim := by decide
  rw [← withdraw_objects s n seq small]
  simp only [State.applyNotice, State.applyObject, kind, station]
  rfl

theorem withdrawn_of_objects (target : Target) {x : QueuedNotice} (mem : x ∈ (s.withdrawObjects target).rlp.queue)
    (objects : objectsTo target x.notice = true) : x.inAttempt = true ∧ x.withdrawn = true := by
  obtain ⟨y, kept, rfl⟩ := List.mem_map.mp mem
  obtain ⟨-, stays⟩ := List.mem_filter.mp kept
  by_cases same : objectsTo target y.notice = true
  · rw [if_pos same]
    exact ⟨by simpa [same] using stays, rfl⟩
  · rw [if_neg same] at objects
    exact absurd objects same

theorem base_refusedRole (role : Option Role) : (s.refusedRole role).base = s.base := by
  unfold State.refusedRole
  split
  · split
    · exact base_mapIu s _ fun _ => ⟨rfl, rfl, rfl, rfl, rfl, rfl⟩
    · rfl
  · split <;> rfl
  · rfl

theorem base_refuseStanding (p : Pan) : (s.refuseStanding p reason).base = s.base := by
  have bare (t : State) (b : Bool) :
      (t.mapPd p fun d => { d with raiseRequest := d.raiseRequest && b }).base = t.base := base_mapPd t p _ fun _ => ⟨rfl, rfl⟩
  rw [State.refuseStanding, base_refusedRole, base_yieldClaim, bare, base_raiseEvent]

theorem base_refuse (p : Pan) : (s.refuse p seq reason).base = s.base := by
  unfold State.refuse
  dsimp only
  split
  · split
    · exact base_refuseStanding s reason p
    · rw [base_refusedRole, base_orderDown, base_raiseEvent]
    · rw [base_refusedRole, base_orderDown, base_raiseEvent]
    · rfl
  · rfl

/-- The entry WITHDRAWN, and its record's objected flag set (R32). -/
def claimWithdrawn (e : Entry) (target : Target) : State :=
  (s.mapEntry e.station e.pan fun x => { x with state := .withdrawn }).markObjected target

theorem objectClaim_claimed (target : Target) (e : Entry) (held : s.claimEntry target.station target.seq = some e)
    (claimed : e.state = .claimed) : s.objectClaim target reason =
      if target.station = s.own then ((claimWithdrawn s e target).refuse e.pan target.seq reason).claimFollows e.pan
      else claimWithdrawn s e target := by
  simp only [State.objectClaim, held]
  exact if_pos claimed

theorem objectClaim_other (target : Target) (free : ∀ e, s.claimEntry target.station target.seq = some e → e.state ≠ .claimed) :
    s.objectClaim target reason = s := by
  unfold State.objectClaim
  cases held : s.claimEntry target.station target.seq with
  | none => rfl
  | some e => exact if_neg (free e held)

theorem base_objectClaim (target : Target) (e : Entry) (held : s.claimEntry target.station target.seq = some e)
    (claimed : e.state = .claimed) : (s.objectClaim target reason).base = (claimWithdrawn s e target).base := by
  rw [objectClaim_claimed s reason target e held claimed]
  split
  · rw [base_claimFollows, base_refuse]
  · rfl

/-- At another station the port keeps what the withdrawal has left of the queue (R32). -/
theorem objectClaim_rlp (target : Target) (other : target.station ≠ s.own) : (s.objectClaim target reason).rlp = s.rlp := by
  by_cases claimed : ∃ e, s.claimEntry target.station target.seq = some e ∧ e.state = .claimed
  · obtain ⟨e, held, claimed⟩ := claimed
    rw [objectClaim_claimed s reason target e held claimed, if_neg other]
    rfl
  · rw [objectClaim_other s reason target fun e held state => claimed ⟨e, held, state⟩]

end

end

/-! ## The contest of a claim -/

/-- Settles O23. -/
theorem claimMakesADownEntryClaimed : Obligations.ClaimMakesADownEntryClaimed := by
  unfold Obligations.ClaimMakesADownEntryClaimed
  refine ⟨fun s n seq p r e other held => ⟨fun down free closed alone => ?_, fun barred => ?_⟩,
    fun s by' n q seq reason small => ⟨fun x mem objects => withdrawn_of_objects s _ mem objects, fun other => ?_,
      fun e held claimed => ⟨?_, ?_, fun own => ⟨claimWithdrawn (s.withdrawObjects ⟨n, seq, .claim⟩) e ⟨n, seq, .claim⟩, ?_, rfl, ?_⟩⟩,
      fun free => ?_⟩,
    fun s n seq p r => ⟨fun held => ?_, fun c held => ?_⟩,
    fun s x transmits free place => ?_⟩
  · have base := base_claimAnswered s n seq p other (claimTaken s n seq p r) (s.judged (claimReason s n e r))
    rw [applyClaim_held s n seq p r e held, if_pos (claimTakes_of_free s n p r e down free closed alone), roster_of_base _ base,
      contests_of_base _ base]
    exact ⟨rfl, rfl⟩
  · have base := base_claimAnswered s n seq p other s (s.judged (claimReason s n e r))
    rw [applyClaim_held s n seq p r e held, if_neg (by simp [claimTakes_of_barred s n p r e barred]), roster_of_base _ base,
      contests_of_base _ base]
    exact ⟨rfl, rfl⟩
  · rw [applyObject_claim s n seq reason by' q small]
    exact objectClaim_rlp _ reason ⟨n, seq, .claim⟩ other
  · rw [applyObject_claim s n seq reason by' q small,
      roster_of_base _ (base_objectClaim (s.withdrawObjects ⟨n, seq, .claim⟩) reason ⟨n, seq, .claim⟩ e held claimed)]
    rfl
  · rw [applyObject_claim s n seq reason by' q small,
      contests_of_base _ (base_objectClaim (s.withdrawObjects ⟨n, seq, .claim⟩) reason ⟨n, seq, .claim⟩ e held claimed)]
    rfl
  · rw [applyObject_claim s n seq reason by' q small,
      roster_of_base _ (base_objectClaim (s.withdrawObjects ⟨n, seq, .claim⟩) reason ⟨n, seq, .claim⟩ e held claimed)]
  · rw [applyObject_claim s n seq reason by' q small]
    exact (objectClaim_claimed (s.withdrawObjects ⟨n, seq, .claim⟩) reason ⟨n, seq, .claim⟩ e held claimed).trans (if_pos own)
  · rw [applyObject_claim s n seq reason by' q small]
    exact objectClaim_other _ reason ⟨n, seq, .claim⟩ free
  · rw [applyClaim_unheld s n seq p r held, evaluateClaim_none, claimAnswered, object_eq]
    rfl
  · rw [applyClaim_held s n seq p r c held, claimAnswered, object_eq]
    rfl
  · rw [send_of_admits s x ⟨transmits, free, place⟩]
    rfl

end Sys2Proof.Proofs
end

section
/-! SUPPORT. REGIME and HEAT-TAKE with their OBJECTs (R38, R42, R47, R48, R162), and FAULT, ICE and HEAT-GIVE (R36, R154, R163). -/

namespace Sys2Proof.Proofs

open Sys2Proof Sys2Proof.Machine Sys2Proof.Laws

section
variable (s : State) (n : Nat)

/-! ## The evaluations (R47, R48) -/

/-- R47's table, in the order of its rows. -/
def regimeReason (band : Fin 4) (d : Direction) : Option ObjectReason :=
  if s.contestFree = false then some .notReady else if s.foreign n then some .foreign else if s.cu.isOpen then some .round
  else if (d ≠ s.ru.regime.direction ∧ s.ru.roster.any Entry.occupying) ∨ (s.ru.contests.any fun c => c.target.kind = .regime) then
    some .state
  else if s.ru.regime.band < band ∧ (if s.ru.regime.system = some .ac25 ∨ s.ru.regime.system = some .ac15 then
    min (s.cmax band) 2 else s.cmax band) < s.ru.roster.countP onWire then some .count
  else if s.ru.regime.band < band ∧ anyWithin (s.smin band) (s.ru.roster.filter onWire) then some .spacing
  else none

theorem evaluateRegime_eq (band : Fin 4) (d : Direction) : s.evaluateRegime n band d = regimeReason s n band d := by
  have wire : s.nonScrapers = s.ru.roster.filter onWire := rfl
  have occupying : s.anyOccupying = s.ru.roster.any Entry.occupying := rfl
  simp only [State.evaluateRegime, firstReason_cons, firstReason_nil, collectorCount_eq, collectorLimit_eq, wire, occupying, regimeReason]
  exact reason_congr (by simp) (reason_congr Iff.rfl (reason_congr Iff.rfl (reason_congr (by simp)
    (reason_congr (by simp) (reason_congr (by simp) rfl)))))

theorem unitSum_eq (l : List Grant) : unitSum l = (l.map fun g => g.units).sum := by
  have from' (k : Nat) : l.foldl (fun n g => n + g.units) k = k + (l.map fun g => g.units).sum := by
    induction l generalizing k with
    | nil => rfl
    | cons g rest ih =>
      rw [List.foldl_cons, ih, List.map_cons, List.sum_cons]
      omega
  exact (from' 0).trans (Nat.zero_add _)

/-- R48's table, in the order of its rows. -/
def heatReason (units : Nat) : Option ObjectReason :=
  if s.contestFree = false then some .notReady else if s.foreign n then some .foreign
  else if s.heatBudget < ((putGrant n units s.iu.grants).map fun g => g.units).sum then some .budget else none

theorem evaluateHeat_eq (units : Nat) : s.evaluateHeat n units = heatReason s n units := by
  simp only [State.evaluateHeat, firstReason_cons, firstReason_nil, unitSum_eq, heatReason]
  exact reason_congr (by simp) (reason_congr Iff.rfl (reason_congr (by simp) rfl))

theorem anyWithin_iff (gap : Nat) (l : List Entry) : anyWithin gap l = true ↔ ∃ (i j : Nat) (x y : Entry), i < j ∧
    l[i]? = some x ∧ l[j]? = some y ∧ x.position < y.position + gap ∧ y.position < x.position + gap := by
  induction l with
  | nil => simp [anyWithin]
  | cons e rest ih =>
    rw [anyWithin, Bool.or_eq_true, ih, List.any_eq_true]
    constructor
    · rintro (⟨y, mem, close⟩ | ⟨i, j, x, y, order, first, second, close⟩)
      · obtain ⟨j, found⟩ := List.mem_iff_getElem?.mp mem
        exact ⟨0, j + 1, e, y, Nat.succ_pos j, rfl, found, (within_iff _ _ _).mp close⟩
      · exact ⟨i + 1, j + 1, x, y, Nat.succ_lt_succ order, first, second, close⟩
    · rintro ⟨i, j, x, y, order, first, second, close⟩
      obtain ⟨j, rfl⟩ : ∃ k, j = k + 1 := ⟨j - 1, by omega⟩
      cases i with
      | zero =>
        obtain rfl : e = x := by simpa using first
        exact .inl ⟨y, List.mem_of_getElem? second, (within_iff _ _ _).mpr close⟩
      | succ i => exact .inr ⟨i, j, x, y, Nat.lt_of_succ_lt_succ order, first, second, close⟩

/-! ## REGIME and HEAT-TAKE applied -/

theorem object_ru (t : State) (target : Target) (x : Option ObjectReason) : (t.object target x).ru = t.ru := by
  cases x with
  | none => rfl
  | some reason => exact aside_ru (aside_send _ _)

variable (seq : Byte)

theorem applyRegime_eq (band : Fin 4) (d : Direction) :
    s.applyNotice n seq (.regime (BitVec.ofNat 8 band.val) (BitVec.ofNat 8 (directionBit d))) =
      if s.contestFree then
        ((s.openContest ⟨n, seq, .regime⟩ (.regime s.ru.regime.band s.ru.regime.direction)).object ⟨n, seq, .regime⟩
          (s.judged (regimeReason s n band d))).changeRegime s.ru.regime.system band d
      else s.object ⟨n, seq, .regime⟩ (s.judged (regimeReason s n band d)) := by
  have carried : (⟨(BitVec.ofNat 8 band.val).toNat % 4, Nat.mod_lt _ (by decide)⟩ : Fin 4) = band := by
    apply Fin.ext
    change (BitVec.ofNat 8 band.val).toNat % 4 = band.val
    rw [BitVec.toNat_ofNat]
    omega
  have way : directionOf ((BitVec.ofNat 8 (directionBit d)).getLsbD 0) = d := by cases d <;> rfl
  rw [← evaluateRegime_eq]
  unfold State.applyNotice State.applyRegime
  simp only [carried, way]
  split <;> rfl

theorem applyHeatTake_eq (units : Byte) : s.applyNotice n seq (.heatTake units) =
    if s.contestFree then
      ((s.openContest ⟨n, seq, .heatTake⟩ (.heatTake (s.grantOf n) (units.toNat % 16))).object ⟨n, seq, .heatTake⟩
        (s.judged (heatReason s n (units.toNat % 16)))).setGrant n (units.toNat % 16)
    else if n = s.own then
      (s.object ⟨n, seq, .heatTake⟩ (s.judged (heatReason s n (units.toNat % 16)))).refuseHeat (objectReasonCode .notReady)
    else s.object ⟨n, seq, .heatTake⟩ (s.judged (heatReason s n (units.toNat % 16))) := by
  rw [← evaluateHeat_eq]
  rfl

/-! ## The OBJECT that undoes (R42) -/

theorem applyObject_undo (k : ContestKind) (other : k ≠ .claim) (reason : Byte) (by' : Nat) (q : Byte) (small : n < 256) :
    s.applyNotice by' q (.object (BitVec.ofNat 8 n) seq (contestKindCode k) reason) =
      (s.withdrawObjects ⟨n, seq, k⟩).undo ⟨n, seq, k⟩ reason := by
  have station : (BitVec.ofNat 8 n).toNat = n := by rw [BitVec.toNat_ofNat, Nat.mod_eq_of_lt small]
  rw [← withdraw_objects s n seq small]
  cases k with
  | claim => exact absurd rfl other
  | regime => simp only [State.applyNotice, State.applyObject, contestKindOf_code, station] <;> rfl
  | heatTake => simp only [State.applyNotice, State.applyObject, contestKindOf_code, station] <;> rfl

section
variable {target : Target} {cs : List Contest} {body : ContestBody} {due : Moment}

/-- A record opened last is the open record of its target, where none was open before. -/
theorem contest_last (opened : s.ru.contests = cs ++ [⟨target, body, due, false⟩]) (fresh : ∀ c ∈ cs, c.target ≠ target) :
    s.contest target = some ⟨target, body, due, false⟩ := by
  rw [State.contest, opened, List.find?_append, List.find?_eq_none.mpr (by simpa using fresh)]
  simp

theorem marked_last (opened : s.ru.contests = cs ++ [⟨target, body, due, false⟩]) (fresh : ∀ c ∈ cs, c.target ≠ target) :
    (s.markObjected target).ru.contests = cs ++ [⟨target, body, due, true⟩] := by
  have marks : (s.markObjected target).ru.contests =
      s.ru.contests.map fun c => if c.target = target then { c with objected := true } else c := rfl
  rw [marks, opened, List.map_append, List.map_singleton, if_pos rfl]
  congr 1
  exact (List.map_congr_left fun c mem => if_neg (fresh c mem)).trans (List.map_id _)

/-- No REGIME record was opened after the last record. -/
theorem closeLaterRegimes_last (b : Bool) (opened : s.ru.contests = cs ++ [⟨target, body, due, b⟩]) (fresh : ∀ c ∈ cs, c.target ≠ target) :
    s.closeLaterRegimes target = s := by
  have later : ((s.ru.contests.dropWhile fun c => c.target != target).drop 1) = [] := by
    rw [opened, List.dropWhile_append_of_pos (by simpa using fresh)]
    simp
  rw [State.closeLaterRegimes, later]
  rfl

end

end

end Sys2Proof.Proofs
end

section
/-! SUPPORT. What an OBJECT undoes (R42); FAULT, ICE, HEAT-GIVE and LEAVE (R29, R36, R154, R163). -/

namespace Sys2Proof.Proofs

open Sys2Proof Sys2Proof.Machine Sys2Proof.Laws

section
variable (s : State) (n : Nat)

theorem grants_of_base {t : State} (h : t.base = s.base) : t.iu.grants = s.iu.grants := by
  simpa only [State.base] using congrArg Base.grants h

theorem base_refuseHeat (reason : Byte) : (s.refuseHeat reason).base = s.base := by
  rw [State.refuseHeat, base_raiseEvent, base_takeFails]

theorem setGrant_spec (units : Nat) : (s.setGrant n units).ru = s.ru ∧ (s.setGrant n units).rlp = s.rlp ∧
    (s.setGrant n units).cu = s.cu ∧ (s.setGrant n units).iu.grants = putGrant n units s.iu.grants ∧
    (s.setGrant n units).iu.table = s.iu.table := by
  have usable (t : State) : t.followUsable.ru = t.ru ∧ t.followUsable.rlp = t.rlp ∧ t.followUsable.cu = t.cu ∧
      t.followUsable.iu.grants = t.iu.grants ∧ t.followUsable.iu.table = t.iu.table := by
    unfold State.followUsable
    split <;> exact ⟨rfl, rfl, rfl, rfl, rfl⟩
  unfold State.setGrant
  dsimp only
  split <;> exact usable _

/-! ## Records undone (R42) -/

section
variable {target : Target} {cs : List Contest} {due : Moment} (reason : Byte) (fresh : ∀ c ∈ cs, c.target ≠ target)
include fresh

/-- An open REGIME record undone: band and direction of before it, and its objected flag set. -/
theorem undo_regime {band : Fin 4} {d : Direction} (opened : s.ru.contests = cs ++ [⟨target, .regime band d, due, false⟩]) :
    (s.undo target reason).ru = { s.ru with
      contests := cs ++ [⟨target, .regime band d, due, true⟩], regime := { s.ru.regime with band := band, direction := d } } := by
  have marked := marked_last s opened fresh
  have undone : (((s.markObjected target).closeLaterRegimes target).changeRegime s.ru.regime.system band d).ru = { s.ru with
      contests := cs ++ [⟨target, .regime band d, due, true⟩], regime := { s.ru.regime with band := band, direction := d } } := by
    rw [closeLaterRegimes_last _ true marked fresh, changeRegime_ru, ← marked]
    rfl
  simp only [State.undo, contest_last s opened fresh]
  rw [if_neg (by simp)]
  split
  · exact undone
  · exact undone

/-- An open HEAT-TAKE record undone: the grant of before it, while it is still the one carried. -/
theorem undo_heat {saved carried : Nat} (opened : s.ru.contests = cs ++ [⟨target, .heatTake saved carried, due, false⟩]) :
    (s.undo target reason).ru.contests = cs ++ [⟨target, .heatTake saved carried, due, true⟩] ∧
      (s.undo target reason).iu.grants =
        if s.grantOf target.station = carried then putGrant target.station saved s.iu.grants else s.iu.grants := by
  have marked := marked_last s opened fresh
  have taken : ∃ u : State, (s.undo target reason).base = u.base ∧ u.ru = (s.markObjected target).ru ∧
      u.iu.grants = if s.grantOf target.station = carried then putGrant target.station saved s.iu.grants else s.iu.grants := by
    obtain ⟨ru, -, -, grants, -⟩ := setGrant_spec (s.markObjected target) target.station saved
    refine ⟨if s.grantOf target.station = carried then (s.markObjected target).setGrant target.station saved else s.markObjected target,
      ?_, ?_, ?_⟩
    · simp only [State.undo, contest_last s opened fresh]
      rw [if_neg (by simp)]
      split
      · exact base_refuseHeat _ reason
      · rfl
    · split
      · exact ru
      · rfl
    · split
      · exact grants
      · rfl
  obtain ⟨u, base, ru, grants⟩ := taken
  exact ⟨(contests_of_base u base).trans ((congrArg Ru.contests ru).trans marked), (grants_of_base u base).trans grants⟩

end

/-! ## FAULT, ICE and HEAT-GIVE -/

theorem faultOf_faultBit (k : FaultKind) : faultOf (BitVec.ofNat 8 (faultBit k)) = some k := by cases k <;> rfl

theorem iceOf_iceCode (o : Ice) : iceOf (iceCode o) = some o := by cases o <;> rfl

variable (seq : Byte)

/-- A FAULT adds its group to the sender's, and with VOLTAGE_MISMATCH takes the system (R36). -/
theorem applyFault_ru (k : FaultKind) (pan detail : Byte) :
    (s.applyNotice n seq (.fault (BitVec.ofNat 8 (faultBit k)) pan detail)).ru = { s.ru with
      peers := (withPeer s n { s.peer n with faults := (s.peer n).faults.union (faultGroup k) }).ru.peers
      regime := { s.ru.regime with system := if k = .voltageMismatch then none else s.ru.regime.system } } := by
  have told (t : State) (e : Event) : (if n = s.own then t else t.raiseEvent e).ru = t.ru := by split <;> rfl
  simp only [State.applyNotice, State.applyFault, faultOf_faultBit]
  by_cases mismatch : k = .voltageMismatch
  · obtain ⟨ru, -⟩ := setSystem_spec (if n = s.own then s.mapPeer n fun x => { x with faults := x.faults.union (faultGroup k) }
      else (s.mapPeer n fun x => { x with faults := x.faults.union (faultGroup k) }).raiseEvent
        (.peerFault n (BitVec.ofNat 8 (faultBit k)) pan detail)) none
    rw [if_pos (by rw [mismatch]), if_pos mismatch, ru, told]
    rfl
  · rw [if_neg (by simpa using mismatch), if_neg mismatch, told]
    rfl

theorem applyIce_other (o : Ice) (other : n ≠ s.own) : s.applyNotice n seq (.ice (iceCode o)) =
    s.mapIu fun i => { i with table := tableSet i.table n (some o) } := by
  simp only [State.applyNotice, State.applyIce, iceOf_iceCode]
  exact if_neg other

theorem applyGive_grants (units : Byte) : (s.applyNotice n seq (.heatGive units)).iu.grants =
    if units.toNat % 16 < s.grantOf n then putGrant n (units.toNat % 16) s.iu.grants else s.iu.grants := by
  obtain ⟨-, -, -, grants, -⟩ := setGrant_spec s n (units.toNat % 16)
  simp only [State.applyNotice, State.applyGive]
  split
  · exact grants
  · rfl

/-! ## LEAVE (R29, R132) -/

/-- Every notice left in a queue was in it before, in the same attempt. -/
def QueueFrom (q q' : List QueuedNotice) : Prop := ∀ x ∈ q', ∃ y ∈ q, y.notice = x.notice ∧ y.inAttempt = x.inAttempt

theorem queueFrom_withdraw (f : QueuedNotice → Bool) : QueueFrom s.rlp.queue (s.withdraw f).rlp.queue := by
  intro x mem
  obtain ⟨y, kept, rfl⟩ := List.mem_map.mp mem
  obtain ⟨before, -⟩ := List.mem_filter.mp kept
  exact ⟨y, before, by split <;> exact ⟨rfl, rfl⟩⟩

theorem QueueFrom.trans {a b c : List QueuedNotice} (first : QueueFrom a b) (second : QueueFrom b c) : QueueFrom a c := by
  intro x mem
  obtain ⟨y, there, notice, attempt⟩ := second x mem
  obtain ⟨z, before, notice', attempt'⟩ := first y there
  exact ⟨z, before, notice'.trans notice, attempt'.trans attempt⟩

theorem dropContest_rlp (target : Target) : (s.dropContest target).rlp = s.rlp := by
  obtain ⟨g, drops, -⟩ := dropContest_shape s target
  rw [drops]

theorem queueFrom_closeContests (f : Contest → Bool) : QueueFrom s.rlp.queue (s.closeContests f).rlp.queue := by
  have each (l : List Contest) (t : State) : QueueFrom t.rlp.queue (l.foldl (fun t c => t.closeContest c.target) t).rlp.queue := by
    induction l generalizing t with
    | nil => exact fun x mem => ⟨x, mem, rfl, rfl⟩
    | cons c rest ih =>
      have first := queueFrom_withdraw (t.dropContest c.target) fun q => objectsTo c.target q.notice
      rw [dropContest_rlp] at first
      exact first.trans (ih _)
  exact each _ s

theorem withdrawn_waits (f : QueuedNotice → Bool) {x : QueuedNotice} (mem : x ∈ (s.withdraw f).rlp.queue) (out : f x = true) : x.inAttempt = true := by
  obtain ⟨y, kept, rfl⟩ := List.mem_map.mp mem
  obtain ⟨-, stays⟩ := List.mem_filter.mp kept
  by_cases same : f y = true
  · rw [if_pos same]
    simpa [same] using stays
  · rw [if_neg same] at out
    exact absurd out same

/-- The records of a station's notices closed: none is left, and its OBJECTs that wait are withdrawn (R29, R30). -/
theorem closeStation_spec : ∃ q g, s.closeStation n = withEntries s q (s.ru.roster.map g)
      (s.ru.contests.filter fun c => c.target.station != n) ∧ (ClearsWindows g fun e => e.station = n) ∧
    ∀ x ∈ q, objectsStation n x.notice = true → x.inAttempt = true := by
  obtain ⟨q, g, closes, clears⟩ := closeContests_shape s fun c => c.target.station = n
  refine ⟨(s.closeStation n).rlp.queue, g, ?_, fun e => (clears e).imp_right ?_, fun x mem objects =>
    withdrawn_waits _ (fun q => objectsStation n q.notice) mem objects⟩
  · have shape (t : State) (roster : List Entry) (cs : List Contest) (h : t = withEntries s q roster cs) (f : QueuedNotice → Bool) :
        t.withdraw f = withEntries s (t.withdraw f).rlp.queue roster cs := by subst h; rfl
    rw [← remaining_station]
    exact shape _ _ _ closes _
  · rintro ⟨window, c, -, kind, d, -, -, -, station⟩
    exact ⟨window, station.symm.trans (by simpa using kind)⟩

end

end Sys2Proof.Proofs
end

section
/-! SUPPORT. LEAVE of another station (R29, R132, R154, R163), and the notices of regime, faults, ice and heat settled. -/

namespace Sys2Proof.Proofs

open Sys2Proof Sys2Proof.Machine Sys2Proof.Laws

section
variable (s : State) (n : Nat) (flags : Byte)

/-- The peer record of a station that has left. -/
def leftPeer : Peer :=
  { s.peer n with
    status := .left, doubtful := false, silence := none
    dropClear := if flags.getLsbD 0 then some (s.now + 5000000) else (s.peer n).dropClear }

/-- The records of a station that has left closed, behind its peer record. -/
def leftStation : State := (withPeer s n (leftPeer s n flags)).closeStation n

/-- Peer, records and entries once a station has left. -/
def leftRoster : State :=
  if flags.getLsbD 0 then (leftStation s n flags).mapRu fun r => { r with
    roster := r.roster.map fun e => if e.station = n then e.cleared .dropping else e }
  else (leftStation s n flags).removeEntries n

/-- What a LEAVE makes of peers, records, entries and queue (R29). -/
structure LeftRoster (v : State) : Prop where
  peers : v.ru.peers = (withPeer s n (leftPeer s n flags)).ru.peers
  units : v.iu = s.iu ∧ v.cu = s.cu
  gone : flags.getLsbD 0 = false → ∀ e ∈ v.ru.roster, e.station ≠ n
  dropping : flags.getLsbD 0 = true → ∀ e ∈ v.ru.roster, e.station = n → e.state = .dropping ∧ e.role = none ∧ e.claimSeq = none
  closed : ∀ c ∈ v.ru.contests, c.target.station ≠ n
  withdrawn : ∀ x ∈ v.rlp.queue, objectsStation n x.notice = true → x.inAttempt = true

theorem removeEntries_queue : QueueFrom s.rlp.queue (s.removeEntries n).rlp.queue :=
  (queueFrom_closeContests s _).trans (queueFrom_closeContests (s.closeClaims n .p0) _)

theorem leftRoster_spec : LeftRoster s n flags (leftRoster s n flags) := by
  obtain ⟨q, g, shape, -, withdrawn⟩ := closeStation_spec (withPeer s n (leftPeer s n flags)) n
  have closed (c : Contest) (mem : c ∈ (leftStation s n flags).ru.contests) : c.target.station ≠ n := by
    rw [leftStation, shape] at mem
    simpa using (List.mem_filter.mp mem).2
  have queue : (leftStation s n flags).rlp.queue = q := by rw [leftStation, shape, withEntries]
  have peers : (leftStation s n flags).ru.peers = (withPeer s n (leftPeer s n flags)).ru.peers := by rw [leftStation, shape, withEntries]
  have units : (leftStation s n flags).iu = s.iu ∧ (leftStation s n flags).cu = s.cu := by
    rw [leftStation, shape, withEntries]
    exact ⟨rfl, rfl⟩
  rw [leftRoster]
  split
  next vented =>
    refine ⟨peers, units, fun plain => absurd (plain.symm.trans vented) Bool.false_ne_true, fun _ e mem station => ?_, closed, ?_⟩
    · obtain ⟨e, -, rfl⟩ := List.mem_map.mp mem
      by_cases there : e.station = n
      · rw [if_pos there]
        exact ⟨rfl, rfl, rfl⟩
      · rw [if_neg there] at station
        exact absurd station there
    · rw [← queue] at withdrawn
      exact withdrawn
  next plain =>
    obtain ⟨q', cs, removes, trimmed⟩ := removeEntries_shape (leftStation s n flags) n
    have kept := removeEntries_queue (leftStation s n flags) n
    refine ⟨by rw [removes]; exact peers, by rw [removes]; exact units, fun _ e mem => ?_, fun vented => absurd vented plain, fun c mem => ?_,
      fun x mem objects => ?_⟩
    · rw [removes] at mem
      simpa using (List.mem_filter.mp mem).2
    · rw [removes] at mem
      exact closed c (trimmed.kept c mem).1
    · obtain ⟨y, before, notice, attempt⟩ := kept x mem
      rw [queue] at before
      rw [← attempt]
      exact withdrawn y before (by rw [notice]; exact objects)

theorem applyLeave_eq (seq : Byte) (other : n ≠ s.own) : s.applyNotice n seq (.leave flags) =
    ((((leftRoster s n flags).raiseEvent (.peerStatus n .left false)).setGrant n 0).mapIu fun i =>
      { i with table := tableSet i.table n none }).dropReady n := by
  have peer : { s.peer n with
      status := .left, doubtful := false, silence := none
      dropClear := if flags.getLsbD 0 then s.timerFor 5000000 else (s.peer n).dropClear } = leftPeer s n flags := rfl
  simp only [State.applyNotice, State.applyLeave]
  rw [if_neg other, leftRoster, leftStation, ← peer]
  rfl

/-- A LEAVE of another station at every unit (R29, R132, R154, R163). -/
theorem applyLeave_spec (seq : Byte) (other : n ≠ s.own) (u : State) (left : u = s.applyNotice n seq (.leave flags)) :
    u.ru = (leftRoster s n flags).ru ∧ u.rlp = (leftRoster s n flags).rlp ∧ u.iu.grants = putGrant n 0 s.iu.grants ∧
      u.iu.table = tableSet s.iu.table n none ∧ u.cu.ready = s.cu.ready.filter (· != n) := by
  obtain ⟨-, ⟨iu, cu⟩, -⟩ := leftRoster_spec s n flags
  obtain ⟨ru, rlp, cu', grants, table⟩ := setGrant_spec ((leftRoster s n flags).raiseEvent (.peerStatus n .left false)) n 0
  have ends (v : State) : ((v.mapIu fun i => { i with table := tableSet i.table n none }).dropReady n).ru = v.ru ∧
      ((v.mapIu fun i => { i with table := tableSet i.table n none }).dropReady n).rlp = v.rlp ∧
      ((v.mapIu fun i => { i with table := tableSet i.table n none }).dropReady n).iu.grants = v.iu.grants ∧
      ((v.mapIu fun i => { i with table := tableSet i.table n none }).dropReady n).iu.table = tableSet v.iu.table n none ∧
      ((v.mapIu fun i => { i with table := tableSet i.table n none }).dropReady n).cu.ready = v.cu.ready.filter (· != n) :=
    ⟨rfl, rfl, rfl, rfl, rfl⟩
  obtain ⟨endRu, endRlp, endGrants, endTable, endReady⟩ :=
    ends (((leftRoster s n flags).raiseEvent (.peerStatus n .left false)).setGrant n 0)
  have told (v : State) (e : Event) : (v.raiseEvent e).ru = v.ru ∧ (v.raiseEvent e).rlp = v.rlp ∧ (v.raiseEvent e).iu = v.iu ∧
      (v.raiseEvent e).cu = v.cu := ⟨rfl, rfl, rfl, rfl⟩
  obtain ⟨toldRu, toldRlp, toldIu, toldCu⟩ := told (leftRoster s n flags) (.peerStatus n .left false)
  rw [left, applyLeave_eq s n flags seq other, endRu, endRlp, endGrants, endTable, endReady, ru, rlp, grants, table, cu', toldRu, toldRlp,
    toldIu, toldCu, iu, cu]
  exact ⟨rfl, rfl, rfl, rfl, rfl⟩

/-- The OBJECT of a reason, queued by an ONLINE station alone (R40). -/
theorem object_judged (t : State) (seq : Byte) (k : ContestKind) (x : Option ObjectReason) : t.object ⟨n, seq, k⟩ (s.judged x) =
    match x with
    | some why =>
      if s.rlp.port = .online then t.send (.object (BitVec.ofNat 8 n) seq (contestKindCode k) (objectReasonCode why)) else t
    | none => t := by
  unfold State.judged
  cases x with
  | none => split <;> rfl
  | some why => split <;> rfl

end

/-! ## The notices of regime, faults, ice and heat -/

section
variable (s : State) (n : Nat) (seq : Byte)

/-- A REGIME and the OBJECT against it, with no record in between (R38, R42). -/
theorem regime_undone (band : Fin 4) (d : Direction) (reason : Byte) (small : n < 256)
    (free : s.ru.contests.length < 8) (fresh : ∀ c ∈ s.ru.contests, c.target ≠ ⟨n, seq, .regime⟩) (u : State)
    (taken : u = s.applyNotice n seq (.regime (BitVec.ofNat 8 band.val) (BitVec.ofNat 8 (directionBit d)))) :
    u.ru = { s.ru with
      regime := { s.ru.regime with band := band, direction := d }
      contests := s.ru.contests ++
        [⟨⟨n, seq, .regime⟩, .regime s.ru.regime.band s.ru.regime.direction, s.now + s.objectionWindow, false⟩] } ∧
    (u.applyNotice 1 0 (.object (BitVec.ofNat 8 n) seq 0x13 reason)).ru = { s.ru with contests := s.ru.contests ++
      [⟨⟨n, seq, .regime⟩, .regime s.ru.regime.band s.ru.regime.direction, s.now + s.objectionWindow, true⟩] } := by
  have effect : u.ru = { s.ru with
      regime := { s.ru.regime with band := band, direction := d }
      contests := s.ru.contests ++
        [⟨⟨n, seq, .regime⟩, .regime s.ru.regime.band s.ru.regime.direction, s.now + s.objectionWindow, false⟩] } := by
    rw [taken, applyRegime_eq, if_pos ((contestFree_iff s).mpr free), changeRegime_ru, object_ru]
    rfl
  refine ⟨effect, ?_⟩
  have opened : (u.withdrawObjects ⟨n, seq, .regime⟩).ru.contests = s.ru.contests ++
      [⟨⟨n, seq, .regime⟩, .regime s.ru.regime.band s.ru.regime.direction, s.now + s.objectionWindow, false⟩] :=
    congrArg Ru.contests effect
  have undone := undo_regime (u.withdrawObjects ⟨n, seq, .regime⟩) reason fresh opened
  have kept : (u.withdrawObjects ⟨n, seq, .regime⟩).ru = u.ru := rfl
  have object := applyObject_undo u n seq .regime (by decide) reason 1 0 small
  rw [kept, effect] at undone
  exact (congrArg State.ru object).trans undone

/-- A HEAT-TAKE of another station, with a record free (R162). -/
theorem heat_taken (units : Byte) (free : s.ru.contests.length < 8) :
    (s.applyNotice n seq (.heatTake units)).iu.grants = putGrant n (units.toNat % 16) s.iu.grants ∧
    (s.applyNotice n seq (.heatTake units)).ru.contests = s.ru.contests ++
      [⟨⟨n, seq, .heatTake⟩, .heatTake (s.grantOf n) (units.toNat % 16), s.now + s.objectionWindow, false⟩] := by
  rw [applyHeatTake_eq, if_pos ((contestFree_iff s).mpr free)]
  obtain ⟨ru, -, -, grants, -⟩ := setGrant_spec ((s.openContest ⟨n, seq, .heatTake⟩
    (.heatTake (s.grantOf n) (units.toNat % 16))).object ⟨n, seq, .heatTake⟩ (s.judged (heatReason s n (units.toNat % 16)))) n
    (units.toNat % 16)
  rw [ru, grants, object_ru, grants_of_base _ (base_object _ _ _)]
  exact ⟨rfl, rfl⟩

theorem heat_full (units : Byte) (other : n ≠ s.own) (full : 8 ≤ s.ru.contests.length) :
    (s.applyNotice n seq (.heatTake units)).base = s.base := by
  rw [applyHeatTake_eq, if_neg (by rw [contestFree_iff]; omega), if_neg other, base_object]

/-- The OBJECT against a HEAT-TAKE, wherever the grant stands by then (R42, R162). -/
theorem heat_undone (k : Nat) (saved due : Nat) (reason : Byte) (small : n < 256) (cs : List Contest)
    (fresh : ∀ c ∈ cs, c.target ≠ ⟨n, seq, .heatTake⟩) (m : Nat) (q : Byte)
    (opened : s.ru.contests = cs ++ [⟨⟨n, seq, .heatTake⟩, .heatTake saved k, due, false⟩]) :
    (s.applyNotice m q (.object (BitVec.ofNat 8 n) seq 0x16 reason)).ru.contests =
        cs ++ [⟨⟨n, seq, .heatTake⟩, .heatTake saved k, due, true⟩] ∧
      (s.applyNotice m q (.object (BitVec.ofNat 8 n) seq 0x16 reason)).iu.grants =
        if s.grantOf n = k then putGrant n saved s.iu.grants else s.iu.grants := by
  have object : s.applyNotice m q (.object (BitVec.ofNat 8 n) seq 0x16 reason) =
      (s.withdrawObjects ⟨n, seq, .heatTake⟩).undo ⟨n, seq, .heatTake⟩ reason :=
    applyObject_undo s n seq .heatTake (by decide) reason m q small
  rw [object]
  exact undo_heat (s.withdrawObjects ⟨n, seq, .heatTake⟩) reason fresh opened

end

/-- Settles O24. -/
theorem regimeFaultIceAndHeatNoticesApply : Obligations.RegimeFaultIceAndHeatNoticesApply := by
  unfold Obligations.RegimeFaultIceAndHeatNoticesApply
  refine ⟨fun s n seq band d reason other small free fresh => ?_, fun s n seq first last length places => ⟨fun k pan detail => ?_, fun o other => ?_,
      fun units => applyGive_grants s n seq units⟩,
    fun s n seq units reason other small => ⟨fun full => ?_, fun free fresh => ?_⟩,
    fun s n seq flags first last other length places => ?_,
    fun s n seq band d units => ⟨?_, ⟨fun free => ?_, fun full other => ?_, fun full own => ?_⟩, fun gap l => anyWithin_iff gap l⟩⟩
  · obtain ⟨u, v⟩ := regime_undone s n seq band d reason small free fresh _ rfl
    intro u' v'
    rw [u, v]
    exact ⟨rfl, rfl, rfl, rfl, rfl, rfl, rfl⟩
  · have ru := applyFault_ru s n seq k pan detail
    refine ⟨?_, congrArg (fun r : Ru => r.regime.system) ru⟩
    have peer : (s.applyNotice n seq (.fault (BitVec.ofNat 8 (faultBit k)) pan detail)).peer n =
        (withPeer s n { s.peer n with faults := (s.peer n).faults.union (faultGroup k) }).peer n :=
      peer_of_peers (by rw [ru]) n
    rw [peer, peer_withPeer s n _ first last length]
  · rw [applyIce_other s n seq o other]
    exact tableGet_tableSet s.iu.table _ first (by omega)
  · have base := heat_full s n seq units other full
    exact ⟨grants_of_base s base, contests_of_base s base⟩
  · obtain ⟨grants, contests⟩ := heat_taken s n seq units free
    exact ⟨grants, contests, fun v m q same _ => heat_undone v n seq _ _ _ reason small _ fresh m q ((congrArg Ru.contests same).trans contests)⟩
  · obtain ⟨peers, ⟨iu, cu⟩, gone, dropping, closed, withdrawn⟩ := leftRoster_spec s n flags
    obtain ⟨ru, rlp, grants, table, ready⟩ := applyLeave_spec s n flags seq other _ rfl
    refine ⟨?_, ?_, ?_, ?_, ?_, grants, ?_, ready⟩
    · exact (peer_of_peers ((congrArg Ru.peers ru).trans peers) n).trans (peer_withPeer s n _ first last length)
    · rw [ru]
      exact gone
    · rw [ru]
      exact dropping
    · rw [ru]
      exact closed
    · rw [rlp]
      exact withdrawn
    · rw [table]
      exact tableGet_tableSet s.iu.table _ first (by omega)
  · rw [applyRegime_eq, object_judged, object_judged]
    rfl
  · have free' : s.contestFree = true := free
    rw [applyHeatTake_eq, if_pos free', object_judged]
    rfl
  · have full' : ¬ s.contestFree = true := ne_true_of_eq_false full
    rw [applyHeatTake_eq, if_neg full', if_neg other, object_judged]
    rfl
  · have full' : ¬ s.contestFree = true := ne_true_of_eq_false full
    rw [applyHeatTake_eq, if_neg full', if_pos own, object_judged]
    rfl

end Sys2Proof.Proofs
end
